-- ==== Sys2Proof/Word.lean ====
section
/-! DEFINITION. The words the interfaces carry and the units of station time (00_scope.md, Conventions). -/

namespace Sys2Proof

/-- One byte of a port frame, a link frame or a time label. -/
abbrev Byte := BitVec 8

/-- Ticks in one second of station time, and oscillator cycles in one accounting second
(00_scope.md, "Station time" and "The accounting second"). -/
abbrev perSecond : Nat := 10000000

/-- Station time as one whole number of ticks, seconds × 10,000,000 + ticks (R1, R23). -/
abbrev Time := Nat

/-- Station time wraps after second 2^40 − 1 (R1). -/
abbrev timeSpan : Nat := 2 ^ 40 * perSecond

end Sys2Proof
end

