-- ==== Sys2Proof/Syntax.lean ====
section
/-! DEFINITION. The commands of the controller: one constructor per row of spec/opcode_table.json. A port command carries
the port it came from, its tag and its argument bytes (section 11.1); an event of the station's inputs carries what the
input brings; an event of the controller's own carries what it names. -/

namespace Sys2Proof

/-- The three client ports (chapter 11). -/
inductive Port where
  | a | b | c
  deriving DecidableEq, Repr

/-- The six loads in the order of their codes 0 to 5 (section 9.6). -/
inductive Load where
  | sensor | gnss | recorder | telemetry | radio | aux
  deriving DecidableEq, Repr

/-- The eight requesters in the order of GET_LOAD's bits (R172). -/
inductive Requester where
  | station | detector | timebase | link | portA | portB | portC | remote
  deriving DecidableEq, Repr

/-- The two causes of a cold reset (R195). -/
inductive ColdCause where
  | powerOn | resetLine
  deriving DecidableEq, Repr

/-- The two heaters, HB on channel 5 and HO on channel 6 (chapter 10). -/
inductive Heater where
  | hb | ho
  deriving DecidableEq, Repr

/-- The two compare channels that COMPARE_MATCH is about (section 2.3). -/
inductive MatchChannel where
  | four | seven
  deriving DecidableEq, Repr

/-- The six measurement readings of one accounting second (R155), as the front end gives them. -/
structure Readings where
  vb : Int
  ib : Int
  tb : Int
  tv : Int
  tosc : Int
  vs : Int
  deriving DecidableEq, Repr

/-- The six samples of one frame read: 18 bytes, most significant first, in channel order (section 4.1). -/
structure Samples where
  s1 : BitVec 24
  s2 : BitVec 24
  s3 : BitVec 24
  s4 : BitVec 24
  s5 : BitVec 24
  s6 : BitVec 24
  deriving DecidableEq, Repr

/-- The commands, in the table's order. -/
inductive Instr where
  | coldReset (cause : ColdCause)
  | resetRelease
  | oscillatorCycle
  | accountingSecond (r : Readings)
  | fullRecalibration (r : Readings)
  | emptyRecalibration (r : Readings)
  | lastGaspStart
  | lastGaspTimeout
  | dormantRestart
  | loadRequestExpiry (load : Load) (who : Requester)
  | minOffReached (load : Load)
  | disciplineSecond
  | refreshRepeat
  | gnssWindowOpen
  | ppsCapture
  | missedSecond
  | ppsLoss
  | labelReceived (eighth : Byte)
  | compareMatch (ch : MatchChannel)
  | heaterBoundary (h : Heater)
  | heaterOffMatch (h : Heater)
  | heaterSecond
  | deferralLimitExpiry (h : Heater)
  | settleComplete
  | dataReadyCapture
  | frameReadComplete (samples : Samples)
  | dataReadyDeadline
  | markerCapture
  | detectorFrame
  | durationLimit (ch : Nat)
  | warmupEnd (ch : Nat)
  | holdoffEnd (ch : Nat)
  | radioWarm
  | transmitOpportunity
  | keyUpLeadEnd
  | endOfAir
  | ackWindowEnd
  | startOfFrameCapture
  | receptionTimeout
  | badFrame (bytes : List Byte)
  | frameNotAccepted (bytes : List Byte)
  | ackReceived (bytes : List Byte)
  | nackReceived (bytes : List Byte)
  | pollReceived (bytes : List Byte)
  | pauseReceived (bytes : List Byte)
  | remoteStatus (bytes : List Byte)
  | remoteCeiling (bytes : List Byte)
  | remoteWake (bytes : List Byte)
  | remoteQuiet (bytes : List Byte)
  | remoteBadCommand (bytes : List Byte)
  | restExpiry
  | pauseExpiry
  | quietExpiry
  | replyExpiry
  | backoffExpiry (slot : Nat)
  | saveComplete
  | framingError (p : Port) (first : Option Byte)
  | replyRead (p : Port) (clocked : Nat)
  | unknownCommand (p : Port) (code : Byte) (tag : Byte) (args : List Byte)
  | getStatus (p : Port) (tag : Byte) (args : List Byte)
  | getNotifications (p : Port) (tag : Byte) (args : List Byte)
  | setNotifyMask (p : Port) (tag : Byte) (args : List Byte)
  | getRights (p : Port) (tag : Byte) (args : List Byte)
  | setRights (p : Port) (tag : Byte) (args : List Byte)
  | saveSettings (p : Port) (tag : Byte) (args : List Byte)
  | resetPart (p : Port) (tag : Byte) (args : List Byte)
  | getTime (p : Port) (tag : Byte) (args : List Byte)
  | getTimeStatus (p : Port) (tag : Byte) (args : List Byte)
  | setTime (p : Port) (tag : Byte) (args : List Byte)
  | resetTime (p : Port) (tag : Byte) (args : List Byte)
  | getChannel (p : Port) (tag : Byte) (args : List Byte)
  | getMarker (p : Port) (tag : Byte) (args : List Byte)
  | getDiscipline (p : Port) (tag : Byte) (args : List Byte)
  | setDiscipline (p : Port) (tag : Byte) (args : List Byte)
  | readTempBins (p : Port) (tag : Byte) (args : List Byte)
  | loadTempBins (p : Port) (tag : Byte) (args : List Byte)
  | drainSamples (p : Port) (tag : Byte) (args : List Byte)
  | getRing (p : Port) (tag : Byte) (args : List Byte)
  | setAcquisition (p : Port) (tag : Byte) (args : List Byte)
  | getDetector (p : Port) (tag : Byte) (args : List Byte)
  | getDetectorChannel (p : Port) (tag : Byte) (args : List Byte)
  | setDetector (p : Port) (tag : Byte) (args : List Byte)
  | setDetectorChannel (p : Port) (tag : Byte) (args : List Byte)
  | listEvents (p : Port) (tag : Byte) (args : List Byte)
  | getEvent (p : Port) (tag : Byte) (args : List Byte)
  | ackEvents (p : Port) (tag : Byte) (args : List Byte)
  | getEventTable (p : Port) (tag : Byte) (args : List Byte)
  | setEventTable (p : Port) (tag : Byte) (args : List Byte)
  | getLink (p : Port) (tag : Byte) (args : List Byte)
  | getLinkSettings (p : Port) (tag : Byte) (args : List Byte)
  | setLink (p : Port) (tag : Byte) (args : List Byte)
  | setGroups (p : Port) (tag : Byte) (args : List Byte)
  | getSlot (p : Port) (tag : Byte) (args : List Byte)
  | getNoticeTable (p : Port) (tag : Byte) (args : List Byte)
  | queueNotice (p : Port) (tag : Byte) (args : List Byte)
  | appendNotice (p : Port) (tag : Byte) (args : List Byte)
  | releaseNotice (p : Port) (tag : Byte) (args : List Byte)
  | abortNotice (p : Port) (tag : Byte) (args : List Byte)
  | freeSlot (p : Port) (tag : Byte) (args : List Byte)
  | setResponder (p : Port) (tag : Byte) (args : List Byte)
  | setNotices (p : Port) (tag : Byte) (args : List Byte)
  | getPower (p : Port) (tag : Byte) (args : List Byte)
  | getLoad (p : Port) (tag : Byte) (args : List Byte)
  | setCeiling (p : Port) (tag : Byte) (args : List Byte)
  | requestLoad (p : Port) (tag : Byte) (args : List Byte)
  | releaseLoad (p : Port) (tag : Byte) (args : List Byte)
  | setPower (p : Port) (tag : Byte) (args : List Byte)
  | getHeater (p : Port) (tag : Byte) (args : List Byte)
  | getHeaterLimits (p : Port) (tag : Byte) (args : List Byte)
  | setHeater (p : Port) (tag : Byte) (args : List Byte)
  | setHeaterLimits (p : Port) (tag : Byte) (args : List Byte)
  | labelByteReceived (b : Byte)
  | requestBadLengthOrCheck (p : Port) (bytes : List Byte)
  deriving DecidableEq, Repr

end Sys2Proof
end

