-- ==== Sys2Proof/Machine/State.lean ====
section
/-! DEFINITION. The state of the controller, block by block, and its values after a cold reset. Every field is plain data.
INVENTORY.md lists each with the rule that names it; a field marked "the model's own" is bookkeeping that
notes/assumptions names. -/

namespace Sys2Proof.Machine

/-- One value per client port. -/
structure PerPort (α : Type) where
  a : α
  b : α
  c : α
  deriving DecidableEq, Repr

/-- One value per detector channel, 1 to 6. -/
structure Six (α : Type) where
  c1 : α
  c2 : α
  c3 : α
  c4 : α
  c5 : α
  c6 : α
  deriving DecidableEq, Repr

/-- One value per load. -/
structure PerLoad (α : Type) where
  sensor : α
  gnss : α
  recorder : α
  telemetry : α
  radio : α
  aux : α
  deriving DecidableEq, Repr

/-- One value per requester. -/
structure PerRequester (α : Type) where
  station : α
  detector : α
  timebase : α
  link : α
  portA : α
  portB : α
  portC : α
  remote : α
  deriving DecidableEq, Repr

/-- One value per heater. -/
structure PerHeater (α : Type) where
  hb : α
  ho : α
  deriving DecidableEq, Repr

/-- One value per power level. -/
structure PerLevel (α : Type) where
  full : α
  reduced : α
  survival : α
  critical : α
  dormant : α
  deriving DecidableEq, Repr

/-! ### Station Time (chapter 1) -/

/-- The five time states (section 1.2). -/
inductive TimeState where
  | free | acquiring | locked | holdover | adrift
  deriving DecidableEq, Repr

/-- The Timebase (R1 to R17). -/
structure Timebase where
  now : Time
  f : Int
  cfreq : Int
  cslew : Int
  ctemp : Int
  state : TimeState
  entry : Time
  uncertainty : Nat
  stepCount : Nat
  lastStep : Time
  ppsSeen : PerPort Bool
  /-- The slot of the ROUTINE TIME notice (R14). -/
  routineRef : Option Nat
  /-- The slot of the URGENT TIME notice (R14). -/
  urgentRef : Option Nat
  deriving DecidableEq, Repr

/-! ### Capture and Compare Channels (chapter 2) -/

/-- A capture record (section 2.1). -/
structure Capture where
  last : Option Time
  unread : Bool
  overwrites : Nat
  deriving DecidableEq, Repr

/-- The modes of a compare channel (section 2.2). -/
inductive CompareMode where
  | off | repeating | oneShot
  deriving DecidableEq, Repr

/-- A pending period and phase with its optional load time (R26). -/
structure PendingLoad where
  period : Nat
  phase : Nat
  loadTime : Option Time
  deriving DecidableEq, Repr

/-- A compare record (section 2.2). -/
structure Compare where
  mode : CompareMode
  period : Nat
  phase : Nat
  next : Time
  waiting : Option PendingLoad
  skipped : Nat
  deriving DecidableEq, Repr

/-- A paired record: a compare record with the fields of section 2.4. -/
structure Paired where
  cmp : Compare
  duty : Nat
  pendingDuty : Option Nat
  boundary : Option Time
  offMatch : Option Time
  output : Bool
  hold : Bool
  deriving DecidableEq, Repr

/-- The Capture/Compare Unit. -/
structure Ccu where
  ch0 : Capture
  ch1 : Capture
  ch2 : Capture
  ch3 : Capture
  markerPending : Bool
  ch4 : Compare
  heaters : PerHeater Paired
  ch7 : Compare
  /-- Strobe pulses given on CONV since the cold reset: the model's own view of that output (R28). -/
  convPulses : Nat
  deriving DecidableEq, Repr

/-! ### Discipline and Holdover (chapter 3) -/

/-- The settings of SET_DISCIPLINE in its order (R58). -/
structure DisciplineCfg where
  lossLimit : Nat
  stepThreshold : Nat
  slewConstant : Nat
  freqConstant : Nat
  lockCount : Nat
  lockWindow : Nat
  unlockWindow : Nat
  gbase : Nat
  adriftLimit : Nat
  refreshLimit : Nat
  windowLength : Nat
  windowInterval : Nat
  labelRate : Nat
  deriving DecidableEq, Repr

/-- The matched PPS (R38, R41): its capture, the forward steps made since, and whether it may still receive a label. -/
structure MatchedPps where
  capture : Time
  stepped : Nat
  awaitsLabel : Bool
  deriving DecidableEq, Repr

/-- One temperature bin (R53). -/
structure TempBin where
  value : Int
  count : Nat
  deriving DecidableEq, Repr

/-- The Discipline Unit (chapter 3). -/
structure Discipline where
  present : Bool
  expected : Time
  absence : Nat
  matched : Option MatchedPps
  lastP : Int
  heldP : Option Int
  label : List Byte
  conflicts : Nat
  conflictLatch : Bool
  lockRun : Nat
  unlockRun : Nat
  bref : Int
  bins : List TempBin
  pointer : Nat
  /-- The continuous GNSS request stands (R56). -/
  continuous : Bool
  /-- Expiry of the open scheduled window, in accounting seconds (R56). -/
  window : Option Nat
  /-- Expiry of the refresh request, in accounting seconds (R57). -/
  refresh : Option Nat
  scheduleCount : Nat
  /-- Refresh state: a rise above the refresh limit has been taken and the uncertainty has not returned since (R57). -/
  aboveRefresh : Bool
  /-- Refresh state: the uncertainty that stands is taken as at or below the refresh limit, until it is next set (R60). -/
  takenLow : Bool
  /-- Accounting seconds since the last refresh request (R57). -/
  sinceRefresh : Nat
  /-- The model's own: this second brought the absence count to the loss limit; PPS_LOSS is due (R39). -/
  lossDue : Bool
  /-- The model's own: this second brought the schedule count to a multiple; GNSS_WINDOW_OPEN is due (R56). -/
  windowDue : Bool
  validPps : Nat
  invalidPps : Nat
  missedSeconds : Nat
  goodLabels : Nat
  badChecks : Nat
  noFix : Nat
  unmatched : Nat
  cfg : DisciplineCfg
  deriving DecidableEq, Repr

/-! ### Sample Acquisition (chapter 4) -/

/-- The sample rates (section 4.1). -/
inductive SampleRate where
  | r50 | r100 | r200
  deriving DecidableEq, Repr

/-- The acquisition states (R61). -/
inductive AcqState where
  | stopped | settling | running
  deriving DecidableEq, Repr

/-- A frame in flight (R62): AWAIT_READY, or READING when `reading` is set. -/
structure InFlight where
  timestamp : Time
  passed : Nat
  setMark : Bool
  deadline : Time
  reading : Bool
  deriving DecidableEq, Repr

/-- A stored frame (section 4.3); MISSING is the absence of samples. -/
structure Frame where
  seq : Nat
  timestamp : Time
  samples : Option Samples
  clipped : Bool
  stepGap : Option Nat
  marker : Bool
  heaterEdge : Bool
  deriving DecidableEq, Repr

/-- One entry of the hold list (section 4.5). -/
structure HoldEntry where
  event : Nat
  mark : Nat
  close : Option Nat
  deriving DecidableEq, Repr

/-- The settings of the Acquisition Unit: the sample rate (SET_DETECTOR) and those of SET_ACQUISITION. -/
structure AcqCfg where
  rate : SampleRate
  settleTime : Nat
  preEvent : Nat
  deriving DecidableEq, Repr

/-- The Acquisition Unit (chapter 4). -/
structure Acquisition where
  state : AcqState
  settleCount : Nat
  /-- The model's own: this second brought the settle count to the settle time; SETTLE_COMPLETE is due (R61, R75). -/
  settleDue : Bool
  inFlight : Option InFlight
  nextSeq : Nat
  edgePending : Bool
  ring : List Frame
  cursor : Nat
  overrun : Nat
  holds : List HoldEntry
  missing : Nat
  stray : Nat
  aborted : Nat
  cfg : AcqCfg
  deriving DecidableEq, Repr

/-! ### Quake Detection (chapter 5) -/

/-- The five channel states (section 5.1). -/
inductive ChannelState where
  | off | warmup | quiet | triggered | holdoff
  deriving DecidableEq, Repr

/-- Why a channel detriggered (chapters 5 and 6). -/
inductive Reason where
  | ratio | duration | gap | sensorOff | reconfigured
  deriving DecidableEq, Repr

/-- The parameters of one channel (section 5.1). -/
structure ChannelCfg where
  enabled : Bool
  weight : Nat
  h : Nat
  ks : Nat
  kl : Nat
  rt : Nat
  rd : Nat
  lmin : Nat
  critical : Bool
  deriving DecidableEq, Repr

/-- One channel record without its parameters (section 5.1). -/
structure Channel where
  m : Int
  sta : Int
  lta : Int
  state : ChannelState
  warm : Nat
  /-- Trigger time and trigger frame; none until the first trigger. -/
  trigger : Option (Time × Nat)
  suspect : Bool
  peakD : Nat
  peakRatio : Nat
  holdoff : Nat
  deriving DecidableEq, Repr

/-- One participant entry (chapters 5 and 6). -/
structure Participant where
  channel : Nat
  offset : Nat
  peakD : Nat
  peakRatio : Nat
  reason : Option Reason
  suspect : Bool
  deriving DecidableEq, Repr

/-- The classes of notices, and the declare priority (section 8.1, R92). -/
inductive NoticeClass where
  | routine | urgent | alarm
  deriving DecidableEq, Repr

/-- The episode (chapter 5): none, OPEN with its event sequence, or LOST. -/
inductive Episode where
  | none
  | opened (seq : Nat)
  | lost
  deriving DecidableEq, Repr

/-- The settings of SET_DETECTOR but the sample rate (R97). Guard and window are in tenths of a second. -/
structure DetectorCfg where
  holdoffTime : Nat
  maxDuration : Nat
  guard : Nat
  window : Nat
  threshold : Nat
  t2 : Nat
  t3 : Nat
  priority : NoticeClass
  deriving DecidableEq, Repr

/-- The Detector (chapter 5). -/
structure Detector where
  params : Six ChannelCfg
  channels : Six Channel
  episode : Episode
  participants : List Participant
  onsetTime : Time
  onsetFrame : Nat
  cls : Nat
  votePeak : Nat
  /-- The vote sum formed on the last frame worked (R87, R98). -/
  vote : Nat
  /-- The GAP and CLIPPED flags of the episode, handed to the record with its updates (R80, R90). -/
  gapFlag : Bool
  clippedFlag : Bool
  gapRun : Nat
  lastEdge : Option Time
  quiet : Bool
  triggers : Nat
  suspects : Nat
  gapActions : Nat
  /-- Frames handed over and not yet taken, in storing order (section 5.2). -/
  waiting : List Frame
  /-- Sequence of the last frame handed to the Detector (R91). -/
  lastHanded : Nat
  cfg : DetectorCfg
  deriving DecidableEq, Repr

/-! ### The Event Table (chapter 6) -/

/-- An alert outcome of an event record (R108). -/
inductive AlertOutcome where
  | none | pending | delivered | failed | notQueued | displaced
  deriving DecidableEq, Repr

/-- An event record (section 6.1). -/
structure Record where
  seq : Nat
  closed : Bool
  revision : Nat
  onset : Time
  declared : Time
  close : Option Time
  timeState : TimeState
  uncertainty : Nat
  onsetFrame : Option Nat
  cls : Nat
  votePeak : Nat
  participants : List Participant
  heaterSwitched : Bool
  levelChanged : Bool
  gap : Bool
  ringLost : Bool
  clipped : Bool
  lostBefore : Nat
  declaredOutcome : AlertOutcome
  updateOutcome : AlertOutcome
  summaryOutcome : AlertOutcome
  pins : Nat
  deriving DecidableEq, Repr

/-- The Event Table (chapter 6). -/
structure EventTable where
  records : List Record
  nextSeq : Nat
  lost : Nat
  lostPending : Nat
  cursors : PerPort Nat
  unreadProtection : Bool
  deriving DecidableEq, Repr

/-! ### The Alert Link (chapter 7) -/

/-- The link states (section 7.6). -/
inductive LinkState where
  | off | clear | strained | silent
  deriving DecidableEq, Repr

/-- A queued REPLY (R130) with the accounting second its command was taken in. -/
structure QueuedReply where
  tag : Nat
  code : Nat
  result : Nat
  taken : Nat
  deriving DecidableEq, Repr

/-- What a transmission or an ack window carries. -/
inductive AirOrigin where
  | segment (slot : Nat)
  | probe
  | reply (r : QueuedReply)
  deriving DecidableEq, Repr

/-- The transmitter (R117). KEYING holds the oscillator cycle at which the lead ends, ON_AIR the cycle at which the
first bit went and the line rate in bit/s. -/
inductive Transmitter where
  | idle
  | keying (frame : List Byte) (origin : AirOrigin) (leadEnd : Nat) (rate : Nat)
  | onAir (frame : List Byte) (origin : AirOrigin) (start : Nat) (rate : Nat)
  deriving DecidableEq, Repr

/-- An open ack window (R121). `undecided` says that the end has been reached and a reception is waited for. -/
structure AckWindow where
  finish : Time
  tag : Nat
  index : Nat
  origin : AirOrigin
  undecided : Bool
  deriving DecidableEq, Repr

/-- A reception in progress (R119). `inWindow` says whether its capture lay within the open ack window, `bytes` holds those
collected, and `lastByte` the oscillator cycle of the last of them, that of the capture while there is none. -/
structure Reception where
  capture : Time
  inWindow : Bool
  lastByte : Nat
  bytes : List Byte
  deriving DecidableEq, Repr

/-- The settings of SET_LINK in its order (R131). -/
structure LinkCfg where
  rateCode : Nat
  keyLead : Nat
  warmup : Nat
  ackWindow : Nat
  rest : Nat
  listenLength : Nat
  listenInterval : Nat
  address : Nat
  enableStatus : Bool
  enableCeiling : Bool
  enableWake : Bool
  enableQuiet : Bool
  deriving DecidableEq, Repr

/-- The Alert Link Controller (chapter 7). -/
structure Link where
  state : LinkState
  health : LinkState
  sendErr : Nat
  recvErr : Nat
  frameErrors : Nat
  tx : Transmitter
  window : Option AckWindow
  reception : Option Reception
  listenAsk : Bool
  warm : Bool
  /-- Oscillator cycle at which a line that is warming up becomes warm (R115). -/
  warmAt : Nat
  restPeriod : Nat
  /-- Accounting second of the rest expiry; none when no rest runs (R125). -/
  restExpiry : Option Nat
  probeDue : Bool
  /-- The due or flying probe carries the ALARM mark (R125). -/
  probeAlarm : Bool
  earlyUsed : Bool
  probeTag : Nat
  /-- Oscillator cycle of the pause expiry (R128). -/
  pause : Option Nat
  /-- Accounting second of the quiet expiry (R128). -/
  quiet : Option Nat
  replies : List QueuedReply
  worst : PerPort LinkState
  unaccepted : Nat
  malformed : Nat
  stale : Nat
  disabled : Nat
  repliesDropped : Nat
  cfg : LinkCfg
  groups : BitVec 64
  deriving DecidableEq, Repr

/-! ### Notice Slots (chapter 8) -/

/-- The twelve slot states in the order of their codes (section 8.1). -/
inductive SlotState where
  | empty | held | armed | waiting | sending | awaitAck | backoff | preempted | delivered | failed | aborted | displaced
  deriving DecidableEq, Repr

/-- The kinds of notices (section 8.1). -/
inductive NoticeKind where
  | quakeDeclared | quakeUpdate | quakeSummary | power | time | status | text
  deriving DecidableEq, Repr

/-- The origins of notices (section 8.1). -/
inductive NoticeOrigin where
  | detector | power | timebase | link | port (p : Port)
  deriving DecidableEq, Repr

/-- The power reasons (section 8.1). -/
inductive PowerReason where
  | levelEntry | lastGasp | coldHold
  deriving DecidableEq, Repr

/-- The outcome field of a slot (section 8.1). -/
inductive SlotOutcome where
  | none | delivered | failed | aborted | displaced
  deriving DecidableEq, Repr

/-- The model's own memory of how a slot's start stood when it was last looked at, for the energy-hold counter (R138). -/
inductive StartView where
  | notWaiting | allowed | otherwiseRefused | floorHeld
  deriving DecidableEq, Repr

/-- A slot record (section 8.1). -/
structure Slot where
  responder : Bool
  state : SlotState
  kind : NoticeKind
  cls : NoticeClass
  origin : NoticeOrigin
  event : Option Nat
  reason : PowerReason
  topic : Nat
  mask : Nat
  preemptible : Bool
  abortPending : Bool
  rebuild : Bool
  payload : Option (List Byte)
  segments : Nat
  tag : Nat
  nextSegment : Nat
  attempts : Nat
  /-- Oscillator cycle of the backoff expiry (R142). -/
  backoff : Nat
  queued : Time
  completed : Time
  outcome : SlotOutcome
  view : StartView
  deriving DecidableEq, Repr

/-- An entry of the preemption stack (R144). -/
structure StackEntry where
  slot : Nat
  nextSegment : Nat
  cls : NoticeClass
  by' : Nat
  deriving DecidableEq, Repr

/-- The settings of SET_NOTICES (R153). -/
structure NoticeCfg where
  base : Nat
  retryAlarm : Nat
  retryUrgent : Nat
  retryRoutine : Nat
  deriving DecidableEq, Repr

/-- The Notice Slot Table (chapter 8); the stack is held bottom first. -/
structure NoticeTable where
  slots : List Slot
  stack : List StackEntry
  tagCounter : Nat
  unqueued : Nat
  energyHolds : Nat
  displacements : Nat
  mergedPolls : Nat
  unmatchedPolls : Nat
  cfg : NoticeCfg
  deriving DecidableEq, Repr

/-! ### Power (chapter 9) -/

/-- The power levels in the order of their codes (chapter 9). -/
inductive Level where
  | full | reduced | survival | critical | dormant
  deriving DecidableEq, Repr

/-- One measurement channel (R155). -/
structure Measure where
  value : Int
  bad : Nat
  faulted : Bool
  everGood : Bool
  deriving DecidableEq, Repr

/-- A requester's entry on a load (R169): absent, without expiry, or until an accounting second. -/
inductive Ask where
  | absent
  | standing
  | until (expiry : Nat)
  deriving DecidableEq, Repr

/-- A load record (section 9.6). -/
structure LoadRec where
  on : Bool
  asks : PerRequester Ask
  minOff : Nat
  onCount : Nat
  /-- The model's own: this second brought the min-off count of an allowed OFF load to the setting; MIN_OFF_REACHED is
  due (R168). -/
  onDue : Bool
  deriving DecidableEq, Repr

/-- The settings of SET_POWER in its order (R173). -/
structure PowerCfg where
  cap : Nat
  accept : Nat
  startSoc : Nat
  vfull : Nat
  itaper : Nat
  vempty : Nat
  vcrit : Nat
  vcutoff : Nat
  vrestart : Nat
  sourcePresent : Nat
  chargeMin : Int
  chargeMax : Int
  minDwell : Nat
  eventWake : Nat
  minOff : Nat
  urgentFloor : Nat
  routineFloor : Nat
  standing : BitVec 8
  deriving DecidableEq, Repr

/-- The last-gasp wait (R165): accounting seconds elapsed. -/
structure LastGasp where
  elapsed : Nat
  deriving DecidableEq, Repr

/-- The Power Controller (chapter 9). -/
structure Power where
  vb : Measure
  ib : Measure
  tb : Measure
  tv : Measure
  tosc : Measure
  vs : Measure
  q : Nat
  unverified : Bool
  fullCount : Nat
  emptyCount : Nat
  fullHold : Bool
  soc : Nat
  cd : Nat
  chgEn : Bool
  coldInhibit : Bool
  sourceHeating : Bool
  level : Option Level
  ceiling : Level
  dwell : Nat
  cutoffCount : Nat
  restartCount : Nat
  lastGasp : Option LastGasp
  /-- The model's own: the last-gasp slot has ended within this step, so the wait ends with it (R165). -/
  gaspEnded : Bool
  loads : PerLoad LoadRec
  /-- LINK's ALARM mark on RADIO (R115, R167). -/
  linkAlarm : Bool
  survivalRef : Option Nat
  criticalRef : Option Nat
  coldRef : Option Nat
  /-- The slot of the last-gasp notice, kept until it reaches a final state, also past the end of the wait (R171). -/
  gaspRef : Option Nat
  cfg : PowerCfg
  /-- The settings in force: those of SET_POWER from the next accounting second on (R173). -/
  act : PowerCfg
  deriving DecidableEq, Repr

/-! ### Heaters (chapter 10) -/

/-- The deferral states (section 10.3). DEFERRING holds the oscillator cycle of its first held-back edge. -/
inductive Deferral where
  | none
  | holding
  | deferring (since : Nat)
  | released
  deriving DecidableEq, Repr

/-- The settings of SET_HEATER (R183). -/
structure HeaterCfg where
  setpoint : Int
  band : Nat
  limit : Nat
  deriving DecidableEq, Repr

/-- A thermostat record (chapter 10). -/
structure Thermostat where
  cap : Nat
  computed : Nat
  deferral : Deferral
  edges : Nat
  lastEdge : Option Time
  cfg : HeaterCfg
  deriving DecidableEq, Repr

/-- The settings of SET_HEATER_LIMITS (R184). -/
structure HeaterLimits where
  caps : PerHeater (PerLevel Nat)
  sourceCap : Nat
  vaultHigh : Int
  deriving DecidableEq, Repr

/-- The Heater Controller (chapter 10) with the last reports it has received. -/
structure HeaterUnit where
  units : PerHeater Thermostat
  limits : HeaterLimits
  overTemp : Bool
  level : Option Level
  sourceHeating : Bool
  tbFaulted : Bool
  tvFaulted : Bool
  quiet : Bool
  deriving DecidableEq, Repr

/-! ### Client ports and Settings Store (chapter 11) -/

/-- A transaction on a port (chapter 11). -/
inductive Transaction where
  | none
  | write (bytes : List Byte)
  | read (sent : Nat)
  deriving DecidableEq, Repr

/-- The pending reply of a port (R189). -/
inductive PendingReply where
  | none
  | preparing (tag : Byte)
  | ready (bytes : List Byte)
  deriving DecidableEq, Repr

/-- A rights set (section 11.2). -/
structure Rights where
  read : Bool
  control : Bool
  configure : Bool
  drain : Bool
  deriving DecidableEq, Repr

/-- A port record (chapter 11). Bit n of the set and of the mask stands for notification kind n (section 11.3). -/
structure PortRec where
  transaction : Transaction
  reply : PendingReply
  rights : Rights
  notices : BitVec 16
  mask : BitVec 16
  discarded : Nat
  badChecks : Nat
  framing : Nat
  /-- The reply bytes sent on SDO in the last transaction, from its second byte on; every byte beyond them is sent as 0x00
  (R187): the model's own view of that output. -/
  sdo : List Byte
  deriving DecidableEq, Repr

/-- The image of the Settings Store: every setting and the learned state (section 11.4). -/
structure Image where
  discipline : DisciplineCfg
  acquisition : AcqCfg
  detector : DetectorCfg
  channels : Six ChannelCfg
  unreadProtection : Bool
  link : LinkCfg
  groups : BitVec 64
  notices : NoticeCfg
  power : PowerCfg
  ceiling : Level
  heaters : PerHeater HeaterCfg
  heaterLimits : HeaterLimits
  masks : PerPort (BitVec 16)
  rights : PerPort Rights
  bins : List TempBin
  cfreq : Int
  q : Nat
  deriving DecidableEq, Repr

/-- A save in progress (R193): its copy, the oscillator cycle it ends at, and the port its reply goes to. -/
structure Save where
  copy : Image
  finish : Nat
  automatic : Bool
  replyTo : Option Port
  deriving DecidableEq, Repr

/-- The Settings Store (section 11.4). No image stands for an image that is not valid. -/
structure Store where
  image : Option Image
  invalid : Bool
  save : Option Save
  autoWaiting : Bool
  deriving DecidableEq, Repr

/-- The kinds of the last reset (R194). -/
inductive ResetKind where
  | powerOn | resetLine | resetPart
  deriving DecidableEq, Repr

/-- The reset state and the paces counted from the oscillator: cycles since the release of RESET, and how many
accounting seconds the Power Controller, the Discipline Unit and the Heater Controller have worked. -/
structure Pace where
  held : Bool
  lastReset : ResetKind
  cycles : Nat
  seconds : Nat
  disciplineSeconds : Nat
  heaterSeconds : Nat
  deriving DecidableEq, Repr

/-- The state of the controller and the queue of commands that wait, first in first out. -/
structure State where
  pending : List Instr
  pace : Pace
  tb : Timebase
  ccu : Ccu
  disc : Discipline
  acq : Acquisition
  det : Detector
  ev : EventTable
  link : Link
  nt : NoticeTable
  pw : Power
  ht : HeaterUnit
  ports : PerPort PortRec
  store : Store
  deriving DecidableEq, Repr

/-! ### How a step can stop -/

/-- The faults. The manual has no machine fault: every row of the table has an effect in every state. -/
inductive Fault where
  /-- Raised by no command; it is here so that the type has a member. Safe. -/
  | neverRaised
  deriving DecidableEq, Repr

/-- The refusals. -/
inductive Refusal where
  /-- Raised by exec for a row without a meaning; no row is without one. Safe. -/
  | notModelled (mnemonic : String)
  deriving DecidableEq, Repr

/-! ### Values after a cold reset -/

/-- R17. -/
def Timebase.cold : Timebase :=
  { now := 0, f := 0, cfreq := 0, cslew := 0, ctemp := 0, state := .free, entry := 0, uncertainty := 4294967295,
    stepCount := 0, lastStep := 0, ppsSeen := ⟨false, false, false⟩, routineRef := none, urgentRef := none }

/-- R37. -/
def Capture.cold : Capture := { last := none, unread := false, overwrites := 0 }

/-- R37. -/
def Compare.cold : Compare := { mode := .off, period := 1, phase := 0, next := 0, waiting := none, skipped := 0 }

/-- R37. -/
def Paired.cold : Paired :=
  { cmp := .cold, duty := 0, pendingDuty := none, boundary := none, offMatch := none, output := false, hold := false }

/-- R37. -/
def Ccu.cold : Ccu :=
  { ch0 := .cold, ch1 := .cold, ch2 := .cold, ch3 := .cold, markerPending := false, ch4 := .cold,
    heaters := ⟨.cold, .cold⟩, ch7 := .cold, convPulses := 0 }

/-- The defaults of the table at the head of chapter 3. -/
def DisciplineCfg.default : DisciplineCfg :=
  { lossLimit := 3, stepThreshold := 10000, slewConstant := 16, freqConstant := 256, lockCount := 10, lockWindow := 100,
    unlockWindow := 1000, gbase := 5, adriftLimit := 1000000, refreshLimit := 500000, windowLength := 900,
    windowInterval := 21600, labelRate := 1 }

/-- R60. -/
def Discipline.cold : Discipline :=
  { present := false, expected := 0, absence := 0, matched := none, lastP := 0, heldP := none, label := [],
    conflicts := 0, conflictLatch := false, lockRun := 0, unlockRun := 0, bref := 0,
    bins := List.replicate 16 { value := 0, count := 0 }, pointer := 0, continuous := false, window := none,
    refresh := none, scheduleCount := 0, aboveRefresh := false, takenLow := true, sinceRefresh := 0,
    lossDue := false, windowDue := false,
    validPps := 0, invalidPps := 0, missedSeconds := 0, goodLabels := 0, badChecks := 0, noFix := 0, unmatched := 0,
    cfg := .default }

/-- The defaults of chapter 4. -/
def AcqCfg.default : AcqCfg := { rate := .r100, settleTime := 10, preEvent := 2 }

/-- R76. -/
def Acquisition.cold : Acquisition :=
  { state := .stopped, settleCount := 0, settleDue := false, inFlight := none, nextSeq := 0, edgePending := false,
    ring := [], cursor := 0, overrun := 0, holds := [], missing := 0, stray := 0, aborted := 0, cfg := .default }

/-- The parameter defaults of section 5.1. -/
def ChannelCfg.default (critical : Bool) : ChannelCfg :=
  { enabled := true, weight := 1, h := 8, ks := 3, kl := 10, rt := 48, rd := 24, lmin := 64, critical := critical }

/-- Channels 1, 2 and 3 are members of the critical set by default (section 5.1). -/
def ChannelCfg.defaults : Six ChannelCfg :=
  ⟨.default true, .default true, .default true, .default false, .default false, .default false⟩

/-- R99: the record of a channel after a reset, in the given state. -/
def Channel.fresh (st : ChannelState) : Channel :=
  { m := 0, sta := 0, lta := 0, state := st, warm := 0, trigger := none, suspect := false, peakD := 0, peakRatio := 0,
    holdoff := 0 }

/-- The defaults of chapter 5. -/
def DetectorCfg.default : DetectorCfg :=
  { holdoffTime := 2, maxDuration := 120, guard := 20, window := 10, threshold := 3, t2 := 200000, t3 := 2000000,
    priority := .urgent }

/-- R99. DESIGN CHOICE, unsafe: notes/assumptions/23.md. -/
def Detector.cold : Detector :=
  { params := ChannelCfg.defaults,
    channels := ⟨.fresh .warmup, .fresh .warmup, .fresh .warmup, .fresh .warmup, .fresh .warmup, .fresh .warmup⟩,
    episode := .none, participants := [], onsetTime := 0, onsetFrame := 0, cls := 0, votePeak := 0, vote := 0,
    gapFlag := false, clippedFlag := false, gapRun := 0, lastEdge := none, quiet := false, triggers := 0, suspects := 0, gapActions := 0,
    waiting := [], lastHanded := 0, cfg := .default }

/-- R114. -/
def EventTable.cold : EventTable :=
  { records := [], nextSeq := 1, lost := 0, lostPending := 0, cursors := ⟨0, 0, 0⟩, unreadProtection := true }

/-- The defaults of chapter 7. -/
def LinkCfg.default : LinkCfg :=
  { rateCode := 1, keyLead := 50, warmup := 20, ackWindow := 8, rest := 1800, listenLength := 10, listenInterval := 120,
    address := 0, enableStatus := true, enableCeiling := true, enableWake := true, enableQuiet := true }

/-- R132. -/
def Link.cold : Link :=
  { state := .off, health := .clear, sendErr := 0, recvErr := 0, frameErrors := 0, tx := .idle, window := none,
    reception := none, listenAsk := false, warm := false, warmAt := 0, restPeriod := 1800, restExpiry := none,
    probeDue := false, probeAlarm := false, earlyUsed := false, probeTag := 0, pause := none, quiet := none,
    replies := [], worst := ⟨.off, .off, .off⟩, unaccepted := 0, malformed := 0, stale := 0, disabled := 0,
    repliesDropped := 0, cfg := .default, groups := 0 }

/-- An EMPTY slot: every field cleared (R146, R147). DESIGN CHOICE, unsafe: notes/assumptions/23.md. -/
def Slot.clear : Slot :=
  { responder := false, state := .empty, kind := .text, cls := .routine, origin := .detector, event := none,
    reason := .levelEntry, topic := 0, mask := 0, preemptible := false, abortPending := false, rebuild := false,
    payload := none, segments := 0, tag := 0, nextSegment := 0, attempts := 0, backoff := 0, queued := 0, completed := 0,
    outcome := .none, view := .notWaiting }

/-- The defaults of chapter 8. -/
def NoticeCfg.default : NoticeCfg := { base := 4, retryAlarm := 12, retryUrgent := 6, retryRoutine := 3 }

/-- R154. -/
def NoticeTable.cold : NoticeTable :=
  { slots := List.replicate 12 .clear, stack := [], tagCounter := 0, unqueued := 0, energyHolds := 0, displacements := 0,
    mergedPolls := 0, unmatchedPolls := 0, cfg := .default }

/-- R174: no value yet. DESIGN CHOICE, unsafe: notes/assumptions/23.md. -/
def Measure.cold : Measure := { value := 0, bad := 0, faulted := false, everGood := false }

/-- The defaults of R173. -/
def PowerCfg.default : PowerCfg :=
  { cap := 10000, accept := 243, startSoc := 500, vfull := 14200, itaper := 200, vempty := 11000, vcrit := 11400,
    vcutoff := 10800, vrestart := 12200, sourcePresent := 13500, chargeMin := 0, chargeMax := 450, minDwell := 300,
    eventWake := 600, minOff := 30, urgentFloor := 150, routineFloor := 300, standing := 0x0D }

/-- No requester. -/
def noAsks : PerRequester Ask := ⟨.absent, .absent, .absent, .absent, .absent, .absent, .absent, .absent⟩

/-- R174: OFF, with the min-off count run out. -/
def LoadRec.cold (asks : PerRequester Ask) : LoadRec :=
  { on := false, asks := asks, minOff := 65535, onCount := 0, onDue := false }

/-- R174; Q is start SoC of Qmax until a valid image is restored. -/
def Power.cold : Power :=
  { vb := .cold, ib := .cold, tb := .cold, tv := .cold, tosc := .cold, vs := .cold, q := 180000000, unverified := true,
    fullCount := 0, emptyCount := 0, fullHold := false, soc := 0, cd := 0, chgEn := false, coldInhibit := false,
    sourceHeating := false, level := none, ceiling := .full, dwell := 0, cutoffCount := 0, restartCount := 0,
    lastGasp := none, gaspEnded := false,
    loads := ⟨.cold { noAsks with station := .standing }, .cold noAsks, .cold noAsks, .cold noAsks, .cold noAsks,
      .cold noAsks⟩,
    linkAlarm := false, survivalRef := none, criticalRef := none, coldRef := none, gaspRef := none,
    cfg := .default, act := .default }

/-- R186. -/
def Thermostat.cold (cfg : HeaterCfg) : Thermostat :=
  { cap := 0, computed := 0, deferral := .none, edges := 0, lastEdge := none, cfg := cfg }

/-- The defaults of chapter 10. -/
def HeaterLimits.default : HeaterLimits :=
  { caps := ⟨⟨64, 48, 16, 0, 0⟩, ⟨64, 64, 48, 24, 0⟩⟩, sourceCap := 48, vaultHigh := 350 }

/-- The defaults of chapter 10. -/
def HeaterCfg.defaults : PerHeater HeaterCfg :=
  ⟨{ setpoint := 50, band := 20, limit := 30 }, { setpoint := 250, band := 10, limit := 30 }⟩

/-- R186. -/
def HeaterUnit.cold : HeaterUnit :=
  { units := ⟨.cold HeaterCfg.defaults.hb, .cold HeaterCfg.defaults.ho⟩, limits := .default, overTemp := false,
    level := none, sourceHeating := false, tbFaulted := false, tvFaulted := false, quiet := false }

/-- R196, with the given default rights. -/
def PortRec.cold (rights : Rights) : PortRec :=
  { transaction := .none, reply := .none, rights := rights, notices := 0, mask := 0, discarded := 0, badChecks := 0,
    framing := 0, sdo := [] }

/-- The default rights of section 11.2. -/
def Rights.defaults : PerPort Rights :=
  ⟨{ read := true, control := true, configure := false, drain := true },
   { read := true, control := true, configure := false, drain := false },
   { read := true, control := true, configure := true, drain := false }⟩

/-- R196. -/
def coldPorts : PerPort PortRec :=
  ⟨.cold Rights.defaults.a, .cold Rights.defaults.b, .cold Rights.defaults.c⟩

/-- Every block at its cold-reset values with RESET held low (R195); the image and the waiting commands are outside
the reset. -/
def State.cold (cause : ColdCause) (image : Option Image) (queue : List Instr) : State :=
  { pending := queue,
    pace := { held := true, lastReset := match cause with | .powerOn => .powerOn | .resetLine => .resetLine,
              cycles := 0, seconds := 0, disciplineSeconds := 0, heaterSeconds := 0 },
    tb := .cold, ccu := .cold, disc := .cold, acq := .cold, det := .cold, ev := .cold, link := .cold, nt := .cold,
    pw := .cold, ht := .cold, ports := coldPorts,
    store := { image := image, invalid := image.isNone, save := none, autoWaiting := false } }

/-- The machine right after a power-on reset and the release of RESET, with no valid image in the Settings Store
(R194; DESIGN CHOICE, unsafe: notes/assumptions/6.md). -/
def State.reset : State :=
  { State.cold .powerOn none [] with
    pace := { held := false, lastReset := .powerOn, cycles := 0, seconds := 0, disciplineSeconds := 0,
              heaterSeconds := 0 } }

end Sys2Proof.Machine
end

