-- ==== Sys2Proof/Machine/Operands.lean ====
section
/-! DEFINITION. The byte forms of the interfaces: big-endian fields, two's complement, the 8-byte time format of R16, the
codes of the manual's enumerations, and access to the small fixed families of State. -/

namespace Sys2Proof.Machine

/-! ### Big-endian fields (00_scope.md, "Byte order and check codes") -/

/-- The low `n` bytes of `v`, most significant first. -/
def be : Nat → Nat → List Byte
  | 0, _ => []
  | n + 1, v => BitVec.ofNat 8 (v / 256 ^ n) :: be n v

/-- A signed field of `n` bytes in two's complement. -/
def beInt (n : Nat) (v : Int) : List Byte := be n (v % (256 ^ n : Nat)).toNat

/-- The number a big-endian field spells. -/
def natOf (bs : List Byte) : Nat := bs.foldl (fun acc b => acc * 256 + b.toNat) 0

/-- The number a two's complement field spells. -/
def intOf (bs : List Byte) : Int :=
  if 2 * natOf bs < 256 ^ bs.length then (natOf bs : Int) else (natOf bs : Int) - (256 ^ bs.length : Nat)

/-- The `len` bytes of `bs` from offset `off` on. -/
def fieldAt (bs : List Byte) (off len : Nat) : List Byte := (bs.drop off).take len

/-- An unsigned field of a request or a frame. -/
def natAt (bs : List Byte) (off len : Nat) : Nat := natOf (fieldAt bs off len)

/-- A signed field of a request. -/
def intAt (bs : List Byte) (off len : Nat) : Int := intOf (fieldAt bs off len)

/-- `n` zero bytes, as absent fields are sent. -/
def zeros (n : Nat) : List Byte := List.replicate n 0

/-- A flag as one byte, 0 or 1. -/
def boolByte (b : Bool) : List Byte := [if b then 1 else 0]

/-- A flags byte, its first entry in bit 0. -/
def flagsByte (fs : List Bool) : List Byte := [BitVec.ofNat 8 (fs.foldr (fun b acc => b.toNat + 2 * acc) 0)]

/-! ### Times (R16) -/

/-- A station time or a duration in the transfer format of R16. -/
def timeBytes (t : Time) : List Byte := be 5 (t / perSecond) ++ be 3 (t % perSecond)

/-- An absent time is sent as zeros. -/
def optTimeBytes : Option Time → List Byte
  | none => zeros 8
  | some t => timeBytes t

/-- A received time; none when its ticks field is above 9,999,999 (R16). -/
def timeOf (bs : List Byte) : Option Time :=
  if natAt bs 5 3 < perSecond then some (natAt bs 0 5 * perSecond + natAt bs 5 3) else none

/-- The first whole second later than `t` (R61, R74). -/
def nextSecond (t : Time) : Time := (t / perSecond + 1) * perSecond

/-! ### Arithmetic (00_scope.md, "Arithmetic") -/

/-- A value clamped to ±`m` (R3). -/
def clampAbs (m v : Int) : Int := max (-m) (min m v)

/-- A value clamped to a range. -/
def clampTo (lo hi v : Int) : Int := max lo (min hi v)

/-- A saturating increment. -/
def satInc (top n : Nat) : Nat := if n < top then n + 1 else top

/-- A rolling increment modulo `m`. -/
def rollInc (m n : Nat) : Nat := (n + 1) % m

/-- Addition to a station time, which wraps after second 2^40 − 1 (R1). -/
def addTime (t n : Nat) : Nat := (t + n) % timeSpan

/-! ### Frame sequences modulo 2^32 (R65) -/

/-- Modulus of the 32-bit sequences and counters. -/
abbrev seqSpan : Nat := 2 ^ 32

/-- `a − b` modulo 2^32. -/
def seqDiff (a b : Nat) : Nat := (a + (seqSpan - b % seqSpan)) % seqSpan

/-- `a` lies at or after `b` (R65). -/
def seqAtOrAfter (a b : Nat) : Bool := seqDiff a b < 2 ^ 31

/-- `a` lies after `b` (R65). -/
def seqAfter (a b : Nat) : Bool := seqAtOrAfter a b && a % seqSpan != b % seqSpan

/-! ### The small families of State -/

/-- The value of one port. -/
def PerPort.get {α : Type} (x : PerPort α) : Port → α
  | .a => x.a
  | .b => x.b
  | .c => x.c

/-- The family with one port's value changed. -/
def PerPort.update {α : Type} (x : PerPort α) (p : Port) (f : α → α) : PerPort α :=
  match p with
  | .a => { x with a := f x.a }
  | .b => { x with b := f x.b }
  | .c => { x with c := f x.c }

/-- A function of every port's value. -/
def PerPort.map {α β : Type} (f : α → β) (x : PerPort α) : PerPort β := ⟨f x.a, f x.b, f x.c⟩

/-- The value of one heater. -/
def PerHeater.get {α : Type} (x : PerHeater α) : Heater → α
  | .hb => x.hb
  | .ho => x.ho

/-- The family with one heater's value changed. -/
def PerHeater.update {α : Type} (x : PerHeater α) (h : Heater) (f : α → α) : PerHeater α :=
  match h with
  | .hb => { x with hb := f x.hb }
  | .ho => { x with ho := f x.ho }

/-- The value of one load. -/
def PerLoad.get {α : Type} (x : PerLoad α) : Load → α
  | .sensor => x.sensor
  | .gnss => x.gnss
  | .recorder => x.recorder
  | .telemetry => x.telemetry
  | .radio => x.radio
  | .aux => x.aux

/-- The family with one load's value changed. -/
def PerLoad.update {α : Type} (x : PerLoad α) (l : Load) (f : α → α) : PerLoad α :=
  match l with
  | .sensor => { x with sensor := f x.sensor }
  | .gnss => { x with gnss := f x.gnss }
  | .recorder => { x with recorder := f x.recorder }
  | .telemetry => { x with telemetry := f x.telemetry }
  | .radio => { x with radio := f x.radio }
  | .aux => { x with aux := f x.aux }

/-- The value of one requester. -/
def PerRequester.get {α : Type} (x : PerRequester α) : Requester → α
  | .station => x.station
  | .detector => x.detector
  | .timebase => x.timebase
  | .link => x.link
  | .portA => x.portA
  | .portB => x.portB
  | .portC => x.portC
  | .remote => x.remote

/-- The family with one requester's value replaced. -/
def PerRequester.put {α : Type} (x : PerRequester α) (r : Requester) (v : α) : PerRequester α :=
  match r with
  | .station => { x with station := v }
  | .detector => { x with detector := v }
  | .timebase => { x with timebase := v }
  | .link => { x with link := v }
  | .portA => { x with portA := v }
  | .portB => { x with portB := v }
  | .portC => { x with portC := v }
  | .remote => { x with remote := v }

/-- The requesters in the order of GET_LOAD (R172). -/
def allRequesters : List Requester :=
  [.station, .detector, .timebase, .link, .portA, .portB, .portC, .remote]

/-- The requester a port is (R169). -/
def Port.requester : Port → Requester
  | .a => .portA
  | .b => .portB
  | .c => .portC

/-- The value of channel `ch`, 1 to 6 (any other number reads channel 6; callers check the range). -/
def Six.get {α : Type} (x : Six α) : Nat → α
  | 1 => x.c1
  | 2 => x.c2
  | 3 => x.c3
  | 4 => x.c4
  | 5 => x.c5
  | _ => x.c6

/-- The family with channel `ch` changed. -/
def Six.update {α : Type} (x : Six α) (ch : Nat) (f : α → α) : Six α :=
  match ch with
  | 1 => { x with c1 := f x.c1 }
  | 2 => { x with c2 := f x.c2 }
  | 3 => { x with c3 := f x.c3 }
  | 4 => { x with c4 := f x.c4 }
  | 5 => { x with c5 := f x.c5 }
  | _ => { x with c6 := f x.c6 }

/-- A function of channel number and value, channel by channel. -/
def Six.map {α β : Type} (f : Nat → α → β) (x : Six α) : Six β :=
  ⟨f 1 x.c1, f 2 x.c2, f 3 x.c3, f 4 x.c4, f 5 x.c5, f 6 x.c6⟩

/-- The values of channels 1 to 6. -/
def Six.toList {α : Type} (x : Six α) : List α := [x.c1, x.c2, x.c3, x.c4, x.c5, x.c6]

/-- The channel numbers (chapter 5). -/
def channelNumbers : List Nat := [1, 2, 3, 4, 5, 6]

/-- Sample `ch` of a frame as a signed 24-bit value (R63). -/
def sampleOf (x : Samples) : Nat → Int
  | 1 => x.s1.toInt
  | 2 => x.s2.toInt
  | 3 => x.s3.toInt
  | 4 => x.s4.toInt
  | 5 => x.s5.toInt
  | _ => x.s6.toInt

/-- The entry of one level. -/
def PerLevel.get {α : Type} (x : PerLevel α) : Level → α
  | .full => x.full
  | .reduced => x.reduced
  | .survival => x.survival
  | .critical => x.critical
  | .dormant => x.dormant

/-! ### Codes -/

/-- Time state codes (section 1.2). -/
def TimeState.code : TimeState → Nat
  | .free => 0
  | .acquiring => 1
  | .locked => 2
  | .holdover => 3
  | .adrift => 4

/-- Compare mode codes (R36). -/
def CompareMode.code : CompareMode → Nat
  | .off => 0
  | .repeating => 1
  | .oneShot => 2

/-- Sample-rate codes (R97). -/
def SampleRate.code : SampleRate → Nat
  | .r50 => 0
  | .r100 => 1
  | .r200 => 2

/-- The sample rate of a code (R97). -/
def SampleRate.ofCode : Nat → Option SampleRate
  | 0 => some .r50
  | 1 => some .r100
  | 2 => some .r200
  | _ => none

/-- Samples per second (section 4.1). -/
def SampleRate.perSec : SampleRate → Nat
  | .r50 => 50
  | .r100 => 100
  | .r200 => 200

/-- The channel-4 period of a sample rate (section 4.1). -/
def SampleRate.period : SampleRate → Nat
  | .r50 => 200000
  | .r100 => 100000
  | .r200 => 50000

/-- The rate a channel-4 period stands for. -/
def SampleRate.ofPeriod (p : Nat) : Option SampleRate :=
  if p = 200000 then some .r50 else if p = 100000 then some .r100 else if p = 50000 then some .r200 else none

/-- Acquisition state codes (R69). -/
def AcqState.code : AcqState → Nat
  | .stopped => 0
  | .settling => 1
  | .running => 2

/-- Channel state codes (R98). -/
def ChannelState.code : ChannelState → Nat
  | .off => 0
  | .warmup => 1
  | .quiet => 2
  | .triggered => 3
  | .holdoff => 4

/-- Detrigger reason codes (section 6.7). -/
def reasonCode : Option Reason → Nat
  | none => 0
  | some .ratio => 1
  | some .duration => 2
  | some .gap => 3
  | some .sensorOff => 4
  | some .reconfigured => 5

/-- Alert outcome codes (section 6.7). -/
def AlertOutcome.code : AlertOutcome → Nat
  | .none => 0
  | .pending => 1
  | .delivered => 2
  | .failed => 3
  | .notQueued => 4
  | .displaced => 5

/-- Link state codes (R126). -/
def LinkState.code : LinkState → Nat
  | .off => 0
  | .clear => 1
  | .strained => 2
  | .silent => 3

/-- Severity of a link state: CLEAR, STRAINED, SILENT, OFF (R126). -/
def LinkState.severity : LinkState → Nat
  | .clear => 0
  | .strained => 1
  | .silent => 2
  | .off => 3

/-- The more severe of two link states (R126). -/
def LinkState.worse (a b : LinkState) : LinkState := if a.severity < b.severity then b else a

/-- Notice class codes, which also rank the classes (R135, section 8.1). -/
def NoticeClass.code : NoticeClass → Nat
  | .routine => 0
  | .urgent => 1
  | .alarm => 2

/-- The class of a code (R97, R135). -/
def NoticeClass.ofCode : Nat → Option NoticeClass
  | 0 => some .routine
  | 1 => some .urgent
  | 2 => some .alarm
  | _ => none

/-- `a` is a higher class than `b` (section 8.1). -/
def NoticeClass.above (a b : NoticeClass) : Bool := b.code < a.code

/-- Slot state codes (section 8.1). -/
def SlotState.code : SlotState → Nat
  | .empty => 0
  | .held => 1
  | .armed => 2
  | .waiting => 3
  | .sending => 4
  | .awaitAck => 5
  | .backoff => 6
  | .preempted => 7
  | .delivered => 8
  | .failed => 9
  | .aborted => 10
  | .displaced => 11

/-- The final states (section 8.1). -/
def SlotState.final : SlotState → Bool
  | .delivered => true
  | .failed => true
  | .aborted => true
  | .displaced => true
  | .empty => false
  | .held => false
  | .armed => false
  | .waiting => false
  | .sending => false
  | .awaitAck => false
  | .backoff => false
  | .preempted => false

/-- Notice kind codes; TEXT is 7 as in SET_RESPONDER (R137, R148). -/
def NoticeKind.code : NoticeKind → Nat
  | .quakeDeclared => 1
  | .quakeUpdate => 2
  | .quakeSummary => 3
  | .power => 4
  | .time => 5
  | .status => 6
  | .text => 7

/-- Origin codes (R152). -/
def NoticeOrigin.code : NoticeOrigin → Nat
  | .detector => 0
  | .power => 1
  | .timebase => 2
  | .link => 3
  | .port .a => 4
  | .port .b => 5
  | .port .c => 6

/-- Power reason codes (R137). -/
def PowerReason.code : PowerReason → Nat
  | .levelEntry => 0
  | .lastGasp => 1
  | .coldHold => 2

/-- Slot outcome codes (R152). -/
def SlotOutcome.code : SlotOutcome → Nat
  | .none => 0
  | .delivered => 1
  | .failed => 2
  | .aborted => 3
  | .displaced => 4

/-- Level codes; the order from FULL down is the order of the codes (R137, R172). -/
def Level.code : Level → Nat
  | .full => 0
  | .reduced => 1
  | .survival => 2
  | .critical => 3
  | .dormant => 4

/-- The ceiling a code names (R129, R163). -/
def Level.ofCeilingCode : Nat → Option Level
  | 0 => some .full
  | 1 => some .reduced
  | 2 => some .survival
  | 3 => some .critical
  | _ => none

/-- `a` is a lower level than `b` (chapter 9). -/
def Level.below (a b : Level) : Bool := b.code < a.code

/-- The lower of two levels (R161). -/
def Level.lower (a b : Level) : Level := if a.below b then a else b

/-- The level of a code, 255 standing for none (R172). -/
def levelCode : Option Level → Nat
  | none => 255
  | some l => l.code

/-- Load codes (section 9.6). -/
def Load.code : Load → Nat
  | .sensor => 0
  | .gnss => 1
  | .recorder => 2
  | .telemetry => 3
  | .radio => 4
  | .aux => 5

/-- The load of a code (section 9.6). -/
def Load.ofCode : Nat → Option Load
  | 0 => some .sensor
  | 1 => some .gnss
  | 2 => some .recorder
  | 3 => some .telemetry
  | 4 => some .radio
  | 5 => some .aux
  | _ => none

/-- The loads in the order of their codes. -/
def allLoads : List Load := [.sensor, .gnss, .recorder, .telemetry, .radio, .aux]

/-- The port of a code (R191). -/
def Port.ofCode : Nat → Option Port
  | 0 => some .a
  | 1 => some .b
  | 2 => some .c
  | _ => none

/-- The heater of a code (R183). -/
def Heater.ofCode : Nat → Option Heater
  | 0 => some .hb
  | 1 => some .ho
  | _ => none

/-- Heater codes (R185). -/
def Heater.code : Heater → Nat
  | .hb => 0
  | .ho => 1

/-- Deferral state codes (R185). -/
def Deferral.code : Deferral → Nat
  | .none => 0
  | .holding => 1
  | .deferring _ => 2
  | .released => 3

/-- Reset kind codes (R194). -/
def ResetKind.code : ResetKind → Nat
  | .powerOn => 0
  | .resetLine => 1
  | .resetPart => 2

/-- A rights set as its byte (R191). -/
def Rights.byte (r : Rights) : List Byte := flagsByte [r.read, r.control, r.configure, r.drain]

/-- The line rates of SET_LINK in bit/s (R131). -/
def lineRate : Nat → Nat
  | 0 => 1200
  | 1 => 2400
  | 2 => 4800
  | _ => 9600

end Sys2Proof.Machine
end

