-- ==== Sys2Proof/Machine/Flags.lean ====
section
/-! DEFINITION. Check codes and the small derived flags: the 16-bit check of R118, the label's sum (R40), the group hash (R120), the
notification kinds (section 11.3) and the lines RDY and ATN (R189, R192). -/

namespace Sys2Proof.Machine

/-- One data bit through the check register (R118, item 3). -/
def checkBit (reg : BitVec 16) (bit : Bool) : BitVec 16 :=
  if reg.msb != bit then (reg <<< 1) ^^^ 0x1021 else reg <<< 1

/-- One byte through the check register, most significant bit first (R118, item 2). -/
def checkByte (reg : BitVec 16) (b : Byte) : BitVec 16 :=
  [7, 6, 5, 4, 3, 2, 1, 0].foldl (fun r i => checkBit r (b.getLsbD i)) reg

/-- The 16-bit check over a run of bytes (R118). -/
def checkOf (bs : List Byte) : BitVec 16 := bs.foldl checkByte 0xFFFF

/-- A run of bytes followed by its check, high byte first (R118). -/
def withCheck (bs : List Byte) : List Byte := bs ++ be 2 (checkOf bs).toNat

/-- The sum of a label's bytes 1 to 6 modulo 256 (R40). -/
def labelSum (label : List Byte) : Byte := ((label.drop 1).take 6).foldl (· + ·) 0

/-- The group hash h(g) (R120). -/
def groupHash (g : BitVec 16) : Nat := ((g ^^^ (g >>> 6) ^^^ (g >>> 12)) &&& 63).toNat

/-- The notification kinds (section 11.3). -/
inductive Kind where
  | eventDeclared | eventClosed | eventClass | levelChanged | timeState | slotFinished | slotDisplaced | linkState
  | loadChanged
  deriving DecidableEq, Repr

/-- The bit of a notification kind (section 11.3). -/
def Kind.bit : Kind → BitVec 16
  | .eventDeclared => 0x001
  | .eventClosed => 0x002
  | .eventClass => 0x004
  | .levelChanged => 0x008
  | .timeState => 0x010
  | .slotFinished => 0x020
  | .slotDisplaced => 0x040
  | .linkState => 0x080
  | .loadChanged => 0x100

/-- ATN is high while the set holds a kind that is not masked (R192). -/
def PortRec.atn (r : PortRec) : Bool := (r.notices &&& ~~~ r.mask) != 0

/-- RDY is high while a reply is ready (R189). -/
def PortRec.rdy (r : PortRec) : Bool :=
  match r.reply with
  | .ready _ => true
  | .preparing _ => false
  | .none => false

/-- What a port has sent on SDO for the byte clocked `k` places after the kind byte of its last transaction: its reply, then
0x00 (R187). -/
def PortRec.sends (k : Nat) (r : PortRec) : Byte := r.sdo.getD k 0

/-- SDO of a port for such a byte; while RESET is held low every byte is sent as 0x00 (R187, R195). -/
def sdoByte (p : Port) (k : Nat) (s : State) : Byte := if s.pace.held then 0 else (s.ports.get p).sends k

/-- The flags byte of an event record as GET_EVENT gives it (section 6.7). -/
def Record.flags (r : Record) : List Byte :=
  flagsByte [r.heaterSwitched, r.levelChanged, r.gap, r.ringLost, r.clipped, r.onsetFrame.isSome]

/-- The flags byte of a stored frame as DRAIN_SAMPLES gives it (R68). -/
def Frame.flags (f : Frame) : List Byte :=
  flagsByte [f.samples.isNone, f.clipped, f.stepGap.isSome, f.marker, f.heaterEdge]

/-- The effective rate correction: the sum of the held parts clamped to ±5,000,000 (R3). -/
def Timebase.rate (tb : Timebase) : Int := clampAbs 5000000 (tb.cfreq + tb.cslew + tb.ctemp)

/-- KEY is asserted from key-up to the end of air (R117). -/
def Link.key (l : Link) : Bool := l.tx != .idle

end Sys2Proof.Machine
end

