-- ==== Sys2Proof/Machine/Ops.lean ====
section
/-! DEFINITION. The shared operations every block uses: changing one block of State, notifications (R192), a requester's entry on a load
(R169), the replies of a port (R188, R189), and how an event that is due is taken. -/

namespace Sys2Proof.Machine

/-! ### One block of State changed -/

/-- The paces changed. -/
def State.onPace (s : State) (f : Pace → Pace) : State := { s with pace := f s.pace }
/-- The Timebase changed. -/
def State.onTb (s : State) (f : Timebase → Timebase) : State := { s with tb := f s.tb }
/-- The CCU changed. -/
def State.onCcu (s : State) (f : Ccu → Ccu) : State := { s with ccu := f s.ccu }
/-- The Discipline Unit changed. -/
def State.onDisc (s : State) (f : Discipline → Discipline) : State := { s with disc := f s.disc }
/-- The Acquisition Unit changed. -/
def State.onAcq (s : State) (f : Acquisition → Acquisition) : State := { s with acq := f s.acq }
/-- The Detector changed. -/
def State.onDet (s : State) (f : Detector → Detector) : State := { s with det := f s.det }
/-- The Event Table changed. -/
def State.onEv (s : State) (f : EventTable → EventTable) : State := { s with ev := f s.ev }
/-- The Alert Link Controller changed. -/
def State.onLink (s : State) (f : Link → Link) : State := { s with link := f s.link }
/-- The Notice Slot Table changed. -/
def State.onNt (s : State) (f : NoticeTable → NoticeTable) : State := { s with nt := f s.nt }
/-- The Power Controller changed. -/
def State.onPw (s : State) (f : Power → Power) : State := { s with pw := f s.pw }
/-- The Heater Controller changed. -/
def State.onHt (s : State) (f : HeaterUnit → HeaterUnit) : State := { s with ht := f s.ht }
/-- The port records changed. -/
def State.onPorts (s : State) (f : PerPort PortRec → PerPort PortRec) : State := { s with ports := f s.ports }
/-- The Settings Store changed. -/
def State.onStore (s : State) (f : Store → Store) : State := { s with store := f s.store }
/-- One port's record changed. -/
def State.onPort (s : State) (p : Port) (f : PortRec → PortRec) : State := s.onPorts fun ps => ps.update p f
/-- One load's record changed. -/
def State.onLoad (s : State) (l : Load) (f : LoadRec → LoadRec) : State :=
  s.onPw fun pw => { pw with loads := pw.loads.update l f }

/-! ### Notifications (R192) -/

/-- A kind added to one port's set. -/
def notify (p : Port) (k : Kind) (s : State) : State :=
  s.onPort p fun r => { r with notices := r.notices ||| k.bit }

/-- A kind added to the sets of all three ports. -/
def notifyAll (k : Kind) (s : State) : State :=
  s.onPorts fun ps => ps.map fun r => { r with notices := r.notices ||| k.bit }

/-! ### Requester entries (R169) -/

/-- A requester's entry on a load written; the load's state is formed again in `settle`. -/
def setAsk (l : Load) (r : Requester) (v : Ask) (s : State) : State :=
  s.onLoad l fun rec' => { rec' with asks := rec'.asks.put r v }

/-- An entry that expires `n` accounting seconds from now (R169). -/
def askFor (n : Nat) (s : State) : Ask := .until (s.pace.seconds + n)

/-! ### Replies (section 11.1) -/

/-- The status codes of section 11.1. -/
inductive Status where
  | ok | denied | badCheck | badLength | badCommand | outOfRange | busy | noSlot | notFound | timeBackward | notReady
  deriving DecidableEq, Repr

/-- The code of a status (section 11.1). -/
def Status.code : Status → Byte
  | .ok => 0
  | .denied => 1
  | .badCheck => 2
  | .badLength => 3
  | .badCommand => 4
  | .outOfRange => 5
  | .busy => 6
  | .noSlot => 7
  | .notFound => 8
  | .timeBackward => 9
  | .notReady => 10

/-- A reply frame from its status to its check (section 11.1). -/
def replyFrame (st : Status) (tag : Byte) (data : List Byte) : List Byte :=
  withCheck (st.code :: tag :: BitVec.ofNat 8 data.length :: data)

/-- The four rights (section 11.2). -/
inductive Right where
  | read | control | configure | drain
  deriving DecidableEq, Repr

/-- Whether a rights set holds a right. -/
def Rights.has (r : Rights) : Right → Bool
  | .read => r.read
  | .control => r.control
  | .configure => r.configure
  | .drain => r.drain

/-- A write that ends discards a reply that is ready or in preparation, and counts it (R189). -/
def discardReply (p : Port) (s : State) : State :=
  s.onPort p fun r =>
    match r.reply with
    | .none => r
    | .preparing _ => { r with reply := .none, discarded := satInc 65535 r.discarded }
    | .ready _ => { r with reply := .none, discarded := satInc 65535 r.discarded }

/-- A reply becomes ready on a port, and RDY rises (R189). -/
def replyReady (p : Port) (st : Status) (tag : Byte) (data : List Byte) (s : State) : State :=
  s.onPort p fun r => { r with reply := .ready (replyFrame st tag data) }

/-- The port sends 0x00 on SDO during a write: no byte of a reply (R187). -/
def sendZeros (p : Port) (s : State) : State := s.onPort p fun r => { r with sdo := [] }

/-- What a command answers: the state it leaves, and its status and data, or none while it is still in preparation. -/
structure Answer where
  after : State
  reply : Option (Status × List Byte)

/-- A refusal changes nothing and carries no data (R188). -/
def refuse (st : Status) (s : State) : Answer := { after := s, reply := some (st, []) }

/-- A command that was taken. -/
def taken (data : List Byte) (s : State) : Answer := { after := s, reply := some (.ok, data) }

/-- The reply in preparation becomes ready, unless a reset of the port within the command has discarded it
(R170, R189, R190). -/
def finishReply (p : Port) (tag : Byte) (a : Answer) : State :=
  match a.reply with
  | none => a.after
  | some (st, data) =>
    match (a.after.ports.get p).reply with
    | .preparing _ => replyReady p st tag data a.after
    | .none => a.after
    | .ready _ => a.after

/-- A write whose length, check and command are right: the right is checked and the command runs (R188, items 4 and 5;
R189). While RESET is held low a transaction is ignored (R195). DESIGN CHOICE, unsafe: notes/assumptions/14.md. -/
def request (p : Port) (tag : Byte) (right : Right) (run : State → Answer) (s : State) :
    Host.Outcome State Fault Refusal :=
  if s.pace.held then .next s
  else
    let s1 := sendZeros p (discardReply p s)
    if (s1.ports.get p).rights.has right then
      .next (finishReply p tag (run (s1.onPort p fun r => { r with reply := .preparing tag })))
    else .next (replyReady p .denied tag [] s1)

/-! ### Events -/

/-- An event is taken when it is due; one that is not due has not happened, and while RESET is held low none happens
(DEDUCED, safe: notes/assumptions/7.md). -/
def takeEvent (due : State → Bool) (effect : State → State) (s : State) : Host.Outcome State Fault Refusal :=
  if !s.pace.held && due s then .next (effect s) else .next s

end Sys2Proof.Machine
end

