-- ==== Sys2Proof/WellFormed.lean ====
section
/-! DEFINITION. Which commands are well formed: the operand ranges that the frames of R117, R119 and R188 and the numbering
of slots and detector channels admit. exec is total and asks nothing of this; it says which terms stand for something that can come. -/

namespace Sys2Proof

/-- The command codes of the catalogue at the end of chapter 11. -/
def catalogueCodes : List Nat :=
  [0x01, 0x02, 0x03, 0x04, 0x05, 0x06, 0x07, 0x10, 0x11, 0x12, 0x13, 0x20, 0x21, 0x30, 0x31, 0x32, 0x33,
   0x40, 0x41, 0x42, 0x50, 0x51, 0x52, 0x53, 0x60, 0x61, 0x62, 0x63, 0x64, 0x70, 0x71, 0x72, 0x73] ++
  [0x80, 0x81, 0x82, 0x83, 0x84, 0x85, 0x86, 0x87, 0x88, 0x90, 0x91, 0x92, 0x93, 0x94, 0x95, 0xA0, 0xA1,
   0xA2, 0xA3]

/-- A request carries 0 to 64 argument bytes (section 11.1). -/
def argsOk (args : List Byte) : Bool := args.length ≤ 64

/-- A reception collects at most the 42 bytes of the largest frame (R117, R119). -/
def linkBytesOk (bytes : List Byte) : Bool := bytes.length ≤ 42

/-- Detector channels are numbered 1 to 6 (chapter 5). -/
def detectorChannelOk (ch : Nat) : Bool := decide (1 ≤ ch ∧ ch ≤ 6)

/-- Well-formedness of a command. -/
def Instr.wellFormed : Instr → Bool
  | .durationLimit ch => detectorChannelOk ch
  | .warmupEnd ch => detectorChannelOk ch
  | .holdoffEnd ch => detectorChannelOk ch
  | .badFrame bytes => linkBytesOk bytes
  | .frameNotAccepted bytes => linkBytesOk bytes
  | .ackReceived bytes => linkBytesOk bytes
  | .nackReceived bytes => linkBytesOk bytes
  | .pollReceived bytes => linkBytesOk bytes
  | .pauseReceived bytes => linkBytesOk bytes
  | .remoteStatus bytes => linkBytesOk bytes
  | .remoteCeiling bytes => linkBytesOk bytes
  | .remoteWake bytes => linkBytesOk bytes
  | .remoteQuiet bytes => linkBytesOk bytes
  | .remoteBadCommand bytes => linkBytesOk bytes
  | .backoffExpiry slot => decide (slot < 12)
  | .framingError _ first => first != some 0x01 && first != some 0x02
  | .unknownCommand _ code _ args => argsOk args && !catalogueCodes.contains code.toNat
  | .getStatus _ _ args => argsOk args
  | .getNotifications _ _ args => argsOk args
  | .setNotifyMask _ _ args => argsOk args
  | .getRights _ _ args => argsOk args
  | .setRights _ _ args => argsOk args
  | .saveSettings _ _ args => argsOk args
  | .resetPart _ _ args => argsOk args
  | .getTime _ _ args => argsOk args
  | .getTimeStatus _ _ args => argsOk args
  | .setTime _ _ args => argsOk args
  | .resetTime _ _ args => argsOk args
  | .getChannel _ _ args => argsOk args
  | .getMarker _ _ args => argsOk args
  | .getDiscipline _ _ args => argsOk args
  | .setDiscipline _ _ args => argsOk args
  | .readTempBins _ _ args => argsOk args
  | .loadTempBins _ _ args => argsOk args
  | .drainSamples _ _ args => argsOk args
  | .getRing _ _ args => argsOk args
  | .setAcquisition _ _ args => argsOk args
  | .getDetector _ _ args => argsOk args
  | .getDetectorChannel _ _ args => argsOk args
  | .setDetector _ _ args => argsOk args
  | .setDetectorChannel _ _ args => argsOk args
  | .listEvents _ _ args => argsOk args
  | .getEvent _ _ args => argsOk args
  | .ackEvents _ _ args => argsOk args
  | .getEventTable _ _ args => argsOk args
  | .setEventTable _ _ args => argsOk args
  | .getLink _ _ args => argsOk args
  | .getLinkSettings _ _ args => argsOk args
  | .setLink _ _ args => argsOk args
  | .setGroups _ _ args => argsOk args
  | .getSlot _ _ args => argsOk args
  | .getNoticeTable _ _ args => argsOk args
  | .queueNotice _ _ args => argsOk args
  | .appendNotice _ _ args => argsOk args
  | .releaseNotice _ _ args => argsOk args
  | .abortNotice _ _ args => argsOk args
  | .freeSlot _ _ args => argsOk args
  | .setResponder _ _ args => argsOk args
  | .setNotices _ _ args => argsOk args
  | .getPower _ _ args => argsOk args
  | .getLoad _ _ args => argsOk args
  | .setCeiling _ _ args => argsOk args
  | .requestLoad _ _ args => argsOk args
  | .releaseLoad _ _ args => argsOk args
  | .setPower _ _ args => argsOk args
  | .getHeater _ _ args => argsOk args
  | .getHeaterLimits _ _ args => argsOk args
  | .setHeater _ _ args => argsOk args
  | .setHeaterLimits _ _ args => argsOk args
  | .coldReset _ => true
  | .resetRelease => true
  | .oscillatorCycle => true
  | .accountingSecond _ => true
  | .fullRecalibration _ => true
  | .emptyRecalibration _ => true
  | .lastGaspStart => true
  | .lastGaspTimeout => true
  | .dormantRestart => true
  | .loadRequestExpiry _ _ => true
  | .minOffReached _ => true
  | .disciplineSecond => true
  | .refreshRepeat => true
  | .gnssWindowOpen => true
  | .ppsCapture => true
  | .missedSecond => true
  | .ppsLoss => true
  | .labelReceived _ => true
  | .compareMatch _ => true
  | .heaterBoundary _ => true
  | .heaterOffMatch _ => true
  | .heaterSecond => true
  | .deferralLimitExpiry _ => true
  | .settleComplete => true
  | .dataReadyCapture => true
  | .frameReadComplete _ => true
  | .dataReadyDeadline => true
  | .markerCapture => true
  | .detectorFrame => true
  | .radioWarm => true
  | .transmitOpportunity => true
  | .keyUpLeadEnd => true
  | .endOfAir => true
  | .ackWindowEnd => true
  | .startOfFrameCapture => true
  | .receptionTimeout => true
  | .restExpiry => true
  | .pauseExpiry => true
  | .quietExpiry => true
  | .replyExpiry => true
  | .saveComplete => true
  | .replyRead _ _ => true
  | .labelByteReceived _ => true
  | .requestBadLengthOrCheck _ _ => true

end Sys2Proof
end

