-- ==== Sys2Proof/Decode.lean ====
section
/-! DEFINITION. From what comes from outside to commands: the words of the opcode table, and the transactions of a client
port. No row of spec/opcode_table.json gives its command any bits (its "fields" lists are empty and it has no "fixed"), so
no word spells a command (DESIGN CHOICE, safe: notes/assumptions/1.md). The bytes of a transaction spell one by R187 and
R188, with the codes of the command catalogue at the end of chapter 11. -/

namespace Sys2Proof

/-- The command a word of the opcode table spells: none, because no row gives bits. -/
def decodeTableWord (_nbits _w : Nat) : Option Instr := none

/-- A row of the command catalogue: the code, the command that the code names and the right that the command needs. -/
structure CatalogueRow where
  code : Nat
  command : Port → Byte → List Byte → Instr
  right : Machine.Right

/-- The command catalogue at the end of chapter 11, in its order. -/
def catalogue : List CatalogueRow :=
  [⟨0x01, .getStatus, .read⟩, ⟨0x02, .getNotifications, .read⟩, ⟨0x03, .setNotifyMask, .read⟩,
   ⟨0x04, .getRights, .read⟩, ⟨0x05, .setRights, .configure⟩, ⟨0x06, .saveSettings, .configure⟩,
   ⟨0x07, .resetPart, .configure⟩, ⟨0x10, .getTime, .read⟩, ⟨0x11, .getTimeStatus, .read⟩,
   ⟨0x12, .setTime, .configure⟩, ⟨0x13, .resetTime, .configure⟩, ⟨0x20, .getChannel, .read⟩,
   ⟨0x21, .getMarker, .read⟩, ⟨0x30, .getDiscipline, .read⟩, ⟨0x31, .setDiscipline, .configure⟩,
   ⟨0x32, .readTempBins, .read⟩, ⟨0x33, .loadTempBins, .configure⟩] ++
  [⟨0x40, .drainSamples, .drain⟩, ⟨0x41, .getRing, .read⟩, ⟨0x42, .setAcquisition, .configure⟩,
   ⟨0x50, .getDetector, .read⟩, ⟨0x51, .getDetectorChannel, .read⟩, ⟨0x52, .setDetector, .configure⟩,
   ⟨0x53, .setDetectorChannel, .configure⟩, ⟨0x60, .listEvents, .read⟩, ⟨0x61, .getEvent, .read⟩,
   ⟨0x62, .ackEvents, .read⟩, ⟨0x63, .getEventTable, .read⟩, ⟨0x64, .setEventTable, .configure⟩,
   ⟨0x70, .getLink, .read⟩, ⟨0x71, .getLinkSettings, .read⟩, ⟨0x72, .setLink, .configure⟩,
   ⟨0x73, .setGroups, .configure⟩, ⟨0x80, .getSlot, .read⟩] ++
  [⟨0x81, .getNoticeTable, .read⟩, ⟨0x82, .queueNotice, .control⟩, ⟨0x83, .appendNotice, .control⟩,
   ⟨0x84, .releaseNotice, .control⟩, ⟨0x85, .abortNotice, .control⟩, ⟨0x86, .freeSlot, .control⟩,
   ⟨0x87, .setResponder, .control⟩, ⟨0x88, .setNotices, .configure⟩, ⟨0x90, .getPower, .read⟩,
   ⟨0x91, .getLoad, .read⟩, ⟨0x92, .setCeiling, .control⟩, ⟨0x93, .requestLoad, .control⟩,
   ⟨0x94, .releaseLoad, .control⟩, ⟨0x95, .setPower, .configure⟩, ⟨0xA0, .getHeater, .read⟩,
   ⟨0xA1, .getHeaterLimits, .read⟩, ⟨0xA2, .setHeater, .configure⟩, ⟨0xA3, .setHeaterLimits, .configure⟩]

/-- The catalogue's row of a code; a code not listed has none (R188, item 3). -/
def catalogueRow (code : Byte) : Option CatalogueRow := catalogue.find? fun row => row.code == code.toNat

namespace Machine

/-- The request breaks the length check (R188, item 1). -/
def badLength (bytes : List Byte) : Bool :=
  decide (bytes.length < 3) || decide (64 < natAt bytes 2 1) || decide (bytes.length < natAt bytes 2 1 + 5)

/-- The request breaks the check (R188, item 2). -/
def badCheck (bytes : List Byte) : Bool :=
  let n := natAt bytes 2 1
  (checkOf (bytes.take (3 + n))).toNat != natAt bytes (3 + n) 2

end Machine

/-- The command of a write whose length and check are right: the one its code names in the catalogue, or UNKNOWN_COMMAND,
with the tag and the declared number of argument bytes; bytes after the check are ignored (R187; R188, items 3 and 5). -/
def requestCommand (p : Port) (bytes : List Byte) : Instr :=
  let code := bytes.getD 0 0
  let tag := bytes.getD 1 0
  let args := Machine.fieldAt bytes 3 (Machine.natAt bytes 2 1)
  match catalogueRow code with
  | some row => row.command p tag args
  | none => .unknownCommand p code tag args

/-- The command of a write, from the bytes after its kind byte, in the order of R188. -/
def writeCommand (p : Port) (bytes : List Byte) : Instr :=
  if Machine.badLength bytes || Machine.badCheck bytes then .requestBadLengthOrCheck p bytes else requestCommand p bytes

/-- The command of one transaction on a port, from the bytes its master clocked from SEL falling to SEL rising: a first byte
0x01 is a write, 0x02 a read of as many bytes as followed, any other a framing error, and so is no whole byte (R187). -/
def transactionCommand (p : Port) (bytes : List Byte) : Instr :=
  match bytes with
  | [] => .framingError p none
  | kind :: rest =>
    if kind = 0x01 then writeCommand p rest
    else if kind = 0x02 then .replyRead p rest.length
    else .framingError p (some kind)

/-- The end of a transaction on a port: the command that its bytes spell waits behind those that came before it (R187). A
transaction comes whole. DESIGN CHOICE, unsafe: notes/assumptions/14.md. -/
def Machine.State.endTransaction (s : Machine.State) (p : Port) (bytes : List Byte) : Machine.State :=
  { s with pending := s.pending ++ [transactionCommand p bytes] }

end Sys2Proof
end

