-- ==== Sys2Proof/Config.lean ====
section
/-! DEFINITION. What the manual leaves open: constants without a body, so that nothing can be proved of their values
(DESIGN CHOICE: notes/assumptions/2.md to 4.md and 8.md say what is safe). -/

namespace Sys2Proof.Config

/-- At one step of station time that both fires the convert strobe over a frame in flight and moves a heater output,
whether the strobe is taken first. R66 lets either be taken first. -/
opaque strobeFirst : Bool

/-- At a level change that closes the OPEN event, whether LEVEL_CHANGED is set before the close. R105 and R164 leave
the order open. -/
opaque levelFlagFirst : Bool

/-- At a level change that comes while the quiet request is set, whether the heater caps are formed before the Detector
takes its report. R164 leaves the order open. -/
opaque capsFirst : Bool

/-- GET_LINK reports a pause left in quanta of 100 ms; R126 states no rounding for a part of a quantum. This says
whether a part counts as a whole one. -/
opaque pausePartCounts : Nat → Bool

end Sys2Proof.Config
end

