-- ==== Sys2Proof/Machine/ChannelOps.lean ====
section
/-! DEFINITION. Operations on the records of the Capture/Compare Unit (chapter 2). They change one record and hand nothing on: the
blocks that own the channels take the firings. -/

namespace Sys2Proof.Machine

/-! ### Capture channels (R18, R19) -/

/-- An edge is captured; one that replaces an unread capture is counted (R18, R19). -/
def Capture.edge (t : Time) (c : Capture) : Capture :=
  { last := some t, unread := true, overwrites := if c.unread then satInc 255 c.overwrites else c.overwrites }

/-- The consumer's read (R19). -/
def Capture.read (c : Capture) : Capture := { c with unread := false, overwrites := 0 }

/-! ### Schedules (R23, R27) -/

/-- The first time at or after `t` that is congruent to the phase modulo the period (R23). -/
def firstMatch (period phase t : Nat) : Time := t + (phase + (period - t % period)) % period

/-- The ranges of a start or load request (R27). -/
def scheduleOk (period phase : Nat) : Bool := decide (0 < period ∧ period ≤ 10 ^ 9 ∧ phase < period)

/-- The further ranges of a paired channel (R27). -/
def pairedOk (mode : CompareMode) (period duty : Nat) : Bool :=
  mode != .oneShot && decide (period % 64 = 0 ∧ duty ≤ 64)

/-- A start request: the schedule is replaced, pending values are discarded and the skipped count is kept; a request
that breaks the ranges leaves the channel as it was (R23, R27). -/
def Compare.start (mode : CompareMode) (period phase : Nat) (start now : Time) (c : Compare) : Compare :=
  if scheduleOk period phase then
    { c with mode := mode, period := period, phase := phase, waiting := none,
             next := firstMatch period phase (if now < start then start else now + 1) }
  else c

/-- A stop (R25). -/
def Compare.stop (c : Compare) : Compare :=
  if c.mode = .off then c else { c with mode := .off, next := 0, waiting := none }

/-- A load request (R25, R26, R27). -/
def Compare.load (period phase : Nat) (loadTime : Option Time) (c : Compare) : Compare :=
  if scheduleOk period phase then
    if c.mode = .off then { c with period := period, phase := phase }
    else { c with waiting := some { period := period, phase := phase, loadTime := loadTime } }
  else c

/-- The channel is running and station time has reached its next match (R24). -/
def Compare.due (now : Time) (c : Compare) : Bool := c.mode != .off && decide (c.next ≤ now)

/-- The pending values become active at a firing of this time, if it is at or after their load time (R26, R33). -/
def Compare.takePending (t : Time) (c : Compare) : Compare :=
  match c.waiting with
  | none => c
  | some p =>
    let qualifies := match p.loadTime with
      | none => true
      | some l => decide (l ≤ t)
    if qualifies then { c with period := p.period, phase := p.phase, waiting := none } else c

/-- A firing by counting (R24). In REPEAT with period 1 a next match already passed is skipped and counted. -/
def Compare.fire (now : Time) (c : Compare) : Compare :=
  let c1 := c.takePending c.next
  match c.mode with
  | .off => c
  | .oneShot => { c1 with mode := .off, next := 0 }
  | .repeating =>
    let next := c.next + c1.period
    if c1.period = 1 ∧ next ≤ now then { c1 with next := now + 1, skipped := rollInc 65536 c1.skipped }
    else { c1 with next := next }

/-- The match times that a forward step to `new` passes, on the active period (R33). -/
def Compare.passed (new : Time) (c : Compare) : Nat := (new - c.next) / c.period + 1

/-- The single firing at a forward step (R33, items 1, 2 and 4). -/
def Compare.stepFire (new : Time) (c : Compare) : Compare :=
  let c1 := { c.takePending new with skipped := (c.skipped + (c.passed new - 1)) % 65536 }
  match c.mode with
  | .off => c
  | .oneShot => { c1 with mode := .off, next := 0 }
  | .repeating => { c1 with next := firstMatch c1.period c1.phase (new + 1) }

/-- The single firing at the backward set (R35). Pending values whose load time lies at or before the new time load at it.
DEDUCED, unsafe: notes/assumptions/35.md. -/
def Compare.setFire (new : Time) (c : Compare) : Compare :=
  let c1 := c.takePending new
  match c.mode with
  | .off => c
  | .oneShot => { c1 with mode := .off, next := 0 }
  | .repeating => { c1 with next := firstMatch c1.period c1.phase (new + 1) }

/-! ### Paired channels (R29 to R32) -/

/-- The off-match of a period that began at `b` (R29). -/
def offMatchOf (b : Time) (duty period : Nat) : Option Time :=
  if 0 < duty ∧ duty < 64 then some (b + duty * (period / 64)) else none

/-- The level the schedule calls for (R29). -/
def Paired.level (now : Time) (p : Paired) : Bool :=
  match p.boundary with
  | none => false
  | some b =>
    if p.duty = 0 then false
    else if 64 ≤ p.duty then true
    else decide (now < b + p.duty * (p.cmp.period / 64))

/-- A start with an initial active duty: the output is clear until the first boundary (R29, R27). -/
def Paired.start (period phase duty : Nat) (start now : Time) (p : Paired) : Paired :=
  if scheduleOk period phase && pairedOk .repeating period duty then
    { p with cmp := p.cmp.start .repeating period phase start now, duty := duty, pendingDuty := none, boundary := none,
             offMatch := none }
  else p

/-- A duty request (R27, R29). -/
def Paired.request (duty : Nat) (p : Paired) : Paired :=
  if 64 < duty then p
  else if p.cmp.mode = .off then { p with duty := duty }
  else { p with pendingDuty := some duty }

/-- The record at a boundary of this time: the pending duty loads, the boundary and the off-match are recorded (R29,
items 1 and 2). The compare record has fired before. -/
def Paired.beginPeriod (t : Time) (p : Paired) : Paired :=
  let duty := p.pendingDuty.getD p.duty
  { p with duty := duty, pendingDuty := none, boundary := some t, offMatch := offMatchOf t duty p.cmp.period }

/-- The duties after a cut of this value, with the off-match computed again (R31). -/
def Paired.cutTo (v : Nat) (p : Paired) : Paired :=
  let duty := min p.duty v
  { p with duty := duty, pendingDuty := p.pendingDuty.map (min · v),
           offMatch := p.boundary.bind fun b => offMatchOf b duty p.cmp.period }

/-- After a cut the output is to be clear at once (R31). -/
def Paired.cutClears (now : Time) (p : Paired) : Bool :=
  p.cmp.mode != .off &&
    (p.duty == 0 ||
      match p.offMatch with
      | none => false
      | some m => decide (m ≤ now))

end Sys2Proof.Machine
end

