-- ==== Sys2Proof/Machine/EventOps.lean ====
section
/-! DEFINITION. Operations of the Event Table (chapter 6): placing and losing declarations, updates and the revision, flags, pins and
alert outcomes. -/

namespace Sys2Proof.Machine

/-- The OPEN record, if there is one (R102). -/
def openRecord (s : State) : Option Record := s.ev.records.find? fun r => !r.closed

/-- The record with a sequence. -/
def recordOf (seq : Nat) (s : State) : Option Record := s.ev.records.find? fun r => r.seq == seq

/-- An update of an OPEN record that changes a transferred field other than the pin count moves the revision (R104). -/
def revised (old new : Record) : Record :=
  if { new with pins := old.pins } = old then new else { new with revision := rollInc 256 old.revision }

/-- One update of the OPEN record (R104, R105). -/
def updateOpen (f : Record → Record) (s : State) : State :=
  s.onEv fun ev => { ev with records := ev.records.map fun r => if r.closed then r else revised r (f r) }

/-- One update of the record with a sequence; only an OPEN record's revision moves (R106). -/
def updateRecord (seq : Nat) (f : Record → Record) (s : State) : State :=
  s.onEv fun ev =>
    { ev with
      records := ev.records.map fun r => if r.seq = seq then (if r.closed then f r else revised r (f r)) else r }

/-- HEATER_SWITCHED on the OPEN record (R105). -/
def flagHeaterSwitched (s : State) : State := updateOpen (fun r => { r with heaterSwitched := true }) s

/-- LEVEL_CHANGED on the OPEN record (R105). -/
def flagLevelChanged (s : State) : State := updateOpen (fun r => { r with levelChanged := true }) s

/-- RING_LOST on the record with a sequence, OPEN or CLOSED (R105). -/
def flagRingLost (seq : Nat) (s : State) : State := updateRecord seq (fun r => { r with ringLost := true }) s

/-- The outcome field of a quake notice's kind written (R108). -/
def Record.withOutcome (k : NoticeKind) (o : AlertOutcome) (r : Record) : Record :=
  match k with
  | .quakeDeclared => { r with declaredOutcome := o }
  | .quakeUpdate => { r with updateOutcome := o }
  | .quakeSummary => { r with summaryOutcome := o }
  | .power => r
  | .time => r
  | .status => r
  | .text => r

/-- An alert outcome written into the record a notice references (R108). -/
def writeOutcome (seq : Nat) (k : NoticeKind) (o : AlertOutcome) (s : State) : State :=
  updateRecord seq (Record.withOutcome k o) s

/-- A slot that references the record leaves EMPTY (R107). -/
def pinRecord (seq : Nat) (s : State) : State := updateRecord seq (fun r => { r with pins := r.pins + 1 }) s

/-- A slot that references the record returns to EMPTY (R107). -/
def unpinRecord (seq : Nat) (s : State) : State := updateRecord seq (fun r => { r with pins := r.pins - 1 }) s

/-- The port that holds DRAIN (R191). -/
def drainHolder (s : State) : Option Port :=
  if s.ports.a.rights.drain then some .a
  else if s.ports.b.rights.drain then some .b
  else if s.ports.c.rights.drain then some .c
  else none

/-- Unread protection does not stand in the way of replacing a sequence (R102, item 2). -/
def mayGiveUp (seq : Nat) (s : State) : Bool :=
  !s.ev.unreadProtection ||
    match drainHolder s with
    | none => true
    | some p => decide (seq ≤ s.ev.cursors.get p)

/-- A record that a declaration may replace (R102, item 2). -/
def qualifies (s : State) (r : Record) : Bool := r.closed && r.pins == 0 && mayGiveUp r.seq s

/-- The lowest sequence of a list of records. -/
def lowestSeq (rs : List Record) : Option Nat :=
  rs.foldl (fun acc r => match acc with | none => some r.seq | some m => some (min m r.seq)) none

/-- The sequence a declaration consumes is followed by the next one; 0 is never assigned (R101). -/
def seqAfterThis (n : Nat) : Nat := if n < seqSpan - 1 then n + 1 else 1

/-- The last sequence consumed: the one before the next sequence, and 0 when none has been (R101). A declaration leaves a
record behind until the next reset, so a next sequence of 1 beside a record has come from the wrap.
DEDUCED, unsafe: notes/assumptions/25.md. -/
def lastConsumed (s : State) : Nat :=
  if s.ev.nextSeq = 1 ∧ s.ev.records ≠ [] then 4294967295 else s.ev.nextSeq - 1

/-- The records with room for one more, or none when the declaration is lost (R102). -/
def roomForRecord (s : State) : Option (List Record) :=
  if s.ev.records.length < 32 then some s.ev.records
  else
    match lowestSeq (s.ev.records.filter (qualifies s)) with
    | none => none
    | some m => some (s.ev.records.filter fun r => r.seq != m)

/-- A declaration handed to the table with its contents: the record is placed (R100 to R102, R109), or the declaration
is lost (R103). The sequence is answered when it is placed. -/
def declareRecord (make : (seq lostBefore : Nat) → Record) (s : State) : State × Option Nat :=
  let seq := s.ev.nextSeq
  match roomForRecord s with
  | some kept =>
    (notifyAll .eventDeclared
      (s.onEv fun ev =>
        { ev with records := kept ++ [make seq ev.lostPending], nextSeq := seqAfterThis seq, lostPending := 0 }),
     some seq)
  | none =>
    (s.onEv fun ev =>
      { ev with nextSeq := seqAfterThis seq, lost := rollInc seqSpan ev.lost, lostPending := satInc 255 ev.lostPending },
     none)

/-- The close of the OPEN record: one more increment of the revision and EVENT_CLOSED (R106, R109). The participants'
final peaks and reasons have been handed over with the update before it. -/
def closeRecord (seq : Nat) (t : Time) (s : State) : State :=
  notifyAll .eventClosed
    (s.onEv fun ev =>
      { ev with
        records := ev.records.map fun r =>
          if r.seq = seq then { r with closed := true, close := some t, revision := rollInc 256 r.revision } else r })

/-- The limit of an acknowledgement: the highest CLOSED sequence below any OPEN one (R110). -/
def ackLimit (s : State) : Nat :=
  s.ev.records.foldl
    (fun acc r =>
      let below := match openRecord s with
        | none => true
        | some o => decide (r.seq < o.seq)
      if r.closed && below then max acc r.seq else acc)
    0

end Sys2Proof.Machine
end

