-- ==== Sys2Proof/Machine/AcqOps.lean ====
section
/-! DEFINITION. Operations of the Acquisition Unit (chapter 4): frames in flight, storing, the ring and its overruns, the drain cursor and
the hold list. -/

namespace Sys2Proof.Machine

/-- The data-ready window: 80 % of a channel-4 period (R62). -/
def readyWindow (period : Nat) : Nat := period * 4 / 5

/-- At least one sample stands at an end of the 24-bit range (R65). -/
def clippedSamples (x : Samples) : Bool :=
  channelNumbers.any fun ch => sampleOf x ch == -8388608 || sampleOf x ch == 8388607

/-- RING_LOST asked for each of some events (R70, R71). -/
def ringLostAll (events : List Nat) (s : State) : State := events.foldl (fun x e => flagRingLost e x) s

/-- The ring takes a frame; a full ring first gives up its oldest frame. Removing a frame the cursor has not passed is
an overrun: it is counted, the cursor moves, and the entries that held the frame break (R67, R71). "Passed" is R65's
comparison, also after 2^31 or more strobes were skipped. DEDUCED, unsafe: notes/assumptions/54.md. -/
def enterRing (f : Frame) (s : State) : State :=
  match s.acq.ring with
  | [] => s.onAcq fun a => { a with ring := [f] }
  | oldest :: rest =>
    if s.acq.ring.length < 8192 then s.onAcq fun a => { a with ring := a.ring ++ [f] }
    else if seqAtOrAfter oldest.seq s.acq.cursor then
      let broken (e : HoldEntry) : Bool := seqAtOrAfter oldest.seq e.mark
      let lost := (s.acq.holds.filter broken).map (·.event)
      let cursor := match rest with
        | [] => f.seq
        | next :: _ => next.seq
      let kept := s.acq.holds.filter fun e =>
        !broken e && !(match e.close with
                       | none => false
                       | some c => seqAfter cursor c)
      ringLostAll lost
        (s.onAcq fun a =>
          { a with ring := rest ++ [f], overrun := satInc (seqSpan - 1) a.overrun, cursor := cursor, holds := kept })
    else s.onAcq fun a => { a with ring := rest ++ [f] }

/-- A frame is stored, complete or MISSING: it takes its sequence, its flags and the two pending marks, enters the ring
and is handed to the Detector (R65, R66). Skipped strobes consume sequences whatever their number, modulo 2^32.
DEDUCED, unsafe: notes/assumptions/54.md. -/
def storeFrame (fl : InFlight) (samples : Option Samples) (s : State) : State :=
  let seq := (s.acq.nextSeq + fl.passed) % seqSpan
  let frame : Frame :=
    { seq := seq, timestamp := fl.timestamp, samples := samples,
      clipped := match samples with
        | none => false
        | some x => clippedSamples x
      stepGap := if 0 < fl.passed then some (min 65535 fl.passed) else if fl.setMark then some 0 else none
      marker := s.ccu.markerPending, heaterEdge := s.acq.edgePending }
  let s1 := (s.onCcu fun c => { c with markerPending := false }).onAcq fun a =>
    { a with nextSeq := rollInc seqSpan seq, edgePending := false, inFlight := none }
  (enterRing frame s1).onDet fun d => { d with waiting := d.waiting ++ [frame], lastHanded := seq }

/-- A frame in flight is stored MISSING and counted (R62, R64). -/
def storeMissing (fl : InFlight) (s : State) : State :=
  storeFrame fl none (s.onAcq fun a => { a with missing := rollInc seqSpan a.missing })

/-- A firing of channel 4: one pulse on CONV, a frame still in flight is ended MISSING, and a new frame stands in
AWAIT_READY (R28, R62). -/
def convertStrobe (t : Time) (passed : Nat) (setMark : Bool) (period : Nat) (s : State) : State :=
  let s1 := s.onCcu fun c => { c with convPulses := c.convPulses + 1 }
  let s2 := match s1.acq.inFlight with
    | none => s1
    | some fl =>
      storeMissing fl
        (if fl.reading then s1.onAcq fun a => { a with aborted := satInc 65535 a.aborted } else s1)
  s2.onAcq fun a =>
    { a with inFlight := some { timestamp := t, passed := passed, setMark := setMark, deadline := t + readyWindow period,
                                reading := false } }

/-- Channel 4 fires by counting (R24, R28). -/
def strobeByCounting (s : State) : State :=
  let t := s.ccu.ch4.next
  let s1 := s.onCcu fun c => { c with ch4 := c.ch4.fire s.tb.now }
  convertStrobe t 0 false s1.ccu.ch4.period s1

/-- Channel 4 at a forward step (R33). -/
def strobeAtStep (new : Time) (s : State) : State :=
  if s.ccu.ch4.due new then
    let passed := s.ccu.ch4.passed new - 1
    let s1 := s.onCcu fun c => { c with ch4 := c.ch4.stepFire new }
    convertStrobe new passed false s1.ccu.ch4.period s1
  else s

/-- Channel 4 at the backward set (R35). -/
def strobeAtSet (new : Time) (s : State) : State :=
  if s.ccu.ch4.mode = .off then s
  else
    let s1 := s.onCcu fun c => { c with ch4 := c.ch4.setFire new }
    convertStrobe new 0 true s1.ccu.ch4.period s1

/-! ### The drain and the hold list -/

/-- The entries whose close frame the cursor has passed are released (R72). -/
def releaseHolds (s : State) : State :=
  s.onAcq fun a =>
    { a with holds := a.holds.filter fun e =>
        !(match e.close with
          | none => false
          | some c => seqAfter a.cursor c) }

/-- The frames a drain request of `n` returns (R68): those that the cursor has not passed by R65's comparison, also after
2^31 or more strobes were skipped. DEDUCED, unsafe: notes/assumptions/54.md. -/
def drainFrames (n : Nat) (s : State) : List Frame :=
  (s.acq.ring.filter fun f => seqAtOrAfter f.seq s.acq.cursor).take n

/-- The onset frame is present in the ring (R70). -/
def frameInRing (seq : Nat) (s : State) : Bool := s.acq.ring.any fun f => f.seq == seq

/-- The mark of a hold request (R70). -/
def holdMark (onset : Nat) (s : State) : Nat :=
  let mark := seqDiff onset (s.acq.cfg.preEvent * s.acq.cfg.rate.perSec)
  match s.acq.ring.head? with
  | none => mark
  | some oldest => if frameInRing onset s && seqAtOrAfter mark oldest.seq then mark else oldest.seq

/-- Of two entries, the one a full list gives up: the lower mark, then the lower event (R70). -/
def lowerEntry (a b : HoldEntry) : HoldEntry :=
  if a.mark = b.mark then (if b.event < a.event then b else a) else if seqAfter a.mark b.mark then b else a

/-- The Detector's hold request (R70). -/
def holdRequest (event onset : Nat) (s : State) : State :=
  if s.acq.holds.any fun e => e.event == event then s
  else
    let entry : HoldEntry := { event := event, mark := holdMark onset s, close := none }
    match s.acq.holds with
    | [] => s.onAcq fun a => { a with holds := [entry] }
    | first :: rest =>
      if s.acq.holds.length < 4 then s.onAcq fun a => { a with holds := a.holds ++ [entry] }
      else
        let out := rest.foldl lowerEntry first
        flagRingLost out.event (s.onAcq fun a => { a with holds := (a.holds.filter fun e => e != out) ++ [entry] })

/-- The close frame of an event is written to its entry, and R72 is applied at once (R70). -/
def closeFrame (event frame : Nat) (s : State) : State :=
  releaseHolds
    (s.onAcq fun a =>
      { a with holds := a.holds.map fun e => if e.event = event then { e with close := some frame } else e })

end Sys2Proof.Machine
end

