-- ==== Sys2Proof/Machine/HeaterOps.lean ====
section
/-! DEFINITION. The heater outputs: edges and their reports (R30, R182), the hold and quiet deferral (R32, R180, R181), cuts (R31), caps (R177)
and the start of the thermostats (R175). -/

namespace Sys2Proof.Machine

/-- A heater's paired channel changed. -/
def onPaired (h : Heater) (f : Paired → Paired) (s : State) : State :=
  s.onCcu fun c => { c with heaters := c.heaters.update h f }

/-- A heater's thermostat record changed. -/
def onThermostat (h : Heater) (f : Thermostat → Thermostat) (s : State) : State :=
  s.onHt fun u => { u with units := u.units.update h f }

/-- A heater's paired channel. -/
def pairedOf (h : Heater) (s : State) : Paired := s.ccu.heaters.get h

/-- A heater's thermostat record. -/
def thermostatOf (h : Heater) (s : State) : Thermostat := s.ht.units.get h

/-- The output of a heater brought to a level at a time. A change is an edge: the Heater Controller counts it, the
Detector restarts its guard from it, the Acquisition Unit marks the next stored frame, and HEATER_SWITCHED is reported
when `switched` says so (R30, R66, R86, R182). -/
def driveOutput (h : Heater) (level : Bool) (t : Time) (switched : Bool) (s : State) : State :=
  if (pairedOf h s).output = level then s
  else
    let s1 := onPaired h (fun p => { p with output := level }) s
    let s2 := onThermostat h (fun u => { u with edges := rollInc seqSpan u.edges, lastEdge := some t }) s1
    let s3 := (s2.onDet fun d => { d with lastEdge := some t }).onAcq fun a => { a with edgePending := true }
    if switched then flagHeaterSwitched s3 else s3

/-- A deferral limit runs out: the hold is released, the heater enters RELEASED, and the output takes the level the
schedule calls for (R32, R181, R182). -/
def releaseAtLimit (h : Heater) (s : State) : State :=
  let s1 := onThermostat h (fun u => { u with deferral := .released }) (onPaired h (fun p => { p with hold := false }) s)
  driveOutput h ((pairedOf h s1).level s1.tb.now) s1.tb.now s1.ht.quiet s1

/-- A firing that calls for a level: without the hold the output takes it; with the hold the first call for another
level is the held-back edge that starts DEFERRING, and a limit of 0 runs out at once (R29, R32, R180, R181, R182). -/
def firingCallsFor (h : Heater) (level : Bool) (t : Time) (s : State) : State :=
  if (pairedOf h s).hold then
    if (thermostatOf h s).deferral = .holding ∧ (pairedOf h s).output ≠ level then
      let s1 := onThermostat h (fun u => { u with deferral := .deferring s.pace.cycles }) s
      if (thermostatOf h s).cfg.limit = 0 then releaseAtLimit h s1 else s1
    else s
  else driveOutput h level t (s.ht.quiet && (thermostatOf h s).deferral == .released) s

/-- A boundary reached by counting (R29). -/
def boundaryFires (h : Heater) (s : State) : State :=
  let t := (pairedOf h s).cmp.next
  let s1 := onPaired h (fun p => { p with cmp := p.cmp.fire s.tb.now }.beginPeriod t) s
  firingCallsFor h (decide (0 < (pairedOf h s1).duty)) t s1

/-- A paired channel at a forward step (R34). -/
def pairedStep (h : Heater) (new : Time) (s : State) : State :=
  let p := pairedOf h s
  if p.cmp.due new then
    let s1 := onPaired h (fun p => { p with cmp := p.cmp.stepFire new }.beginPeriod new) s
    firingCallsFor h (decide (0 < (pairedOf h s1).duty)) new s1
  else
    match p.offMatch with
    | none => s
    | some m => if p.cmp.mode ≠ .off ∧ m ≤ new then firingCallsFor h false new s else s

/-- A paired channel at the backward set (R35). -/
def pairedSet (h : Heater) (new : Time) (s : State) : State :=
  if (pairedOf h s).cmp.mode = .off then s
  else
    let s1 := onPaired h (fun p => { p with cmp := p.cmp.setFire new }.beginPeriod new) s
    firingCallsFor h (decide (0 < (pairedOf h s1).duty)) new s1

/-- A cut of this value (R31). It acts whatever the deferral state; its edge is reported as HEATER_SWITCHED while the
quiet request is set (R177, R182). -/
def cutHeater (h : Heater) (v : Nat) (s : State) : State :=
  if 64 < v then s
  else
    let s1 := onPaired h (Paired.cutTo v) s
    if (pairedOf h s1).cutClears s1.tb.now then driveOutput h false s1.tb.now s1.ht.quiet s1 else s1

/-- The Detector's quiet report for one heater (R180). -/
def quietHeater (h : Heater) (quiet : Bool) (s : State) : State :=
  if quiet then
    if (thermostatOf h s).deferral = .none then
      onPaired h (fun p => { p with hold := true }) (onThermostat h (fun u => { u with deferral := .holding }) s)
    else s
  else
    let held := (pairedOf h s).hold
    let s1 := onPaired h (fun p => { p with hold := false }) (onThermostat h (fun u => { u with deferral := .none }) s)
    if held then driveOutput h ((pairedOf h s1).level s1.tb.now) s1.tb.now false s1 else s1

/-- The Detector reports a change of the quiet request (R94, R180). -/
def reportQuiet (quiet : Bool) (s : State) : State :=
  quietHeater .ho quiet (quietHeater .hb quiet (s.onHt fun u => { u with quiet := quiet }))

/-- The cap that is in force for a heater, from the last reports (R177, R178). -/
def capFor (h : Heater) (u : HeaterUnit) : Nat :=
  match u.level with
  | none => 0
  | some l => if h = .hb ∧ u.sourceHeating then u.limits.sourceCap else (u.limits.caps.get h).get l

/-- The cap in force of one heater formed again; a fall lowers the computed duty and cuts (R177). -/
def formCap (h : Heater) (s : State) : State :=
  let new := capFor h s.ht
  if new < (thermostatOf h s).cap then
    cutHeater h new (onThermostat h (fun u => { u with cap := new, computed := min u.computed new }) s)
  else onThermostat h (fun u => { u with cap := new }) s

/-- The caps in force formed again (R177). -/
def formCaps (s : State) : State := formCap .ho (formCap .hb s)

/-- The period of both heater channels, 16 s (R175). -/
def heaterPeriod : Nat := 160000000

/-- Both paired channels started at the first level (R175); the accounting second of that level still computes the
duties. -/
def startHeaters (s : State) : State :=
  let now := s.tb.now
  (onPaired .ho (Paired.start heaterPeriod 80000000 0 now now)
    (onPaired .hb (Paired.start heaterPeriod 0 0 now now) s)).onPace
      fun p => { p with heaterSeconds := p.seconds - 1 }

/-- The heater channels have been started (R175). -/
def heatersStarted (s : State) : Bool := s.ccu.heaters.hb.cmp.mode != .off && s.ccu.heaters.ho.cmp.mode != .off

/-- The setpoint HB computes with: under source heating charge-min + 2.0 °C, at most +40.0 °C (R178). -/
def setpointFor (h : Heater) (s : State) : Int :=
  if h = .hb ∧ s.ht.sourceHeating then min 400 (s.pw.act.chargeMin + 20) else (thermostatOf h s).cfg.setpoint

/-- The temperature a heater computes from: TB for HB, TO for HO (R176). -/
def heaterTemperature (h : Heater) (s : State) : Int :=
  match h with
  | .hb => s.pw.tb.value
  | .ho => s.pw.tosc.value

/-- The computed duty of a heater (R176). -/
def computedDuty (h : Heater) (s : State) : Nat :=
  let raw := clampTo 0 64 (64 * (setpointFor h s - heaterTemperature h s) / (thermostatOf h s).cfg.band)
  if s.ht.overTemp || (h == .hb && s.ht.tbFaulted) then 0 else min raw.toNat (thermostatOf h s).cap

/-- The per-second computation of one heater: the duty is written as pending (R176). -/
def computeHeater (h : Heater) (s : State) : State :=
  let d := computedDuty h s
  onPaired h (Paired.request d) (onThermostat h (fun u => { u with computed := d }) s)

/-- The per-second test of the vault (R179). -/
def testVault (s : State) : State :=
  if s.ht.tvFaulted then s
  else if s.ht.overTemp then
    if s.pw.tv.value < s.ht.limits.vaultHigh - 20 then s.onHt fun u => { u with overTemp := false } else s
  else if s.ht.limits.vaultHigh < s.pw.tv.value then
    let zero (x : State) (h : Heater) : State := cutHeater h 0 (onThermostat h (fun u => { u with computed := 0 }) x)
    zero (zero (s.onHt fun u => { u with overTemp := true }) .hb) .ho
  else s

end Sys2Proof.Machine
end

