-- ==== Sys2Proof/Machine/NoticeOps.lean ====
section
/-! DEFINITION. Operations of the Notice Slot Table (chapter 8): creating, displacing and ending notices, the preemption stack,
payloads, selection, and the outcomes of attempts. -/

namespace Sys2Proof.Machine

/-- Slot `n`. -/
def slotAt (n : Nat) (s : State) : Slot := s.nt.slots.getD n .clear

/-- Slot `n` changed. -/
def onSlot (n : Nat) (f : Slot → Slot) (s : State) : State :=
  s.onNt fun nt => { nt with slots := nt.slots.modify n f }

/-- The slot numbers in order. -/
def slotNumbers : List Nat := List.range 12

/-! ### Becoming WAITING -/

/-- An ALARM notice has become WAITING: in SILENT, with the early probe not used, a probe becomes due at once with the
ALARM mark, or the probe already due or in flight takes the mark (R125, R138). -/
def alarmWaiting (s : State) : State :=
  if s.link.health = .silent ∧ s.link.earlyUsed = false then
    s.onLink fun l => { l with probeDue := true, probeAlarm := true, earlyUsed := true }
  else s

/-- A slot becomes WAITING and keeps its tag (R141 to R144). -/
def waitAgain (n : Nat) (s : State) : State :=
  let s1 := onSlot n (fun sl => { sl with state := .waiting, view := .notWaiting }) s
  if (slotAt n s).cls = .alarm then alarmWaiting s1 else s1

/-- A slot becomes WAITING from EMPTY, HELD or ARMED: the tag counter increments, the slot takes it, and the queued
time is recorded (R133). -/
def waitWithTag (n : Nat) (s : State) : State :=
  let tag := rollInc 256 s.nt.tagCounter
  waitAgain n
    (onSlot n (fun sl => { sl with tag := tag, queued := s.tb.now })
      (s.onNt fun nt => { nt with tagCounter := tag }))

/-! ### Open notices and the stack (R139, R144) -/

/-- A notice is open when one of its segments has been acknowledged, it has no final state and is not PREEMPTED (R139). -/
def Slot.isOpen (sl : Slot) : Bool :=
  decide (0 < sl.nextSegment) &&
    match sl.state with
    | .waiting => true
    | .sending => true
    | .awaitAck => true
    | .backoff => true
    | .empty => false
    | .held => false
    | .armed => false
    | .preempted => false
    | .delivered => false
    | .failed => false
    | .aborted => false
    | .displaced => false

/-- The open notice, if there is one. Where two notices are open, the one of lower class, the lower number first.
DEDUCED, unsafe: notes/assumptions/46.md. -/
def openNotice (s : State) : Option Nat :=
  (slotNumbers.filter fun n => (slotAt n s).isOpen).foldl
    (fun acc n =>
      match acc with
      | none => some n
      | some m => if (slotAt m s).cls.above (slotAt n s).cls then some n else some m)
    none

/-- The entry at a place of the stack removed. -/
def dropEntry (i : Nat) (s : State) : State := s.onNt fun nt => { nt with stack := nt.stack.eraseIdx i }

/-- The preempting slot of a stack entry replaced. -/
def setPreempting (i m : Nat) (s : State) : State :=
  s.onNt fun nt => { nt with stack := nt.stack.modify i fun e => { e with by' := m } }

/-- A notice that ends, as the preempting slot of the stack entry at a place: the entry takes the slot pushed by the
entry above it, or another open notice, as its preempting slot, or is popped (R144). -/
def endEntry (n i : Nat) (s : State) : State :=
  match s.nt.stack[i]? with
  | none => s
  | some e =>
    if e.by' = n then
      match s.nt.stack[i + 1]? with
      | some above => setPreempting i above.slot s
      | none =>
        match openNotice s with
        | some o => setPreempting i o s
        | none => waitAgain e.slot (dropEntry i s)
    else s

/-- A notice that ends, at every stack entry that names it as its preempting slot, from the top down (R144). -/
def endPreempting (n : Nat) (s : State) : State :=
  (List.range s.nt.stack.length).reverse.foldl (fun x i => endEntry n i x) s

/-- A PREEMPTED slot is aborted: its entry is removed and the entry below takes over its preempting slot (R144). -/
def removeEntryOf (n : Nat) (s : State) : State :=
  match s.nt.stack.findIdx? fun e => e.slot == n with
  | none => s
  | some i =>
    match s.nt.stack[i]? with
    | none => s
    | some e =>
      match i with
      | 0 => dropEntry 0 s
      | j + 1 => setPreempting j e.by' (dropEntry (j + 1) s)

/-- The open notice `o` pushed in favour of `n`: it becomes PREEMPTED, with its backoff discarded and its attempts
kept (R144). -/
def pushNotice (o n : Nat) (s : State) : State :=
  let sl := slotAt o s
  onSlot o (fun x => { x with state := .preempted, backoff := 0 })
    (s.onNt fun nt =>
      { nt with stack := nt.stack ++ [{ slot := o, nextSegment := sl.nextSegment, cls := sl.cls, by' := n }] })

/-! ### Final states (R146) -/

/-- The slot returns to EMPTY with every field cleared, and a record it references is unpinned (R107, R146, R147). -/
def emptySlot (n : Nat) (s : State) : State :=
  let s1 := onSlot n (fun _ => .clear) s
  match (slotAt n s).event with
  | none => s1
  | some e => unpinRecord e s1

/-- The alert outcome of a final slot outcome (R108). -/
def SlotOutcome.alert : SlotOutcome → AlertOutcome
  | .none => .none
  | .delivered => .delivered
  | .failed => .failed
  | .aborted => .failed
  | .displaced => .displaced

/-- A reference that names slot `n` clears. -/
def clearRef (n : Nat) (r : Option Nat) : Option Nat := if r = some n then none else r

/-- The origin of an internal notice without an event reference is told that its slot has ended: the Timebase and the
Power Controller clear their references, and the last-gasp wait ends with its slot (R14, R165, R171). -/
def tellOrigin (n : Nat) (o : NoticeOrigin) (s : State) : State :=
  match o with
  | .timebase =>
    s.onTb fun tb => { tb with routineRef := clearRef n tb.routineRef, urgentRef := clearRef n tb.urgentRef }
  | .power =>
    s.onPw fun pw =>
      { pw with
        survivalRef := clearRef n pw.survivalRef
        criticalRef := clearRef n pw.criticalRef
        coldRef := clearRef n pw.coldRef
        gaspRef := clearRef n pw.gaspRef
        gaspEnded := pw.gaspEnded || (pw.lastGasp.isSome && pw.gaspRef == some n) }
  | .detector => s
  | .link => s
  | .port _ => s

/-- The slot's origin is served as R146 states. -/
def serveOrigin (n : Nat) (s : State) : State :=
  let sl := slotAt n s
  match sl.origin with
  | .port p =>
    match sl.outcome with
    | .displaced => emptySlot n (notify p .slotDisplaced s)
    | .none => notify p .slotFinished s
    | .delivered => notify p .slotFinished s
    | .failed => notify p .slotFinished s
    | .aborted => notify p .slotFinished s
  | .detector =>
    match sl.event with
    | none => emptySlot n s
    | some e => emptySlot n (writeOutcome e sl.kind sl.outcome.alert s)
  | .power => emptySlot n (tellOrigin n .power s)
  | .timebase => emptySlot n (tellOrigin n .timebase s)
  | .link => emptySlot n (tellOrigin n .link s)

/-- A slot reaches a final state: its outcome and completed time are recorded, abort pending clears, the stack acts, and
its origin is served (R141, R142, R145, R146). DEDUCED, unsafe: notes/assumptions/41.md. -/
def finishSlot (n : Nat) (st : SlotState) (out : SlotOutcome) (s : State) : State :=
  serveOrigin n
    (endPreempting n
      (onSlot n (fun sl => { sl with state := st, outcome := out, completed := s.tb.now, abortPending := false }) s))

/-- A responder that is answered or has failed returns to ARMED (R150). DEDUCED, unsafe: notes/assumptions/24.md. -/
def completeResponder (n : Nat) (out : SlotOutcome) (s : State) : State :=
  let sl := slotAt n s
  let s1 := onSlot n (fun x => { x with state := .armed, outcome := out, completed := s.tb.now, tag := 0,
                                        nextSegment := 0, attempts := 0, segments := 0, abortPending := false,
                                        payload := if x.kind = .status then none else x.payload }) s
  let s2 := match sl.origin with
    | .port p => notify p .slotFinished s1
    | .detector => s1
    | .power => s1
    | .timebase => s1
    | .link => s1
  endPreempting n s2

/-- A notice ends DELIVERED or FAILED (R141, R142, R150). -/
def endNotice (n : Nat) (delivered : Bool) (s : State) : State :=
  let out : SlotOutcome := if delivered then .delivered else .failed
  if (slotAt n s).responder then completeResponder n out s
  else finishSlot n (if delivered then .delivered else .failed) out s

/-- A slot becomes ABORTED (R145). -/
def abortSlot (n : Nat) (s : State) : State := finishSlot n .aborted .aborted s

/-! ### Creating notices (R133, R134) -/

/-- The lowest-numbered EMPTY slot. -/
def emptySlotNumber (s : State) : Option Nat := slotNumbers.find? fun n => (slotAt n s).state == .empty

/-- A slot an ALARM request may displace (R134). -/
def Slot.displaceable (sl : Slot) : Bool := !sl.responder && sl.state == .waiting && sl.cls == .routine

/-- The displaceable slot with the oldest queued time, the lower number first (R134). -/
def displaceVictim (s : State) : Option Nat :=
  slotNumbers.foldl
    (fun acc n =>
      if (slotAt n s).displaceable then
        match acc with
        | none => some n
        | some m => if (slotAt n s).queued < (slotAt m s).queued then some n else some m
      else acc)
    none

/-- A slot for a request of a class: the lowest EMPTY one, or for ALARM one that is displaced (R134). -/
def obtainSlot (cls : NoticeClass) (s : State) : State × Option Nat :=
  match emptySlotNumber s with
  | some n => (s, some n)
  | none =>
    if cls = .alarm then
      match displaceVictim s with
      | none => (s, none)
      | some v =>
        ((finishSlot v .displaced .displaced s).onNt fun nt =>
            { nt with displacements := satInc 65535 nt.displacements },
         some v)
    else (s, none)

/-- What an internal origin asks for (R133). -/
structure NoticeAsk where
  kind : NoticeKind
  cls : NoticeClass
  origin : NoticeOrigin
  event : Option Nat
  reason : PowerReason
  deriving DecidableEq, Repr

/-- A request from an internal origin: a slot is filled and becomes WAITING, or the request meets NO_SLOT, which is
counted and written into the event's outcome field (R107, R108, R133). The slot number is answered.
DEDUCED, unsafe: notes/assumptions/30.md. -/
def requestNotice (a : NoticeAsk) (s : State) : State × Option Nat :=
  let (s1, slot) := obtainSlot a.cls s
  match slot with
  | none =>
    let s2 := s1.onNt fun nt => { nt with unqueued := satInc 65535 nt.unqueued }
    match a.event with
    | none => (s2, none)
    | some e => (writeOutcome e a.kind .notQueued s2, none)
  | some n =>
    let s2 := onSlot n (fun _ => { Slot.clear with kind := a.kind, cls := a.cls, origin := a.origin, event := a.event,
                                                   reason := a.reason, preemptible := true }) s1
    let s3 := match a.event with
      | none => s2
      | some e => writeOutcome e a.kind .pending (pinRecord e s2)
    (waitWithTag n s3, some n)

/-- A Detector request for the event's notice of a kind (R92). -/
def quakeNotice (k : NoticeKind) (cls : NoticeClass) (event : Nat) (s : State) : State :=
  (requestNotice { kind := k, cls := cls, origin := .detector, event := some event, reason := .levelEntry } s).1

/-- The slot that holds an event's QUAKE_DECLARED notice (R151). -/
def declaredSlot (event : Nat) (s : State) : Option Nat :=
  slotNumbers.find? fun n =>
    let sl := slotAt n s
    sl.kind == .quakeDeclared && sl.event == some event && sl.state != .empty

/-- Escalation of an OPEN event that reaches class 3 (R151). -/
def escalate (event : Nat) (s : State) : State :=
  match declaredSlot event s with
  | none => quakeNotice .quakeUpdate .alarm event s
  | some n =>
    let upgrade (x : State) : State :=
      waitAgain n (onSlot n (fun sl => { sl with cls := .alarm, rebuild := true, backoff := 0 }) x)
    match (slotAt n s).state with
    | .waiting => upgrade s
    | .backoff => upgrade s
    | .sending => quakeNotice .quakeUpdate .alarm event s
    | .awaitAck => quakeNotice .quakeUpdate .alarm event s
    | .preempted => quakeNotice .quakeUpdate .alarm event s
    | .empty => quakeNotice .quakeUpdate .alarm event s
    | .held => quakeNotice .quakeUpdate .alarm event s
    | .armed => quakeNotice .quakeUpdate .alarm event s
    | .delivered => quakeNotice .quakeUpdate .alarm event s
    | .failed => quakeNotice .quakeUpdate .alarm event s
    | .aborted => quakeNotice .quakeUpdate .alarm event s
    | .displaced => quakeNotice .quakeUpdate .alarm event s

/-- The Timebase's TIME notice of a class, unless its reference for the class is live (R14, R15). -/
def timeNotice (urgent : Bool) (s : State) : State :=
  let live := if urgent then s.tb.urgentRef else s.tb.routineRef
  if live.isSome then s
  else
    let (s1, n) := requestNotice { kind := .time, cls := if urgent then .urgent else .routine, origin := .timebase,
                                   event := none, reason := .levelEntry } s
    s1.onTb fun tb => if urgent then { tb with urgentRef := n } else { tb with routineRef := n }

/-! ### Payloads (R137) -/

/-- The payload of a quake notice, from its record. -/
def quakePayload (k : NoticeKind) (r : Record) : List Byte :=
  be 1 k.code ++ be 4 r.seq ++ be 1 r.revision ++ timeBytes r.onset ++ optTimeBytes r.close ++
    be 1 r.timeState.code ++ be 4 r.uncertainty ++ be 1 r.cls ++ be 1 r.votePeak ++ r.flags ++
    be 1 r.participants.length ++ r.participants.flatMap fun p => be 1 p.channel ++ be 3 p.peakD

/-- A payload built from live state for a slot (R137). A TEXT payload is the port's bytes. -/
def buildPayload (sl : Slot) (s : State) : List Byte :=
  let quake : List Byte := match sl.event.bind fun e => recordOf e s with
    | none => []
    | some r => quakePayload sl.kind r
  match sl.kind with
  | .quakeDeclared => quake
  | .quakeUpdate => quake
  | .quakeSummary => quake
  | .power =>
    be 1 4 ++ be 1 sl.reason.code ++ be 1 (levelCode s.pw.level) ++ be 2 s.pw.soc ++ beInt 2 s.pw.vb.value ++
      beInt 2 s.pw.tb.value
  | .time => be 1 5 ++ be 1 s.tb.state.code ++ be 4 s.tb.uncertainty ++ timeBytes s.tb.now
  | .status =>
    be 1 6 ++ be 1 (levelCode s.pw.level) ++ be 2 s.pw.soc ++ be 1 s.tb.state.code ++ be 4 (lastConsumed s) ++
      be 1 s.link.state.code
  | .text => sl.payload.getD []

/-- The segment count of a payload: its length over 32 rounded up, and 1 for an empty one (R137). -/
def segmentsOf (payload : List Byte) : Nat := max 1 ((payload.length + 31) / 32)

/-- Segment `i` of a payload (R137). -/
def segmentBytes (payload : List Byte) (i : Nat) : List Byte := fieldAt payload (32 * i) 32

/-! ### Which notice goes next (R138, R139) -/

/-- The start permission of a class (R128). -/
def permitted (cls : NoticeClass) (s : State) : Bool :=
  match cls with
  | .alarm => s.link.state == .clear || s.link.state == .strained
  | .urgent => (s.link.state == .clear || s.link.state == .strained) && s.link.pause.isNone
  | .routine => s.link.state == .clear && s.link.pause.isNone && s.link.quiet.isNone

/-- The energy floor of a class (R171). -/
def energyFloor (cls : NoticeClass) (s : State) : Nat :=
  match cls with
  | .alarm => 0
  | .urgent => s.pw.act.urgentFloor
  | .routine => s.pw.act.routineFloor

/-- The start of a slot of this class is refused by its energy floor (R138). -/
def floorRefuses (cls : NoticeClass) (s : State) : Bool := s.pw.soc < energyFloor cls s

/-- The start of a WAITING slot is allowed (R138). -/
def startAllowed (n : Nat) (s : State) : Bool :=
  let cls := (slotAt n s).cls
  permitted cls s && !floorRefuses cls s && (s.pw.level != some .critical || cls == .alarm)

/-- The class of the top stack entry. -/
def topClass (s : State) : Option NoticeClass := s.nt.stack.getLast?.map (·.cls)

/-- A class lies above the top stack entry's, if there is one (R139, R144). -/
def aboveTop (c : NoticeClass) (s : State) : Bool :=
  match topClass s with
  | none => true
  | some t => c.above t

/-- A candidate: WAITING, its start allowed, its class above the top stack entry's (R139, item 1). -/
def candidate (s : State) (n : Nat) : Bool :=
  (slotAt n s).state == .waiting && startAllowed n s && aboveTop (slotAt n s).cls s

/-- Of some slots, the one of highest class, the lowest number first within a class (R139, item 2). -/
def bestOf (s : State) (ns : List Nat) : Option Nat :=
  ns.foldl
    (fun acc n =>
      match acc with
      | none => some n
      | some m => if (slotAt n s).cls.above (slotAt m s).cls then some n else some m)
    none

/-- What a transmit opportunity selects: a slot, and the open notice it pushes if there is one (R139). A pushed class lies
above that of the entry below (R144). -/
def selectNotice (s : State) : Option (Nat × Option Nat) :=
  let cands := slotNumbers.filter (candidate s)
  match openNotice s with
  | none => (bestOf s cands).map fun n => (n, none)
  | some o =>
    let osl := slotAt o s
    let goesOn := osl.state == .waiting && startAllowed o s
    let atBoundary := osl.state == .waiting || osl.state == .backoff
    let mayPush := aboveTop osl.cls s && atBoundary && (osl.preemptible || (osl.state == .waiting && !startAllowed o s))
    match bestOf s (cands.filter fun n => (slotAt n s).cls.above osl.cls) with
    | some n => if mayPush then some (n, some o) else if goesOn then some (o, none) else none
    | none => if goesOn then some (o, none) else none

/-- The report of R138: whether a selection made now would hand over a segment, and of which class. -/
def startReport (s : State) : Option NoticeClass := (selectNotice s).map fun p => (slotAt p.1 s).cls

/-- How a slot's start stands now, given how it stood before, and whether an energy hold is counted (R138). -/
def viewNow (n : Nat) (s : State) : StartView × Bool :=
  let sl := slotAt n s
  if sl.state != .waiting then (.notWaiting, false)
  else if floorRefuses sl.cls s then
    match sl.view with
    | .notWaiting => (.floorHeld, true)
    | .allowed => (.floorHeld, true)
    | .otherwiseRefused => (.otherwiseRefused, false)
    | .floorHeld => (.floorHeld, false)
  else if startAllowed n s then (.allowed, false)
  else (.otherwiseRefused, false)

/-- The energy-hold counter, slot by slot (R138). -/
def countEnergyHolds (s : State) : State :=
  slotNumbers.foldl
    (fun x n =>
      let (v, counted) := viewNow n x
      (onSlot n (fun sl => { sl with view := v }) x).onNt fun nt =>
        { nt with energyHolds := if counted then satInc 65535 nt.energyHolds else nt.energyHolds })
    s

/-! ### Attempts (R140 to R143) -/

/-- The selected slot becomes SENDING: its payload is built if it is absent or to be rebuilt, and its segment count is
fixed (R137, R140). -/
def startSlot (n : Nat) (s : State) : State :=
  let sl := slotAt n s
  let build := sl.payload.isNone || sl.rebuild
  let payload := if build then buildPayload sl s else sl.payload.getD []
  let afresh := sl.rebuild && decide (0 < sl.nextSegment)
  let tag := rollInc 256 s.nt.tagCounter
  let s1 := if afresh then s.onNt fun nt => { nt with tagCounter := tag } else s
  onSlot n
    (fun x => { x with
      state := .sending
      payload := some payload
      segments := if build || x.segments = 0 then segmentsOf payload else x.segments
      rebuild := false
      tag := if afresh then tag else x.tag
      nextSegment := if afresh then 0 else x.nextSegment
      attempts := if afresh then 0 else x.attempts })
    s1

/-- The outcome ACKED of an attempt (R141). -/
def slotAcked (n : Nat) (s : State) : State :=
  let sl := slotAt n s
  if sl.nextSegment + 1 < sl.segments then
    waitAgain n (onSlot n (fun x => { x with attempts := 0, nextSegment := x.nextSegment + 1 }) s)
  else endNotice n true (onSlot n (fun x => { x with attempts := 0 }) s)

/-- The retry limit of a class (R142). -/
def NoticeCfg.retryLimit (c : NoticeCfg) : NoticeClass → Nat
  | .alarm => c.retryAlarm
  | .urgent => c.retryUrgent
  | .routine => c.retryRoutine

/-- The outcome FAILED of an attempt: FAILED at the retry limit, otherwise a backoff of base × 2^(attempts − 1) s, at
most 64 s, in oscillator cycles (R142). -/
def slotFailed (n : Nat) (s : State) : State :=
  let sl := slotAt n s
  let attempts := satInc 15 sl.attempts
  let s1 := onSlot n (fun x => { x with attempts := attempts }) s
  if s.nt.cfg.retryLimit sl.cls ≤ attempts then endNotice n false s1
  else
    onSlot n
      (fun x => { x with state := .backoff,
                         backoff := s.pace.cycles + min 64 (s.nt.cfg.base * 2 ^ (attempts - 1)) * perSecond })
      s1

/-- The outcome POWER_CUT of an attempt (R143). -/
def slotPowerCut (n : Nat) (s : State) : State :=
  if (slotAt n s).abortPending then abortSlot n s else waitAgain n s

/-- A POLL's topic matched against the responder slots (R149). -/
def pollSlots (topic : Nat) (s : State) : State :=
  let found := slotNumbers.find? fun n =>
    let sl := slotAt n s
    sl.responder && sl.state != .empty && !sl.state.final && (topic &&& sl.mask) == (sl.topic &&& sl.mask)
  match found with
  | none => s.onNt fun nt => { nt with unmatchedPolls := satInc 65535 nt.unmatchedPolls }
  | some n =>
    if (slotAt n s).state = .armed then waitWithTag n s
    else s.onNt fun nt => { nt with mergedPolls := satInc 65535 nt.mergedPolls }

end Sys2Proof.Machine
end

