-- ==== Sys2Proof/Machine/DetectorOps.lean ====
section
/-! DEFINITION. Operations of the Detector (chapter 5): the work on one frame, the vote, the episode, and what level, stream and settings
reports do to the channels. -/

namespace Sys2Proof.Machine

/-! ### The channel arithmetic (R81 to R86) -/

/-- What a frame did to one channel. -/
inductive ChannelNews where
  | nothing
  | triggered
  | ended (r : Reason)
  deriving DecidableEq, Repr

/-- The STA/LTA ratio in sixteenths, saturated; 65,535 when the LTA in the test is 0 (R83). -/
def ratioOf (sta lt : Int) : Nat := if lt = 0 then 65535 else (min 65535 (sta * 16 / lt)).toNat

/-- Suspicion of a trigger of this time (R86). -/
def suspectAt (t : Time) (guard : Nat) (lastEdge : Option Time) : Bool :=
  match lastEdge with
  | none => false
  | some e => decide (0 < guard) && decide (t ≤ e + guard * 1000000)

/-- The frame's share of a channel: the arithmetic of R81 and the test of the channel's state (R82 to R85). -/
def channelWork (frame : Frame) (x : Int) (rate : Nat) (cfg : DetectorCfg) (lastEdge : Option Time) (p : ChannelCfg)
    (c : Channel) : Channel × ChannelNews :=
  let d := x - c.m / 256
  let m := c.m + d * 256 / (2 ^ p.h : Nat)
  let e := min 8388607 d.natAbs
  let big : Int := (e : Int) * 256
  let sta := c.sta + (big - c.sta) / (2 ^ p.ks : Nat)
  let lt := max c.lta ((p.lmin : Int) * 256)
  let lta := c.lta + (big - c.lta) / (2 ^ p.kl : Nat)
  let ratio := ratioOf sta lt
  let c1 := { c with m := m, sta := sta }
  match c.state with
  | .off => (c, .nothing)
  | .warmup =>
    let warm := c.warm + 1
    if 2 ^ p.kl ≤ warm then ({ c1 with lta := lta, warm := warm, state := .quiet }, .nothing)
    else ({ c1 with lta := lta, warm := warm }, .nothing)
  | .quiet =>
    if lt * p.rt ≤ sta * 16 then
      ({ c1 with state := .triggered, trigger := some (frame.timestamp, frame.seq), peakD := e, peakRatio := ratio,
                 suspect := suspectAt frame.timestamp cfg.guard lastEdge }, .triggered)
    else ({ c1 with lta := lta }, .nothing)
  | .triggered =>
    let holdoff := cfg.holdoffTime * rate
    if sta * 16 < lt * p.rd then ({ c1 with lta := lta, state := .holdoff, holdoff := holdoff }, .ended .ratio)
    else
      let c2 := { c1 with peakD := max c.peakD e, peakRatio := max c.peakRatio ratio }
      let since := match c.trigger with
        | none => 0
        | some (_, f) => seqDiff frame.seq f
      if cfg.maxDuration * rate < since then ({ c2 with state := .holdoff, holdoff := holdoff }, .ended .duration)
      else (c2, .nothing)
  | .holdoff =>
    let left := c.holdoff - 1
    if left = 0 then ({ c1 with lta := lta, holdoff := 0, state := .quiet }, .nothing)
    else ({ c1 with lta := lta, holdoff := left }, .nothing)

/-- The six channels take the samples of a frame as one step (R79, item 2). -/
def workSamples (frame : Frame) (x : Samples) (s : State) : Six (Channel × ChannelNews) :=
  s.det.channels.map fun ch c =>
    channelWork frame (sampleOf x ch) s.acq.cfg.rate.perSec s.det.cfg s.det.lastEdge (s.det.params.get ch) c

/-! ### Participants -/

/-- A participant's reason recorded with its final peaks (R89). -/
def Participant.finish (r : Reason) (c : Channel) (p : Participant) : Participant :=
  { p with reason := some r, peakD := max p.peakD c.peakD, peakRatio := max p.peakRatio c.peakRatio }

/-- Channel `ch` detriggers for a reason other than its ratio or duration; a participant's entry takes it. -/
def endTrigger (ch : Nat) (r : Reason) (d : Detector) : Detector :=
  if (d.channels.get ch).state = .triggered then
    { d with participants := d.participants.map fun p =>
        if p.channel = ch ∧ p.reason = none then p.finish r (d.channels.get ch) else p }
  else d

/-- The channel takes a state with the warm-up count at 0; M, STA and LTA are kept (R77, R80, R95, R96).
The rest of a holdoff count is kept as well. DEDUCED, unsafe: notes/assumptions/50.md. -/
def Channel.restart (st : ChannelState) (c : Channel) : Channel := { c with state := st, warm := 0 }

/-- Every TRIGGERED channel detriggers for a reason, and every channel that is not OFF enters WARMUP (R80, R95, R97). -/
def restartAll (r : Reason) (d : Detector) : Detector :=
  let d1 := channelNumbers.foldl (fun x ch => endTrigger ch r x) d
  { d1 with channels := d1.channels.map fun _ c => if c.state = .off then c else c.restart .warmup }

/-- The state a channel takes when it is put to work: OFF if it is disabled or shed by the level, else WARMUP (R77, R78). -/
def workingState (p : ChannelCfg) (level : Option Level) : ChannelState :=
  if !p.enabled then .off
  else if (level == some .critical || level == some .dormant) && !p.critical then .off
  else .warmup

/-! ### Vote (R87) -/

/-- A channel that is counted in the vote (R87). -/
def counted (d : Detector) (ch : Nat) : Bool :=
  let c := d.channels.get ch
  c.state == .triggered && !c.suspect && decide (0 < (d.params.get ch).weight)

/-- Trigger time and frame of a channel; 0 before its first trigger. -/
def triggerOf (d : Detector) (ch : Nat) : Time × Nat := (d.channels.get ch).trigger.getD (0, 0)

/-- The channel of the earliest counted trigger, the lower number first (R87). -/
def earliestCounted (d : Detector) : Option Nat :=
  (channelNumbers.filter (counted d)).foldl
    (fun acc ch =>
      match acc with
      | none => some ch
      | some m => if (triggerOf d ch).1 < (triggerOf d m).1 then some ch else some m)
    none

/-- The vote sum (R87). -/
def voteSum (d : Detector) : Nat :=
  match earliestCounted d with
  | none => 0
  | some first =>
    ((channelNumbers.filter (counted d)).filter fun ch =>
        (triggerOf d ch).1 ≤ (triggerOf d first).1 + d.cfg.window * 1000000).foldl
      (fun acc ch => acc + (d.params.get ch).weight) 0

/-! ### Class (R90) -/

/-- The peak a participant counts with: live while its channel is TRIGGERED, final afterwards (R90). -/
def livePeak (d : Detector) (p : Participant) : Nat :=
  if p.reason.isNone then max p.peakD (d.channels.get p.channel).peakD else p.peakD

/-- The class computed from the participants that are not suspect (R90). -/
def classNow (d : Detector) : Nat :=
  let peak := (d.participants.filter fun p => !p.suspect).foldl (fun acc p => max acc (livePeak d p)) 0
  if d.participants.all (·.suspect) then 1
  else if d.cfg.t3 ≤ peak then 3
  else if d.cfg.t2 ≤ peak then 2
  else 1

/-! ### Handing to the Event Table -/

/-- The contents of the OPEN record that the Detector hands over, taken as one update (R104). -/
def handOver (s : State) : State :=
  updateOpen
    (fun r => { r with participants := s.det.participants, cls := max r.cls s.det.cls, votePeak := s.det.votePeak,
                       clipped := r.clipped || s.det.clippedFlag, gap := r.gap || s.det.gapFlag })
    s

/-- The Detector's update of the OPEN episode's record. -/
def handUpdate (s : State) : State :=
  match s.det.episode with
  | .none => s
  | .lost => s
  | .opened _ => handOver s

/-- The recorder wake: DETECTOR is added to RECORDER with an expiry of the event-wake time (R93, R169). -/
def recorderWake (s : State) : State := setAsk .recorder .detector (askFor s.pw.act.eventWake s) s

/-- The requests of a class of 2 or more: the wake, and for a recorded event the hold (R93). -/
def strongRequests (s : State) : State :=
  let s1 := recorderWake s
  match s.det.episode with
  | .none => s1
  | .lost => s1
  | .opened seq => holdRequest seq s.det.onsetFrame s1

/-- The quiet request the Detector's state calls for (R94). -/
def quietWanted (d : Detector) : Bool :=
  (match d.episode with
   | .none => false
   | .lost => false
   | .opened _ => true) ||
  channelNumbers.any fun ch => (d.channels.get ch).state == .triggered

/-- A change of the quiet request is reported to the Heater Controller (R94). -/
def formQuiet (s : State) : State :=
  let q := quietWanted s.det
  if q = s.det.quiet then s else reportQuiet q (s.onDet fun d => { d with quiet := q })

/-! ### Closing (R91) -/

/-- The episode is none again. -/
def Detector.endEpisode (d : Detector) : Detector :=
  { d with episode := .none, participants := [], onsetTime := 0, onsetFrame := 0, cls := 0, votePeak := 0, gapFlag := false,
           clippedFlag := false }

/-- The closing check: an episode with no participant TRIGGERED closes (R91, R106). -/
def closeIfDone (t : Time) (frame : Nat) (s : State) : State :=
  if s.det.participants.all (·.reason.isSome) then
    match s.det.episode with
    | .none => s
    | .lost => s.onDet Detector.endEpisode
    | .opened seq =>
      quakeNotice .quakeSummary .routine seq
        (closeFrame seq frame (closeRecord seq t (s.onDet Detector.endEpisode)))
  else s

/-- A report or a request other than a frame has changed channels: the update is handed over, the closing check is made
at the present station time, and the quiet request is formed (R91, R94, R104). -/
def afterChannelChange (s : State) : State :=
  let s1 := handUpdate s
  formQuiet (closeIfDone s1.tb.now s1.det.lastHanded s1)

/-- The GAP flag of an OPEN episode (R80, R95, R97). -/
def markGap (d : Detector) : Detector :=
  match d.episode with
  | .none => d
  | .lost => d
  | .opened _ => { d with gapFlag := true }

/-! ### Declaration (R88, R100) -/

/-- A channel put into a list of channels by its trigger frame's distance from the onset frame, after those of an equal
distance. -/
def insertByTrigger (distance : Nat → Nat) (ch : Nat) : List Nat → List Nat
  | [] => [ch]
  | q :: rest => if distance ch < distance q then ch :: q :: rest else q :: insertByTrigger distance ch rest

/-- Some channels in the order of their trigger frames from the onset frame on, the one that stands first in the list
first where two are equal. -/
def byTriggerFrame (d : Detector) (onset : Nat) (chs : List Nat) : List Nat :=
  chs.foldl (fun acc ch => insertByTrigger (fun c => seqDiff (triggerOf d c).2 onset) ch acc) []

/-- A channel's entry as it joins (R88, R89). -/
def newParticipant (d : Detector) (onset ch : Nat) : Participant :=
  let c := d.channels.get ch
  { channel := ch, offset := min 65535 (seqDiff (triggerOf d ch).2 onset), peakD := c.peakD, peakRatio := c.peakRatio,
    reason := none, suspect := c.suspect }

/-- The participants at a declaration: the TRIGGERED channels with a trigger frame at or after the onset frame, in the
order of their trigger frames, the lower channel first (R88). -/
def declaredParticipants (d : Detector) (onset : Nat) : List Participant :=
  (byTriggerFrame d onset
    (channelNumbers.filter fun ch =>
      (d.channels.get ch).state == .triggered && seqAtOrAfter (triggerOf d ch).2 onset)).map (newParticipant d onset)

/-- The class of the QUAKE_DECLARED notice (R92). -/
def declareClass (d : Detector) : NoticeClass := if d.cls = 3 then .alarm else d.cfg.priority

/-- An event is declared on a frame, with its earliest counted channel (R88, R92, R93, R100 to R103). -/
def declareEvent (frame : Frame) (first : Nat) (s : State) : State :=
  let onset := triggerOf s.det first
  let d1 := { s.det with
    onsetTime := onset.1, onsetFrame := onset.2, participants := declaredParticipants s.det onset.2,
    votePeak := voteSum s.det, clippedFlag := frame.clipped, gapFlag := false }
  let d2 := { d1 with cls := classNow d1 }
  let s1 := s.onDet fun _ => d2
  let make (seq lostBefore : Nat) : Record :=
    { seq := seq, closed := false, revision := 0, onset := onset.1, declared := frame.timestamp, close := none,
      timeState := s.tb.state, uncertainty := s.tb.uncertainty,
      onsetFrame := if frameInRing onset.2 s then some onset.2 else none,
      cls := d2.cls, votePeak := d2.votePeak, participants := d2.participants, heaterSwitched := false,
      levelChanged := false, gap := false, ringLost := false, clipped := frame.clipped, lostBefore := lostBefore,
      declaredOutcome := .none, updateOutcome := .none, summaryOutcome := .none, pins := 0 }
  let (s2, placed) := declareRecord make s1
  match placed with
  | none =>
    let s3 := s2.onDet fun d => { d with episode := .lost }
    if 2 ≤ d2.cls then recorderWake s3 else s3
  | some seq =>
    let s3 := quakeNotice .quakeDeclared (declareClass d2) seq (s2.onDet fun d => { d with episode := .opened seq })
    if 2 ≤ d2.cls then strongRequests s3 else s3

/-! ### Joining and updating (R89, R90) -/

/-- A channel that has triggered during an episode joins it, or its entry takes the retrigger (R89). -/
def joinEpisode (ch : Nat) (d : Detector) : Detector :=
  let c := d.channels.get ch
  if d.participants.any fun p => p.channel == ch then
    { d with participants := d.participants.map fun p =>
        if p.channel = ch then
          { p with reason := none, peakD := max p.peakD c.peakD, peakRatio := max p.peakRatio c.peakRatio,
                   suspect := p.suspect && c.suspect }
        else p }
  else { d with participants := d.participants ++ [newParticipant d d.onsetFrame ch] }

/-- The episode's class, vote peak and CLIPPED flag after a frame's vote (R90). -/
def updateEpisode (frame : Frame) (d : Detector) : Detector :=
  { d with cls := max d.cls (classNow d), votePeak := max d.votePeak (voteSum d),
           clippedFlag := d.clippedFlag || frame.clipped }

/-- What a rise of the class asks for (R90, R92, R93, R109). -/
def classRise (old : Nat) (s : State) : State :=
  if old < s.det.cls then
    let s1 := if 2 ≤ s.det.cls then strongRequests s else s
    match s.det.episode with
    | .none => s1
    | .lost => s1
    | .opened seq =>
      let s2 := notifyAll .eventClass s1
      if s.det.cls = 3 then escalate seq s2 else s2
  else s

/-- Steps 3 and 4 of a frame's work: the vote declares, or the triggers join and the episode is updated (R79, R87 to
R90). Of two channels that join on one frame the lower comes first. DEDUCED, unsafe: notes/assumptions/37.md. -/
def voteAndUpdate (frame : Frame) (joiners : List Nat) (s : State) : State :=
  match s.det.episode with
  | .none =>
    match earliestCounted s.det with
    | none => s
    | some first => if s.det.cfg.threshold ≤ voteSum s.det then declareEvent frame first s else s
  | .opened _ =>
    let old := s.det.cls
    classRise old (handUpdate (s.onDet fun d => updateEpisode frame (joiners.foldl (fun x ch => joinEpisode ch x) d)))
  | .lost =>
    let old := s.det.cls
    classRise old (s.onDet fun d => updateEpisode frame (joiners.foldl (fun x ch => joinEpisode ch x) d))

/-! ### The work on one frame (R79) -/

/-- A gap action (R80). -/
def gapAction (d : Detector) : Detector :=
  let d1 := markGap (restartAll .gap d)
  { d1 with gapActions := satInc 65535 d1.gapActions, gapRun := 0 }

/-- Step 1, gap accounting (R80). -/
def gapAccounting (frame : Frame) (d : Detector) : Detector :=
  let run := d.gapRun + frame.stepGap.getD 0 + (if frame.samples.isNone then 1 else 0)
  let d1 := { d with gapRun := run }
  let d2 :=
    if frame.stepGap = some 0 then
      let d' := gapAction d1
      { d' with lastEdge := d'.lastEdge.bind fun e => if frame.timestamp < e then none else some e }
    else if 4 < run then gapAction d1
    else d1
  if frame.samples.isSome then { d2 with gapRun := 0 } else d2

/-- Step 2, the channel computation: the records, the counters and the participants' final peaks (R81 to R86, R89). -/
def takeSamples (work : Six (Channel × ChannelNews)) (d : Detector) : Detector :=
  let news (ch : Nat) : ChannelNews := (work.get ch).2
  let fresh := channelNumbers.filter fun ch => news ch == .triggered
  let suspects := fresh.filter fun ch => (work.get ch).1.suspect
  { d with
    channels := work.map fun _ w => w.1
    triggers := (d.triggers + fresh.length) % seqSpan
    suspects := (d.suspects + suspects.length) % seqSpan
    participants := d.participants.map fun p =>
      match news p.channel with
      | .nothing => p
      | .triggered => p
      | .ended r => if p.reason.isNone then p.finish r (work.get p.channel).1 else p }

/-- The vote sum is formed on every frame, and held for GET_DETECTOR (R87, R98). -/
def formVote (d : Detector) : Detector := { d with vote := voteSum d }

/-- The whole work on one frame (R79): gap accounting, the channels, the vote, the episode, the closing check and the
quiet request. -/
def workFrame (frame : Frame) (s : State) : State :=
  let s1 := s.onDet (gapAccounting frame)
  let (s2, joiners) :=
    match frame.samples with
    | none => (s1, [])
    | some x =>
      let work := workSamples frame x s1
      (s1.onDet (takeSamples work), channelNumbers.filter fun ch => (work.get ch).2 == ChannelNews.triggered)
  let s3 := voteAndUpdate frame joiners (s2.onDet formVote)
  formQuiet (closeIfDone frame.timestamp frame.seq s3)

/-- The Detector takes the next frame that waits (R79). -/
def takeFrame (s : State) : State :=
  match s.det.waiting with
  | [] => s
  | f :: rest => workFrame f (s.onDet fun d => { d with waiting := rest })

/-- What the next frame's work does to channel `ch` (R82, R84, R85): its state before, its state after, and its news. -/
def nextFrameNews (ch : Nat) (s : State) : Option (ChannelState × ChannelState × ChannelNews) :=
  match s.det.waiting with
  | [] => none
  | f :: _ =>
    match f.samples with
    | none => none
    | some x =>
      let s1 := s.onDet (gapAccounting f)
      let w := (workSamples f x s1).get ch
      some ((s1.det.channels.get ch).state, w.1.state, w.2)

/-! ### Reports (R95 to R97) -/

/-- The stream starts (R95). -/
def streamStart (d : Detector) : Detector :=
  { d with channels := d.channels.map fun _ c => if c.state = .off then c else c.restart .warmup, gapRun := 0 }

/-- SENSOR_OFF at the Detector (R95). -/
def detectorSensorOff (s : State) : State :=
  afterChannelChange (s.onDet fun d => { markGap (restartAll .sensorOff d) with gapRun := 0 })

/-- Entry to CRITICAL or DORMANT at one channel (R96). -/
def shedChannel (d : Detector) (ch : Nat) : Detector :=
  if (d.params.get ch).critical then d
  else
    let d1 := endTrigger ch .reconfigured d
    { d1 with channels := d1.channels.update ch fun c => { c with state := .off } }

/-- Leaving CRITICAL and DORMANT at one channel (R78, R96). -/
def wakeChannel (d : Detector) (ch : Nat) : Detector :=
  if (d.params.get ch).critical || !(d.params.get ch).enabled then d
  else { d with channels := d.channels.update ch fun c => if c.state = .off then c.restart .warmup else c }

/-- The levels in which the channels outside the critical set are OFF (R78). -/
def shedLevel (l : Option Level) : Bool := l == some .critical || l == some .dormant

/-- The level report at the Detector (R96). -/
def detectorLevel (old new : Option Level) (s : State) : State :=
  if shedLevel new && !shedLevel old then
    afterChannelChange (s.onDet fun d => channelNumbers.foldl shedChannel d)
  else if shedLevel old && !shedLevel new then s.onDet fun d => channelNumbers.foldl wakeChannel d
  else s

/-- A change of sample rate at the Detector (R97). -/
def detectorRateChange (s : State) : State :=
  afterChannelChange (s.onDet fun d => markGap (restartAll .reconfigured d))

/-! ### The SENSOR load at the Acquisition Unit (R61, R73) -/

/-- The stream starts: channel 4 is started for the next whole second and the unit enters RUNNING (R61). -/
def startStream (s : State) : State :=
  ((s.onCcu fun c =>
      { c with ch4 := c.ch4.start .repeating s.acq.cfg.rate.period 0 (nextSecond s.tb.now) s.tb.now }).onAcq
    fun a => { a with state := .running, settleDue := false }).onDet streamStart

/-- SENSOR turns ON (R61). -/
def sensorOn (s : State) : State :=
  let s1 := s.onAcq fun a => { a with state := .settling, settleCount := 0, settleDue := false }
  if s.acq.cfg.settleTime = 0 then startStream s1 else s1

/-- SENSOR turns OFF (R73). -/
def sensorOff (s : State) : State :=
  let reading := match s.acq.inFlight with
    | none => false
    | some f => f.reading
  detectorSensorOff
    ((s.onCcu fun c => { c with ch4 := c.ch4.stop }).onAcq fun a =>
      { a with state := .stopped, settleCount := 0, settleDue := false, inFlight := none,
               aborted := if reading then satInc 65535 a.aborted else a.aborted })

end Sys2Proof.Machine
end

