-- ==== Sys2Proof/Machine/LinkOps.lean ====
section
/-! DEFINITION. Operations of the Alert Link Controller (chapter 7): health and link state, the listen schedule, the RADIO line and its
request, frames on air, ack windows, receptions, and remote replies. -/

namespace Sys2Proof.Machine

/-! ### Link state and health (R123 to R126) -/

/-- The link state changed: LINK_STATE at every port, and each worst state (R124, R126). -/
def setLinkState (new : LinkState) (s : State) : State :=
  if s.link.state = new then s
  else notifyAll .linkState (s.onLink fun l => { l with state := new, worst := l.worst.map fun w => w.worse new })

/-- The link state the level and the health call for (R124). -/
def linkStateFor (level : Option Level) (health : LinkState) : LinkState :=
  match level with
  | none => .off
  | some .dormant => .off
  | some .full => health
  | some .reduced => health
  | some .survival => health
  | some .critical => health

/-- The link state formed again (R124). -/
def formLinkState (s : State) : State := setLinkState (linkStateFor s.pw.level s.link.health) s

/-- `n` more replies dropped (R125, R130). -/
def countDropped (n : Nat) (s : State) : State :=
  s.onLink fun l => { l with repliesDropped := min 65535 (l.repliesDropped + n) }

/-- The health becomes SILENT (R125). -/
def enterSilent (s : State) : State :=
  let s1 := s.onLink fun l =>
    { l with restExpiry := some (s.pace.seconds + l.restPeriod), earlyUsed := false, probeDue := false, probeAlarm := false,
             replies := [] }
  countDropped s.link.replies.length s1

/-- The health changed, and the link state formed with it (R124, R125). -/
def setHealth (h : LinkState) (s : State) : State :=
  if s.link.health = h then s
  else
    let s1 := s.onLink fun l => { l with health := h }
    formLinkState (if h = .silent then enterSilent s1 else s1)

/-- The state evaluation after a change of SEC or REC (R123, R124). -/
def evaluateHealth (s : State) : State :=
  if s.link.health = .silent then s
  else if 192 ≤ s.link.sendErr then setHealth .silent s
  else if 96 ≤ s.link.sendErr ∨ 96 ≤ s.link.recvErr then setHealth .strained s
  else setHealth .clear s

/-- A bad frame counted (R123). -/
def countBadFrame (s : State) : State :=
  evaluateHealth
    (s.onLink fun l => { l with recvErr := satInc 255 l.recvErr, frameErrors := rollInc 65536 l.frameErrors })

/-- A good frame counted (R123). -/
def countGoodFrame (s : State) : State := evaluateHealth (s.onLink fun l => { l with recvErr := l.recvErr - 1 })

/-- A failed SEGMENT attempt counted (R123). -/
def countSendFailure (s : State) : State :=
  evaluateHealth (s.onLink fun l => { l with sendErr := min 255 (l.sendErr + 8) })

/-- An acknowledged SEGMENT counted (R123). -/
def countSendSuccess (s : State) : State := evaluateHealth (s.onLink fun l => { l with sendErr := l.sendErr - 1 })

/-- A probe acknowledged (R125). -/
def probeAcked (s : State) : State :=
  setHealth .clear
    (s.onLink fun l =>
      { l with sendErr := 0, recvErr := 0, restPeriod := l.cfg.rest, restExpiry := none, probeDue := false,
               probeAlarm := false, earlyUsed := false })

/-- A probe that failed by NACK or timeout (R125). -/
def probeFailed (s : State) : State :=
  s.onLink fun l =>
    let rest := min 14400 (2 * l.restPeriod)
    { l with restPeriod := rest, restExpiry := some (s.pace.seconds + rest), probeDue := false, probeAlarm := false,
             earlyUsed := false }

/-! ### The listen schedule (R127) -/

/-- The warm-up time on station time, in ticks. -/
def LinkCfg.warmupTicks (c : LinkCfg) : Nat := c.warmup * 1000000

/-- The number of the window whose warm-up has begun or is the last to have begun (R127). -/
def LinkCfg.windowIndex (c : LinkCfg) (now : Time) : Nat := (now + c.warmupTicks) / (c.listenInterval * perSecond)

/-- The end of that window, k × I + Lw (R127). -/
def LinkCfg.windowFinish (c : LinkCfg) (now : Time) : Time :=
  c.windowIndex now * (c.listenInterval * perSecond) + c.listenLength * perSecond

/-- The receiver is asked for at this station time (R127). -/
def LinkCfg.listensAt (c : LinkCfg) (now : Time) : Bool := decide (now < c.windowFinish now)

/-- The point channel 7 is armed for (R127). -/
def LinkCfg.nextPoint (c : LinkCfg) (now : Time) : Time :=
  if c.listensAt now then c.windowFinish now
  else (c.windowIndex now + 1) * (c.listenInterval * perSecond) - c.warmupTicks

/-- The test of R127 on entering SURVIVAL, at a firing of channel 7 and at a change of the listen settings. -/
def listenPoint (s : State) : State :=
  let now := s.tb.now
  (s.onLink fun l => { l with listenAsk := l.cfg.listensAt now }).onCcu fun c =>
    { c with ch7 := c.ch7.start .oneShot 1 0 (s.link.cfg.nextPoint now) now }

/-- The listen schedule set from a level (R127). -/
def listenLevel (level : Option Level) (s : State) : State :=
  let fixed (ask : Bool) : State :=
    (s.onLink fun l => { l with listenAsk := ask }).onCcu fun c => { c with ch7 := c.ch7.stop }
  match level with
  | none => fixed false
  | some .full => fixed true
  | some .reduced => fixed true
  | some .survival => listenPoint s
  | some .critical => fixed false
  | some .dormant => fixed false

/-- The Power Controller's report of a level at the link (R124, R127). -/
def linkLevel (s : State) : State := listenLevel s.pw.level (formLinkState s)

/-! ### Listening and the RADIO request (R115, R119) -/

/-- The controller is listening (R119). An ack window that waits on a reception counts as open until it is decided (R122).
DEDUCED, unsafe: notes/assumptions/55.md. -/
def listening (s : State) : Bool :=
  s.pw.loads.radio.on && s.link.warm && s.link.tx == .idle && (s.link.listenAsk || s.link.window.isSome)

/-- The class mark of what a transmission or a window carries: ALARM for an ALARM segment and for an early probe. -/
def originAlarm (o : AirOrigin) (s : State) : Bool :=
  match o with
  | .segment n => (slotAt n s).cls == .alarm
  | .probe => s.link.probeAlarm
  | .reply _ => false

/-- The attempt in flight, from KEYING to the decision of its ack window; a REPLY is no attempt (R115, R123).
DEDUCED, unsafe: notes/assumptions/15.md. -/
def attemptInFlight (s : State) : Option AirOrigin :=
  let onAir : Option AirOrigin := match s.link.tx with
    | .idle => none
    | .keying _ o _ _ => some o
    | .onAir _ o _ _ => some o
  match onAir with
  | some (.segment n) => some (.segment n)
  | some .probe => some .probe
  | some (.reply _) => none
  | none => s.link.window.map fun w => w.origin

/-- The controller holds its request for RADIO (R115). A reception that has begun keeps the receiver on (R119).
DEDUCED, unsafe: notes/assumptions/15.md. -/
def radioWanted (s : State) : Bool :=
  s.link.listenAsk || !s.link.replies.isEmpty || s.link.probeDue || (startReport s).isSome ||
    s.link.tx != .idle || s.link.window.isSome || s.link.reception.isSome

/-- The request is marked ALARM (R115). -/
def radioMark (s : State) : Bool :=
  match attemptInFlight s with
  | some o => originAlarm o s
  | none => startReport s == some .alarm || (s.link.probeDue && s.link.probeAlarm)

/-- LINK's entry on RADIO and its ALARM mark written again (R115, R169). -/
def formRadioRequest (s : State) : State :=
  (setAsk .radio .link (if radioWanted s then .standing else .absent) s).onPw fun pw =>
    { pw with linkAlarm := radioWanted s && radioMark s }

/-- RADIO has turned ON: the warm-up begins, and one of 0 is over at once (R115). -/
def radioOn (s : State) : State :=
  s.onLink fun l =>
    { l with warm := l.cfg.warmup == 0, warmAt := s.pace.cycles + l.cfg.warmup * 1000000 }

/-- What a RADIO cut does to a segment: POWER_CUT. A probe stays due, a reply stays queued (R117, R122). -/
def cutOrigin (o : AirOrigin) (s : State) : State :=
  match o with
  | .segment n => slotPowerCut n s
  | .probe => s
  | .reply _ => s

/-- RADIO has turned OFF: the line is no longer warm, and what was in flight ends (R115, R117, R119, R122). -/
def radioCut (s : State) : State :=
  let onAir : Option AirOrigin := match s.link.tx with
    | .idle => none
    | .keying _ o _ _ => some o
    | .onAir _ o _ _ => some o
  let inWindow : Option AirOrigin := s.link.window.map fun w => w.origin
  let s1 := s.onLink fun l => { l with warm := false, tx := .idle, window := none, reception := none }
  let s2 := match onAir with
    | none => s1
    | some o => cutOrigin o s1
  match inWindow with
  | none => s2
  | some o => cutOrigin o s2

/-! ### Frames on air (R116, R117) -/

/-- An outbound frame: sync, station address, kind, flags with the group bit clear, tag, length, payload, check (R118). -/
def airFrame (address kind index count tag : Nat) (payload : List Byte) : List Byte :=
  [0x7E, 0xC3] ++ withCheck (be 2 address ++ be 1 kind ++ be 1 (index * 16 + count) ++ be 1 tag ++
    be 1 payload.length ++ payload)

/-- Key-up: KEY is asserted and the transmitter enters KEYING for the lead (R117). -/
def keyUp (o : AirOrigin) (frame : List Byte) (s : State) : State :=
  s.onLink fun l =>
    { l with tx := .keying frame o (s.pace.cycles + l.cfg.keyLead * 10000) (lineRate l.cfg.rateCode) }

/-- A transmit opportunity stands (R116). -/
def opportunity (s : State) : Bool :=
  s.link.state != .off && s.pw.loads.radio.on && s.link.warm && s.link.tx == .idle && s.link.window.isNone &&
    s.link.reception.isNone

/-- The oldest queued REPLY goes (R116, item 1). -/
def sendReply (r : QueuedReply) (s : State) : State :=
  keyUp (.reply r) (airFrame s.link.cfg.address 0x03 0 1 r.tag (be 1 r.code ++ be 1 r.result)) s

/-- A due probe goes with a fresh probe tag (R116, item 2; R125). DEDUCED, unsafe: notes/assumptions/30.md. -/
def sendProbe (s : State) : State :=
  let s1 := s.onLink fun l => { l with probeTag := rollInc 256 l.probeTag }
  keyUp .probe (airFrame s1.link.cfg.address 0x02 0 1 s1.link.probeTag []) s1

/-- The selected slot's next segment goes (R116, item 3; R139, R140). -/
def sendSegment (n : Nat) (pushed : Option Nat) (s : State) : State :=
  let s1 := match pushed with
    | none => s
    | some o => pushNotice o n s
  let s2 := startSlot n s1
  let sl := slotAt n s2
  keyUp (.segment n)
    (airFrame s2.link.cfg.address 0x01 sl.nextSegment sl.segments sl.tag
      (segmentBytes (sl.payload.getD []) sl.nextSegment)) s2

/-- The first eligible work is taken (R116). -/
def takeOpportunity (s : State) : State :=
  if s.link.state = .silent then (if s.link.probeDue then sendProbe s else s)
  else
    match s.link.replies with
    | r :: _ => sendReply r s
    | [] =>
      match selectNotice s with
      | none => s
      | some (n, pushed) => sendSegment n pushed s

/-- An ack window opens for what went on air (R121). -/
def openWindow (o : AirOrigin) (tag index : Nat) (s : State) : State :=
  s.onLink fun l =>
    { l with window := some { finish := s.tb.now + l.cfg.ackWindow * perSecond, tag := tag, index := index, origin := o,
                              undecided := false } }

/-- The end of air (R117, R121, R140, R145). -/
def endOfAir (o : AirOrigin) (s : State) : State :=
  let s1 := s.onLink fun l => { l with tx := .idle }
  match o with
  | .segment n =>
    let sl := slotAt n s1
    if sl.abortPending then abortSlot n s1
    else openWindow (.segment n) sl.tag sl.nextSegment (onSlot n (fun x => { x with state := .awaitAck }) s1)
  | .probe => openWindow .probe s1.link.probeTag 0 s1
  | .reply r =>
    s1.onLink fun l =>
      { l with replies := if l.replies.head? = some r then l.replies.tail else l.replies }

/-! ### Ack windows (R121, R122) -/

/-- The decision of a window: it closes, and the outcome acts (R122, R123, R125). -/
def decideWindow (w : AckWindow) (acked : Bool) (s : State) : State :=
  let s1 := s.onLink fun l => { l with window := none }
  match w.origin with
  | .segment n => if acked then countSendSuccess (slotAcked n s1) else countSendFailure (slotFailed n s1)
  | .probe => if acked then probeAcked s1 else probeFailed s1
  | .reply _ => s1

/-- A reception has ended without deciding the attempt: a decision that waited for it is a timeout (R121). -/
def settleWindow (s : State) : State :=
  match s.link.window with
  | none => s
  | some w => if w.undecided then decideWindow w false s else s

/-- The end of an open window is reached (R121). -/
def windowEnds (w : AckWindow) (s : State) : State :=
  let waits := match s.link.reception with
    | none => false
    | some r => r.inWindow
  if waits then s.onLink fun l => { l with window := some { w with undecided := true } } else decideWindow w false s

/-! ### Receptions (R119, R120) -/

/-- A frame heard with a right check (section 7.3). -/
structure HeardFrame where
  address : Nat
  group : Bool
  index : Nat
  kind : Nat
  tag : Nat
  payload : List Byte
  deriving DecidableEq, Repr

/-- What the bytes of a reception are (R119): not yet a frame, bad, or good. -/
inductive Heard where
  | more
  | bad
  | good (f : HeardFrame)
  deriving DecidableEq, Repr

/-- The reading of the bytes collected since the start-of-frame capture (R118, R119).
DESIGN CHOICE, unsafe: notes/assumptions/13.md. -/
def hear (bytes : List Byte) : Heard :=
  let n := natAt bytes 7 1
  let flags := natAt bytes 5 1
  if bytes.length < 2 then .more
  else if bytes.take 2 ≠ [0x7E, 0xC3] then .bad
  else if bytes.length < 8 then .more
  else if 32 < n then .bad
  else if bytes.length < 10 + n then .more
  else if (checkOf (fieldAt bytes 2 (6 + n))).toNat = natAt bytes (8 + n) 2 then
    .good { address := natAt bytes 2 2, group := decide (128 ≤ flags), index := flags / 16 % 8, kind := natAt bytes 4 1,
            tag := natAt bytes 6 1, payload := fieldAt bytes 8 n }
  else .bad

/-- A good frame is accepted (R120). -/
def acceptedFrame (l : Link) (f : HeardFrame) : Bool :=
  if f.group then l.groups.getLsbD (groupHash (BitVec.ofNat 16 f.address)) else f.address == l.cfg.address

/-- The form check of an accepted frame (R120). -/
def wellFormedFrame (f : HeardFrame) : Bool :=
  if f.kind = 0x11 ∨ f.kind = 0x12 then f.payload.isEmpty
  else if f.kind = 0x13 ∨ f.kind = 0x14 then f.payload.length == 2
  else f.kind == 0x15 && !f.payload.isEmpty

/-- The five cases an accepted COMMAND can be (R129). -/
inductive RemoteCase where
  | status | ceiling | wake | quiet | bad
  deriving DecidableEq, Repr

/-- The case of a COMMAND's payload: a named command when its enable is off or its arguments fit, else bad content
(R129). DEDUCED, unsafe: notes/assumptions/16.md. -/
def remoteCase (c : LinkCfg) (payload : List Byte) : RemoteCase :=
  let args := payload.drop 1
  match natAt payload 0 1 with
  | 1 => if !c.enableStatus || args.isEmpty then .status else .bad
  | 2 => if !c.enableCeiling || (args.length == 1 && decide (natAt args 0 1 ≤ 3)) then .ceiling else .bad
  | 3 =>
    if !c.enableWake ||
        (args.length == 2 && (natAt args 0 1 == 2 || natAt args 0 1 == 3) && decide (0 < natAt args 1 1)) then .wake
    else .bad
  | 4 => if !c.enableQuiet || args.length == 1 then .quiet else .bad
  | _ => .bad

/-- The reception is over. -/
def closeReception (s : State) : State := s.onLink fun l => { l with reception := none }

/-- A reception ends as a bad frame (R119, R121, R123). -/
def badFrame (s : State) : State := settleWindow (countBadFrame (closeReception s))

/-- A reception ends as a good frame that has an effect of its own; a decision that waited for it follows (R119, R121,
R123). DEDUCED, unsafe: notes/assumptions/16.md. -/
def goodFrame (effect : State → State) (s : State) : State := settleWindow (effect (countGoodFrame (closeReception s)))

/-- An ACK or NACK, decided with whether its capture lay within the window: it decides a matching open window, or is
stale (R121, R122). -/
def answerFrame (f : HeardFrame) (inWindow acked : Bool) (s : State) : State :=
  let stale (x : State) : State := x.onLink fun l => { l with stale := satInc 65535 l.stale }
  match s.link.window with
  | none => stale s
  | some w => if inWindow && w.tag == f.tag && w.index == f.index then decideWindow w acked s else stale s

/-- A start-of-frame capture is read (R20, R119). Taken while the controller does not listen it is discarded, and a
reception in progress goes on. DEDUCED, unsafe: notes/assumptions/39.md. -/
def startOfFrame (s : State) : State :=
  let s1 := s.onCcu fun c => { c with ch2 := (c.ch2.edge s.tb.now).read }
  if listening s1 then
    let inWindow := match s1.link.window with
      | none => false
      | some w => !w.undecided && decide (s1.tb.now ≤ w.finish)
    let s2 := if s1.link.reception.isSome then badFrame s1 else s1
    s2.onLink fun l =>
      { l with reception := some { capture := s.tb.now, inWindow := inWindow, lastByte := s.pace.cycles, bytes := [] } }
  else s1

/-! ### Remote commands (R129, R130) -/

/-- A REPLY queued for an individually addressed command, or dropped and counted when the queue is full (R129, R130). -/
def queueReply (f : HeardFrame) (result : Nat) (s : State) : State :=
  if f.group then s
  else if s.link.replies.length < 4 then
    s.onLink fun l =>
      { l with replies := l.replies ++ [{ tag := f.tag, code := natAt f.payload 0 1, result := result,
                                          taken := s.pace.seconds }] }
  else countDropped 1 s

/-- A command whose enable is off (R129). -/
def disabledCommand (f : HeardFrame) (s : State) : State :=
  queueReply f 1 (s.onLink fun l => { l with disabled := satInc 65535 l.disabled })

/-- The STATUS notice requested with origin LINK, and whether a slot was given (R129). -/
def statusNotice (s : State) : State × Bool :=
  let (s1, n) := requestNotice { kind := .status, cls := .routine, origin := .link, event := none, reason := .levelEntry } s
  (s1, n.isSome)

/-- The quiet set for some minutes, or ended by 0 (R128, R129). -/
def setQuiet (minutes : Nat) (s : State) : State :=
  s.onLink fun l => { l with quiet := if minutes = 0 then none else some (s.pace.seconds + minutes * 60) }

/-- An accepted PAUSE (R128). -/
def setPause (quanta : Nat) (s : State) : State :=
  s.onLink fun l => { l with pause := if quanta = 0 then none else some (s.pace.cycles + quanta * 1000000) }

/-- The replies that are 60 accounting seconds old are discarded and counted (R130), the one that is being sent among them;
its frame goes on to the end of air. DEDUCED, unsafe: notes/assumptions/51.md. -/
def dropOldReplies (s : State) : State :=
  let old (r : QueuedReply) : Bool := decide (r.taken + 60 ≤ s.pace.seconds)
  countDropped (s.link.replies.filter old).length
    (s.onLink fun l => { l with replies := l.replies.filter fun r => !old r })

end Sys2Proof.Machine
end

