-- ==== Sys2Proof/Machine/TimeOps.lean ====
section
/-! DEFINITION. Operations of the Timebase and of the Discipline Unit (chapters 1 and 3): counting, steps and the backward set, the time
state, the uncertainty and its refresh requests, steering, labels, presence and holdover. -/

namespace Sys2Proof.Machine

/-! ### Counting (R2) -/

/-- One unit of the fraction accumulator's tick, 10^11 (R2). -/
abbrev fractionTick : Int := 100000000000

/-- One oscillator cycle at the Timebase (R2). -/
def Timebase.cycle (tb : Timebase) : Timebase :=
  let sum := tb.f + tb.rate
  if fractionTick ≤ sum then { tb with f := sum - fractionTick, now := addTime tb.now 2 }
  else if sum ≤ -fractionTick then { tb with f := sum + fractionTick }
  else { tb with f := sum, now := addTime tb.now 1 }

/-! ### GNSS requests (R56, R57) -/

/-- An expiry that has not been reached. -/
def unexpired (seconds : Nat) (e : Option Nat) : Option Nat :=
  match e with
  | none => none
  | some x => if seconds < x then some x else none

/-- The TIMEBASE entry on GNSS that the requests form (R56). -/
def timebaseAsk (d : Discipline) (seconds : Nat) : Ask :=
  if d.continuous then .standing
  else
    match unexpired seconds d.window, unexpired seconds d.refresh with
    | none, none => .absent
    | some a, none => .until a
    | none, some b => .until b
    | some a, some b => .until (max a b)

/-- The TIMEBASE entry formed again (R56). -/
def formTimebaseEntry (s : State) : State := setAsk .gnss .timebase (timebaseAsk s.disc s.pace.seconds) s

/-- A refresh request for one window length (R57). -/
def refreshRequest (s : State) : State :=
  formTimebaseEntry
    (s.onDisc fun d => { d with refresh := some (s.pace.seconds + d.cfg.windowLength), sinceRefresh := 0 })

/-- A scheduled window opens (R56). -/
def openGnssWindow (s : State) : State :=
  formTimebaseEntry
    (s.onDisc fun d => { d with window := some (s.pace.seconds + d.cfg.windowLength), windowDue := false })

/-- The Power Controller's report of a level at the Discipline Unit (R56). -/
def disciplineLevel (level : Option Level) (s : State) : State :=
  let request (cont : Bool) : State :=
    formTimebaseEntry (s.onDisc fun d => { d with continuous := cont, window := none, windowDue := false })
  match level with
  | none => s
  | some .full => request true
  | some .reduced => request true
  | some .survival => openGnssWindow (s.onDisc fun d => { d with continuous := false, scheduleCount := 0 })
  | some .critical => request false
  | some .dormant => request false

/-- A new uncertainty rises from at or below the refresh limit in force to above it (R57, R60). -/
def risesAbove (u : Nat) (s : State) : Bool :=
  decide (s.disc.cfg.refreshLimit < u) &&
    (s.disc.takenLow || decide (s.tb.uncertainty ≤ s.disc.cfg.refreshLimit))

/-- The uncertainty set, and a refresh request made on a rise above the refresh limit (R6, R57). The repetition begins
with the rise and ends when the uncertainty returns (DEDUCED, unsafe: notes/assumptions/20.md). A rise before the report of
the first level makes the request too. DEDUCED, unsafe: notes/assumptions/47.md. -/
def setUncertainty (n : Nat) (s : State) : State :=
  let u := min 4294967295 n
  let rise := risesAbove u s
  let s1 := (s.onTb fun tb => { tb with uncertainty := u }).onDisc fun d =>
    { d with takenLow := false, aboveRefresh := rise || (d.aboveRefresh && decide (d.cfg.refreshLimit < u)) }
  if rise then refreshRequest s1 else s1

/-! ### The time state (R5, R50) -/

/-- A change of the time state and what the Discipline Unit does with it; an entry to ADRIFT asks for the ROUTINE TIME
notice unless a label conflict brings it (R5, R14, R50). DEDUCED, unsafe: notes/assumptions/26.md. -/
def changeTimeState (new : TimeState) (conflict : Bool) (s : State) : State :=
  if s.tb.state = new then s
  else
    let s1 := notifyAll .timeState
      (s.onTb fun tb =>
        { tb with state := new, entry := tb.now, ctemp := if tb.state = .holdover then 0 else tb.ctemp })
    let s2 := s1.onDisc fun d =>
      let d1 := { d with lockRun := 0, unlockRun := 0 }
      if new = .free then { d1 with conflicts := 0, conflictLatch := false, heldP := none } else d1
    if new = .adrift ∧ conflict = false then timeNotice false s2 else s2

/-! ### Steps and the backward set (R9, R10, R33 to R35) -/

/-- The test of R127 that follows a firing of channel 7. -/
def listenFired (s : State) : State := if s.pw.level = some .survival then listenPoint s else s

/-- Channel 7 at a forward step (R33, R127). -/
def listenAtStep (new : Time) (s : State) : State :=
  if s.ccu.ch7.due new then listenFired (s.onCcu fun c => { c with ch7 := c.ch7.stepFire new }) else s

/-- Channel 7 at the backward set (R35, R127). -/
def listenAtSet (new : Time) (s : State) : State :=
  if s.ccu.ch7.mode = .off then s else listenFired (s.onCcu fun c => { c with ch7 := c.ch7.setFire new })

/-- The strobe and the heater outputs realigned. Where a frame is in flight the order shows in its HEATER_EDGE mark, and
either may be taken first (R66). -/
def realign (strobe heaters : State → State) (s : State) : State :=
  if s.acq.inFlight.isSome && !Config.strobeFirst then strobe (heaters s) else heaters (strobe s)

/-- A forward step (R9), with what follows it: the expected PPS time, the matched PPS, the data-ready deadline and the
ack window move with it, and the CCU realigns (R33, R34, R38, R41, R62, R121). -/
def forwardStep (n : Nat) (s : State) : State :=
  if n = 0 then s
  else
    let new := addTime s.tb.now n
    let s1 := s.onTb fun tb =>
      { tb with now := new, stepCount := rollInc 65536 tb.stepCount, lastStep := n }
    let s2 := s1.onDisc fun d =>
      { d with expected := addTime d.expected n,
               matched := d.matched.map fun m => { m with stepped := m.stepped + n } }
    let s3 := (s2.onAcq fun a => { a with inFlight := a.inFlight.map fun f => { f with deadline := f.deadline + n } }).onLink
      fun l => { l with window := l.window.map fun w => { w with finish := w.finish + n } }
    listenAtStep new (realign (strobeAtStep new) (fun x => pairedStep .ho new (pairedStep .hb new x)) s3)

/-- The backward set (R10, R35, R121). -/
def backwardSet (new : Time) (s : State) : State :=
  let old := s.tb.now
  let s1 := (s.onTb fun tb => { tb with now := new }).onLink fun l =>
    { l with window := l.window.map fun w => { w with finish := w.finish + new - old } }
  listenAtSet new (realign (strobeAtSet new) (fun x => pairedSet .ho new (pairedSet .hb new x)) s1)

/-! ### The temperature table (R53, R54) -/

/-- The bin of an oscillator temperature (R53). -/
def binOf (t : Int) : Nat := (clampTo 0 15 ((t + 400) / 50)).toNat

/-- The bin of the present oscillator temperature, if it counts as valid (R53). -/
def presentBin (s : State) : Option TempBin :=
  if s.pw.tosc.faulted then none
  else
    match s.disc.bins[binOf s.pw.tosc.value]? with
    | none => none
    | some b => if 8 ≤ b.count then some b else none

/-- One learning of a bin from Cfreq (R54). -/
def TempBin.learn (cfreq : Int) (b : TempBin) : TempBin :=
  { value := if b.count = 0 then cfreq else b.value + (cfreq - b.value).tdiv 8, count := satInc 255 b.count }

/-- Learning at a PPS taken in LOCKED (R54). -/
def learnBin (s : State) : State :=
  if s.pw.tosc.faulted then s
  else s.onDisc fun d => { d with bins := d.bins.modify (binOf s.pw.tosc.value) (TempBin.learn s.tb.cfreq) }

/-! ### Phase error and steering (R44 to R47) -/

/-- The phase error of a capture (R44). -/
def phaseError (t : Time) : Int :=
  if t % perSecond < 5000000 then ((t % perSecond : Nat) : Int) else ((t % perSecond : Nat) : Int) - perSecond

/-- The steering action steps (R45). -/
def steps (c : DisciplineCfg) (p : Int) : Bool := decide (p < -(c.stepThreshold : Int))

/-- The slew part of the steering action at the Timebase (R45). -/
def Timebase.slew (c : DisciplineCfg) (p : Int) (tb : Timebase) : Timebase :=
  { tb with cslew := clampAbs 500000 ((-(p * 10000)).tdiv c.slewConstant)
            cfreq := clampAbs 5000000 (tb.cfreq + (-(p * 10000)).tdiv c.freqConstant) }

/-- The steering action (R45). -/
def steer (p : Int) (s : State) : State :=
  if steps s.disc.cfg p then (forwardStep (-p).toNat s).onTb fun tb => { tb with cslew := 0 }
  else s.onTb (Timebase.slew s.disc.cfg p)

/-- The steering action with its uncertainty (R45, R46). -/
def steerAndJudge (p : Int) (s : State) : State := setUncertainty (p.natAbs * 100) (steer p s)

/-- The phase error counts toward locking (R47, R49). -/
def inLockWindow (c : DisciplineCfg) (p : Int) : Bool := decide (p.natAbs ≤ c.lockWindow) && !steps c p

/-- The lock run at a PPS taken in ACQUIRING (R47). -/
def moveLockRun (p : Int) (s : State) : State :=
  let run := if inLockWindow s.disc.cfg p then satInc 255 s.disc.lockRun else 0
  let s1 := s.onDisc fun d => { d with lockRun := run }
  if 0 < run ∧ s.disc.cfg.lockCount ≤ run then changeTimeState .locked false s1 else s1

/-- The unlock run at a PPS taken in LOCKED (R47). -/
def moveUnlockRun (p : Int) (s : State) : State :=
  let run := if s.disc.cfg.unlockWindow < p.natAbs then satInc 255 s.disc.unlockRun else 0
  let s1 := s.onDisc fun d => { d with unlockRun := run }
  if 3 ≤ run then changeTimeState .acquiring false s1 else s1

/-! ### PPS (R38, R44) -/

/-- The record of a valid PPS, which ends a label in assembly (R8, R38, R40). -/
def recordPps (t : Time) (s : State) : State :=
  (s.onTb fun tb => { tb with ppsSeen := ⟨true, true, true⟩ }).onDisc fun d =>
    { d with present := true, expected := addTime t perSecond, absence := 0, lossDue := false,
             matched := some { capture := t, stepped := 0, awaitsLabel := true },
             validPps := rollInc seqSpan d.validPps, lastP := phaseError t, label := [],
             badChecks := if d.label.isEmpty then d.badChecks else satInc 65535 d.badChecks }

/-- A valid PPS with its work by time state (R38, R44 to R47, R54). -/
def validPps (t : Time) (s : State) : State :=
  let p := phaseError t
  let s1 := recordPps t s
  match s.tb.state with
  | .free => s1
  | .acquiring => moveLockRun p (steerAndJudge p s1)
  | .locked => learnBin (moveUnlockRun p (steerAndJudge p s1))
  | .holdover => s1.onDisc fun d => { d with heldP := some p }
  | .adrift => s1.onDisc fun d => { d with heldP := some p }

/-- A capture lies within the window of the expected PPS (R38). -/
def ppsInWindow (t : Time) (d : Discipline) : Bool :=
  decide (d.expected ≤ t + 500000) && decide (t ≤ d.expected + 500000)

/-- A capture on channel 0 qualified (R38). -/
def qualifyPps (t : Time) (s : State) : State :=
  if !s.pw.loads.gnss.on then s
  else if !s.disc.present || ppsInWindow t s.disc then validPps t s
  else s.onDisc fun d => { d with invalidPps := satInc 65535 d.invalidPps }

/-! ### Absence (R39, R48) -/

/-- The state's move when the presence becomes ABSENT (R48). -/
def loseState (s : State) : State :=
  match s.tb.state with
  | .locked =>
    let bref := match presentBin s with
      | some b => b.value
      | none => s.tb.cfreq
    let s1 := (s.onTb fun tb => { tb with cslew := 0, ctemp := 0 }).onDisc fun d => { d with bref := bref }
    changeTimeState .holdover false (setUncertainty (s.disc.lastP.natAbs * 100) s1)
  | .acquiring => changeTimeState .adrift false s
  | .free => s
  | .holdover => s
  | .adrift => s

/-- The presence becomes ABSENT (R39, R48). -/
def becomeAbsent (s : State) : State :=
  loseState
    (s.onDisc fun d =>
      { d with present := false, lossDue := false, heldP := none,
               matched := d.matched.map fun m => { m with awaitsLabel := false } })

/-- The GNSS load turns OFF (R39). -/
def gnssOff (s : State) : State :=
  let s1 := s.onDisc fun d => { d with absence := d.cfg.lossLimit }
  if s.disc.present then becomeAbsent s1 else s1

/-- A missed second (R39). -/
def missSecond (s : State) : State :=
  s.onDisc fun d =>
    { d with expected := addTime d.expected perSecond, missedSeconds := satInc 65535 d.missedSeconds,
             lockRun := if s.tb.state = .acquiring then 0 else d.lockRun }

/-! ### Labels (R40 to R43, R49) -/

/-- The return to ACQUIRING on an agreeing label in HOLDOVER or ADRIFT (R49). -/
def returnToAcquiring (s : State) : State :=
  let s1 := changeTimeState .acquiring false s
  match s.disc.heldP with
  | none => s1
  | some p =>
    let run := if inLockWindow s.disc.cfg p then 1 else 0
    (steerAndJudge p s1).onDisc fun d => { d with heldP := none, lockRun := run }

/-- A label that agrees, or is taken as agreeing (R42, R49). -/
def labelAgrees (s : State) : State :=
  let s1 := s.onDisc fun d => { d with conflicts := 0, conflictLatch := false }
  match s.tb.state with
  | .holdover => returnToAcquiring s1
  | .adrift => returnToAcquiring s1
  | .free => s1
  | .acquiring => s1
  | .locked => s1

/-- A third disagreeing label: the label conflict (R42, R14). Its forward step is a discipline step, which sets Cslew to 0
(R3). DEDUCED, unsafe: notes/assumptions/34.md. -/
def labelConflict (label r : Nat) (s : State) : State :=
  let s1 := timeNotice true (s.onDisc fun d => { d with conflicts := 0 })
  if r < label then
    let s2 := ((forwardStep ((label - r) * perSecond) s1).onTb fun tb => { tb with cslew := 0 }).onDisc fun d =>
      { d with lockRun := 0 }
    match s.tb.state with
    | .locked => changeTimeState .acquiring false (labelAgrees s2)
    | .free => labelAgrees s2
    | .acquiring => labelAgrees s2
    | .holdover => labelAgrees s2
    | .adrift => labelAgrees s2
  else (changeTimeState .adrift true s1).onDisc fun d => { d with conflictLatch := true }

/-- The station second of a PPS, rounded to the nearest (R42). -/
def roundedSecond (t : Time) : Nat := t / perSecond + (if t % perSecond < 5000000 then 0 else 1)

/-- A valid label compared with station time (R42). A phase error that is held stays held when its own label disagrees.
DEDUCED, unsafe: notes/assumptions/48.md. -/
def compareLabel (label : Nat) (m : MatchedPps) (s : State) : State :=
  let r := roundedSecond (m.capture + m.stepped)
  if label = r then labelAgrees s
  else if s.disc.conflictLatch then s
  else if 3 ≤ s.disc.conflicts + 1 then labelConflict label r s
  else s.onDisc fun d => { d with conflicts := d.conflicts + 1 }

/-- The first valid label in FREE sets station time (R43, R10). DEDUCED, unsafe: notes/assumptions/25.md. -/
def setFromLabel (label : Nat) (m : MatchedPps) (s : State) : State :=
  let new := label * perSecond + (s.tb.now - (m.capture + m.stepped))
  let s1 := if s.tb.now ≤ new then forwardStep (new - s.tb.now) s else backwardSet new s
  let s2 := (s1.onDisc fun d =>
      { d with expected := addTime (label * perSecond) perSecond, lastP := 0, conflicts := 0, conflictLatch := false }).onTb
    fun tb => { tb with cslew := 0 }
  changeTimeState .acquiring false (setUncertainty 0 s2)

/-- A label that has passed its checks is matched, and is valid or unmatched (R41). -/
def matchLabel (label : Nat) (s : State) : State :=
  let unmatched : State := s.onDisc fun d => { d with unmatched := satInc 65535 d.unmatched }
  match s.disc.matched with
  | none => unmatched
  | some m =>
    if s.disc.present && m.awaitsLabel && decide (s.tb.now ≤ m.capture + m.stepped + 9000000) then
      let s1 := s.onDisc fun d =>
        { d with goodLabels := satInc 65535 d.goodLabels, matched := some { m with awaitsLabel := false } }
      if s.tb.state = .free then setFromLabel label m s1 else compareLabel label m s1
    else unmatched

/-- A completed label is checked (R40). -/
def completeLabel (label : List Byte) (s : State) : State :=
  let s1 := s.onDisc fun d => { d with label := [] }
  if fieldAt label 7 1 ≠ [labelSum label] then s1.onDisc fun d => { d with badChecks := satInc 65535 d.badChecks }
  else if natAt label 6 1 % 2 = 0 then s1.onDisc fun d => { d with noFix := satInc 65535 d.noFix }
  else matchLabel (natAt label 1 5) s1

/-- A byte on LBL (R40). -/
def labelByte (b : Byte) (s : State) : State :=
  if s.disc.label = [] then (if b = 0xB5 then s.onDisc fun d => { d with label := [b] } else s)
  else if s.disc.label.length < 7 then s.onDisc fun d => { d with label := d.label ++ [b] }
  else completeLabel (s.disc.label ++ [b]) s

/-! ### The accounting second at the Discipline Unit (R39, R51, R52, R56, R57) -/

/-- The work of HOLDOVER at an accounting second (R51, R52). -/
def holdoverSecond (s : State) : State :=
  let bin := presentBin s
  let growth := if bin.isSome then s.disc.cfg.gbase else 4 * s.disc.cfg.gbase
  let s1 := setUncertainty (s.tb.uncertainty + growth) s
  if s.disc.cfg.adriftLimit < s1.tb.uncertainty then changeTimeState .adrift false s1
  else
    s1.onTb fun tb =>
      { tb with ctemp := match bin with
                  | some b => clampAbs 2000000 (b.value - s.disc.bref)
                  | none => 0 }

/-- One accounting second at the Discipline Unit (R39, R51, R52, R56, R57). A new window interval is tested with the count
from the next such second on. DEDUCED, unsafe: notes/assumptions/36.md. -/
def disciplineSecondWork (s : State) : State :=
  let s1 := s.onPace fun p => { p with disciplineSeconds := p.disciplineSeconds + 1 }
  let absence := satInc 255 s.disc.absence
  let survival := s.pw.level == some .survival
  let count := if survival then s.disc.scheduleCount + 1 else s.disc.scheduleCount
  let s2 := s1.onDisc fun d =>
    { d with absence := absence, lossDue := d.present && decide (d.cfg.lossLimit ≤ absence), scheduleCount := count,
             windowDue := d.windowDue || (survival && decide (count % d.cfg.windowInterval = 0)),
             sinceRefresh := d.sinceRefresh + 1 }
  if s.tb.state = .holdover then holdoverSecond s2 else s2

end Sys2Proof.Machine
end

