-- ==== Sys2Proof/Machine/PowerOps.lean ====
section
/-! DEFINITION. Operations of the Power Controller and of the Settings Store (chapters 9 and 11): the charge account, loads, levels and
their reports, the last gasp, saves, and what is formed again at the end of every step that changes something. -/

namespace Sys2Proof.Machine

/-! ### Measurement and the charge account (R155 to R160) -/

/-- One reading of a channel with its plausible range (R155). -/
def Measure.take (lo hi x : Int) (m : Measure) : Measure :=
  if lo ≤ x ∧ x ≤ hi then { value := x, bad := 0, faulted := false, everGood := true }
  else
    let bad := satInc 60 m.bad
    { m with bad := bad, faulted := m.faulted || decide (60 ≤ bad) || !m.everGood }

/-- The six readings of one accounting second (R155). -/
def Power.measured (r : Readings) (pw : Power) : Power :=
  { pw with
    vb := pw.vb.take 5000 20000 r.vb
    ib := pw.ib.take (-30000) 30000 r.ib
    tb := pw.tb.take (-550) 1000 r.tb
    tv := pw.tv.take (-550) 1000 r.tv
    tosc := pw.tosc.take (-550) 1000 r.tosc
    vs := pw.vs.take 0 40000 r.vs }

/-- Qmax (R157). -/
def qmax (cap : Nat) : Nat := cap * 36000

/-- Q clamped to 0 to Qmax. -/
def clampQ (cap : Nat) (q : Int) : Nat := (clampTo 0 (qmax cap : Nat) q).toNat

/-- The update of Q from IB; a FAULTED IB leaves Q, sets UNVERIFIED and zeroes the full count (R156, R157). -/
def Power.charged (pw : Power) : Power :=
  if pw.ib.faulted then { pw with unverified := true, fullCount := 0 }
  else
    let delta := if 0 < pw.ib.value then pw.ib.value * pw.act.accept / 256 else pw.ib.value
    { pw with q := clampQ pw.act.cap (pw.q + delta) }

/-- The full count after this second (R156, R159). -/
def Power.fullNext (pw : Power) : Nat :=
  if pw.chgEn && !pw.vb.faulted && !pw.ib.faulted && decide ((pw.act.vfull : Int) ≤ pw.vb.value) &&
      decide (0 ≤ pw.ib.value) && decide (pw.ib.value ≤ pw.act.itaper) then satInc 60 pw.fullCount
  else 0

/-- The empty count after this second (R156, R159). -/
def Power.emptyNext (pw : Power) : Nat :=
  if !pw.vb.faulted && decide (pw.vb.value ≤ pw.act.vempty) then satInc 10 pw.emptyCount else 0

/-- The recalibrations of Q (R159). UNVERIFIED clears in the second in which the empty count reaches 10; while the count
stays there only Q is set to 0. DEDUCED, unsafe: notes/assumptions/45.md. -/
def Power.recalibrated (pw : Power) : Power :=
  let full := pw.fullNext
  let empty := pw.emptyNext
  let pw1 :=
    if 60 ≤ full then { pw with q := qmax pw.act.cap, unverified := false, fullHold := true, fullCount := 0 }
    else { pw with fullCount := full }
  if 10 ≤ empty then
    { pw1 with q := 0, unverified := pw1.unverified && decide (10 ≤ pw.emptyCount), emptyCount := empty }
  else { pw1 with emptyCount := empty }

/-- The derating factor D (R158). -/
def derating (faulted : Bool) (t : Int) : Nat :=
  if faulted then 128
  else if t ≤ -400 then 128
  else if t < -200 then 128 + ((t + 400) * 38 / 200).toNat
  else if t < 0 then 166 + ((t + 200) * 52 / 200).toNat
  else if t < 200 then 218 + (t * 38 / 200).toNat
  else 256

/-- SoC of a charge and a derated capacity (R158). -/
def socOf (q cd : Nat) : Nat := min 1000 (q * 1000 / cd)

/-- Cd and SoC formed; full-hold clears below 950 ‰ (R158, R159). -/
def Power.derated (pw : Power) : Power :=
  let cd := qmax pw.act.cap * derating pw.tb.faulted pw.tb.value / 256
  let soc := socOf pw.q cd
  { pw with cd := cd, soc := soc, fullHold := pw.fullHold && decide (950 ≤ soc) }

/-- The source is present (R160). -/
def Power.sourceHere (pw : Power) : Bool := !pw.vs.faulted && decide ((pw.act.sourcePresent : Int) ≤ pw.vs.value)

/-- CHG_EN, the cold-inhibit condition and the source-heating request (R160). -/
def Power.charging (pw : Power) : Power :=
  let ready := pw.sourceHere && !pw.tb.faulted && !pw.fullHold
  let cold := ready && decide (pw.tb.value < pw.act.chargeMin)
  { pw with
    chgEn := ready && decide (pw.act.chargeMin ≤ pw.tb.value) && decide (pw.tb.value ≤ pw.act.chargeMax)
    coldInhibit := cold
    sourceHeating := cold && decide ((pw.act.vcutoff : Int) ≤ pw.vb.value) }

/-- The whole charge account of one second, from the readings on (R155 to R160). -/
def Power.account (r : Readings) (pw : Power) : Power := (pw.measured r).charged.recalibrated.derated.charging

/-- The counts of one second (R156, R162, R165, R166). -/
def Power.counted (pw : Power) : Power :=
  let dormant := pw.level == some .dormant
  { pw with
    dwell := satInc 65535 pw.dwell
    cutoffCount :=
      if pw.vb.faulted then 0
      else if dormant then pw.cutoffCount
      else if pw.vb.value < pw.act.vcutoff then satInc 10 pw.cutoffCount
      else 0
    restartCount :=
      if dormant && !pw.vb.faulted && !pw.ib.faulted && !pw.tb.faulted && decide ((pw.act.vrestart : Int) < pw.vb.value) &&
          decide (200 < pw.soc) then satInc 60 pw.restartCount
      else 0
    lastGasp := pw.lastGasp.map fun g => { g with elapsed := satInc 60 g.elapsed } }

/-! ### Levels (R161, R162) -/

/-- The target of the descent rule (R162, item 2). -/
def Power.target (pw : Power) : Level :=
  if pw.soc < 150 ∨ pw.vb.value < pw.act.vcrit then .critical
  else if pw.soc < 350 then .survival
  else if pw.soc < 600 then .reduced
  else .full

/-- The first level after a cold reset (R161). -/
def Power.firstLevel (pw : Power) : Level := if pw.vb.faulted then .critical else pw.target.lower pw.ceiling

/-- One step up with the SoC it takes (R162, item 3). -/
def Level.up : Level → Option (Level × Nat)
  | .full => none
  | .reduced => some (.full, 650)
  | .survival => some (.reduced, 400)
  | .critical => some (.survival, 200)
  | .dormant => none

/-- The level R162 gives from a level that is held, in the conditions of the evaluation. -/
def Power.evaluated (l : Level) (pw : Power) : Level :=
  if pw.vb.faulted then l
  else if pw.target.below l then pw.target
  else
    match l.up with
    | none => l
    | some (higher, leave) =>
      if pw.act.minDwell ≤ pw.dwell ∧ leave < pw.soc ∧ (pw.act.vcrit : Int) ≤ pw.vb.value ∧ pw.ceiling.below higher = false
      then higher
      else l

/-! ### Power notices (R171) -/

/-- The three causes whose references the Power Controller keeps beside the last gasp's (R171). -/
inductive PowerCause where
  | survivalEntry | criticalEntry | coldHold
  deriving DecidableEq, Repr

/-- The reference kept for a cause. -/
def Power.refOf (pw : Power) : PowerCause → Option Nat
  | .survivalEntry => pw.survivalRef
  | .criticalEntry => pw.criticalRef
  | .coldHold => pw.coldRef

/-- The reference of a cause replaced. -/
def Power.withRef (c : PowerCause) (n : Option Nat) (pw : Power) : Power :=
  match c with
  | .survivalEntry => { pw with survivalRef := n }
  | .criticalEntry => { pw with criticalRef := n }
  | .coldHold => { pw with coldRef := n }

/-- Class and reason of a cause's notice (R171). -/
def PowerCause.ask : PowerCause → NoticeAsk
  | .survivalEntry => { kind := .power, cls := .routine, origin := .power, event := none, reason := .levelEntry }
  | .criticalEntry => { kind := .power, cls := .urgent, origin := .power, event := none, reason := .levelEntry }
  | .coldHold => { kind := .power, cls := .routine, origin := .power, event := none, reason := .coldHold }

/-- A POWER notice requested unless the cause's reference is live (R171). -/
def powerNotice (c : PowerCause) (s : State) : State :=
  if (s.pw.refOf c).isSome then s
  else
    let (s1, n) := requestNotice c.ask s
    s1.onPw (Power.withRef c n)

/-! ### Standing loads and requester entries (R169) -/

/-- STATION's entries follow the standing-load setting (R169). -/
def formStanding (s : State) : State :=
  allLoads.foldl
    (fun x l => setAsk l .station (if s.pw.act.standing.getLsbD (Load.code l) then .standing else .absent) x) s

/-! ### The level change (R164) -/

/-- The Detector's and the Heater Controller's reports of a level (R96, R164, R177). The caps cut a heater before SENSOR's
turn-off, which `settle` forms, can clear the quiet request. DEDUCED, unsafe: notes/assumptions/57.md. -/
def reportToWatchers (old : Option Level) (new : Level) (s : State) : State :=
  let caps (x : State) : State := formCaps (x.onHt fun u => { u with level := some new })
  let det (x : State) : State := detectorLevel old (some new) x
  if s.det.quiet && !Config.capsFirst then caps (det s) else det (caps s)

/-- The reports of a new level to the blocks (R164). LEVEL_CHANGED on the OPEN record and the caps' cut come before SENSOR's
turn-off, which `settle` forms. DEDUCED, unsafe: notes/assumptions/53.md, notes/assumptions/57.md. -/
def reportLevel (old : Option Level) (new : Level) (s : State) : State :=
  let s1 := linkLevel (disciplineLevel (some new) s)
  let s2 := if old.isNone then startHeaters s1 else s1
  if (openRecord s2).isSome && !Config.levelFlagFirst then flagLevelChanged (reportToWatchers old new s2)
  else reportToWatchers old new (flagLevelChanged s2)

/-- The level-entry notice of a level (R164, R171). -/
def entryNotice (new : Level) (s : State) : State :=
  match new with
  | .survival => powerNotice .survivalEntry s
  | .critical => powerNotice .criticalEntry s
  | .full => s
  | .reduced => s
  | .dormant => s

/-- A change of level, with its level-entry notice or, at the start of the last gasp, without (R164, R166). That notice is
requested last, after a QUAKE_SUMMARY that the Detector's report of the level requests. DEDUCED, unsafe:
notes/assumptions/58.md. LEVEL_CHANGED is added, and the blocks told, before the loads are formed again in `settle`.
DEDUCED, unsafe: notes/assumptions/52.md, notes/assumptions/57.md. -/
def changeLevel (new : Level) (notice : Bool) (s : State) : State :=
  let old := s.pw.level
  if old = some new then s
  else
    let s1 := s.onPw fun pw =>
      { pw with level := some new, dwell := 0, restartCount := 0,
                cutoffCount := if old = some .dormant then 0 else pw.cutoffCount }
    let s2 := if old.isNone then formStanding s1 else s1
    let s3 := notifyAll .levelChanged (reportLevel old new s2)
    if notice then entryNotice new s3 else s3

/-! ### The Settings Store (R193, R194) -/

/-- The image of every setting and of the learned state as they stand (R193). -/
def imageOf (s : State) : Image :=
  { discipline := s.disc.cfg, acquisition := s.acq.cfg, detector := s.det.cfg, channels := s.det.params,
    unreadProtection := s.ev.unreadProtection, link := s.link.cfg, groups := s.link.groups, notices := s.nt.cfg,
    power := s.pw.cfg, ceiling := s.pw.ceiling, heaters := ⟨s.ht.units.hb.cfg, s.ht.units.ho.cfg⟩,
    heaterLimits := s.ht.limits, masks := s.ports.map fun p => p.mask, rights := s.ports.map fun p => p.rights,
    bins := s.disc.bins, cfreq := s.tb.cfreq, q := s.pw.q }

/-- The length of a save, 250 ms in oscillator cycles (R193). -/
abbrev saveCycles : Nat := 2500000

/-- A save starts: the image counts as invalid until its end (R193). DEDUCED, unsafe: notes/assumptions/32.md. -/
def startSave (automatic : Bool) (replyTo : Option Port) (s : State) : State :=
  s.onStore fun st =>
    { st with image := none, autoWaiting := false,
              save := some { copy := imageOf s, finish := s.pace.cycles + saveCycles, automatic := automatic,
                             replyTo := replyTo } }

/-- The automatic save starts, or waits for the save that runs (R166, R193). -/
def automaticSave (s : State) : State :=
  if s.store.save.isSome then s.onStore fun st => { st with autoWaiting := true } else startSave true none s

/-- The reply of a save that ends, if it is still in preparation (R189, R193). -/
def replySaved (p : Port) (s : State) : State :=
  match (s.ports.get p).reply with
  | .none => s
  | .ready _ => s
  | .preparing tag => replyReady p .ok tag [] s

/-- A save ends (R193). -/
def endSave (sv : Save) (s : State) : State :=
  let s1 := s.onStore fun st => { st with image := some sv.copy, invalid := false, save := none }
  let s2 := match sv.replyTo with
    | none => s1
    | some p => replySaved p s1
  if s2.store.autoWaiting then startSave true none s2 else s2

/-! ### The last gasp and DORMANT (R165, R166) -/

/-- DORMANT is entered (R166). -/
def enterDormant (s : State) : State :=
  automaticSave (changeLevel .dormant true (s.onPw fun pw => { pw with lastGasp := none, gaspEnded := false }))

/-- The wait runs from now on with the last-gasp slot, and the level becomes CRITICAL if it was above (R165). -/
def beginGasp (n : Nat) (s : State) : State :=
  changeLevel .critical false (s.onPw fun pw => { pw with lastGasp := some { elapsed := 0 }, gaspRef := some n })

/-- The cutoff count has reached 10: the last gasp is requested, unless the slot of an earlier one has not reached a final
state, which the wait then takes (R171); a refusal ends the wait at once (R165). DEDUCED, unsafe: notes/assumptions/19.md. -/
def startLastGasp (s : State) : State :=
  match s.pw.gaspRef with
  | some n => beginGasp n s
  | none =>
    let (s1, slot) := requestNotice { kind := .power, cls := .alarm, origin := .power, event := none, reason := .lastGasp } s
    match slot with
    | none => enterDormant s1
    | some n => beginGasp n s1

/-! ### Loads (R167, R168, R170) -/

/-- A requester counts for a load in a level (the table of section 9.6). -/
def countsFor (l : Load) (level : Level) (r : Requester) (alarmMark : Bool) : Bool :=
  match level with
  | .full => true
  | .reduced =>
    match l with
    | .sensor => true
    | .gnss => true
    | .recorder => true
    | .telemetry => r != .station
    | .radio => true
    | .aux => false
  | .survival =>
    match l with
    | .sensor => true
    | .gnss => r == .timebase
    | .recorder => r == .detector || r == .remote
    | .telemetry => r == .remote
    | .radio => true
    | .aux => false
  | .critical =>
    match l with
    | .sensor => true
    | .gnss => false
    | .recorder => false
    | .telemetry => false
    | .radio => r == .link && alarmMark
    | .aux => false
  | .dormant => false

/-- A load is allowed (R167). -/
def allowedLoad (l : Load) (s : State) : Bool :=
  match s.pw.level with
  | none => false
  | some level =>
    allRequesters.any fun r => (s.pw.loads.get l).asks.get r != .absent && countsFor l level r s.pw.linkAlarm

/-- A port is reset (R170, R190). -/
def resetPort (p : Port) (s : State) : State :=
  s.onPort p fun r => { r with transaction := .none, reply := .none, notices := 0 }

/-- The block of a load is told that it is ON (R168). -/
def tellOn (l : Load) (s : State) : State :=
  match l with
  | .sensor => sensorOn s
  | .radio => radioOn s
  | .gnss => s
  | .recorder => s
  | .telemetry => s
  | .aux => s

/-- The block of a load is told that it is OFF (R168). -/
def tellOff (l : Load) (s : State) : State :=
  match l with
  | .sensor => sensorOff s
  | .gnss => gnssOff s
  | .recorder => resetPort .a s
  | .telemetry => resetPort .b s
  | .radio => radioCut s
  | .aux => s

/-- A load turns ON (R168). -/
def turnOn (l : Load) (s : State) : State :=
  tellOn l
    (notifyAll .loadChanged (s.onLoad l fun x => { x with on := true, onCount := rollInc 65536 x.onCount, onDue := false }))

/-- A load turns OFF (R168). DEDUCED, unsafe: notes/assumptions/31.md. -/
def turnOff (l : Load) (s : State) : State :=
  tellOff l (notifyAll .loadChanged (s.onLoad l fun x => { x with on := false, minOff := 0, onDue := false }))

/-- A load's state formed again: ON when it is allowed and its min-off count has reached the setting (R167). A load
whose count reached the setting at this accounting second waits for MIN_OFF_REACHED (R168).
DEDUCED, unsafe: notes/assumptions/21.md. -/
def formLoad (l : Load) (s : State) : State :=
  let x := s.pw.loads.get l
  if allowedLoad l s then
    if s.pw.act.minOff ≤ x.minOff then (if x.on || x.onDue then s else turnOn l s)
    else if x.on then turnOff l s
    else s
  else if x.on then turnOff l s
  else s.onLoad l fun y => { y with onDue := false }

/-- The last-gasp wait ends with its slot (R165). -/
def endGasp (s : State) : State := if s.pw.gaspEnded then enterDormant s else s

/-- One round of what R115, R165 and R167 form again at once. -/
def settleRound (s : State) : State := allLoads.foldl (fun x l => formLoad l x) (formRadioRequest (endGasp s))

/-- What a step that has changed something forms again: LINK's request, the six loads and the end of a last gasp, until
nothing moves, and the energy holds (R115, R138, R165, R167). Turning one load OFF can change the requests for another,
which takes at most three further rounds. DESIGN CHOICE, unsafe: notes/assumptions/29.md. SENSOR's turn-off at an entry to
DORMANT comes here, after the reports of the level. DEDUCED, unsafe: notes/assumptions/53.md, notes/assumptions/57.md. -/
def settle (s : State) : State := countEnergyHolds (settleRound (settleRound (settleRound (settleRound s))))

/-! ### The accounting second (R155 to R169) -/

/-- The min-off counts of one second; a load that is OFF and whose count reaches the setting is due (R168).
DEDUCED, unsafe: notes/assumptions/18.md. -/
def LoadRec.second (old new : Nat) (x : LoadRec) : LoadRec :=
  let count := satInc 65535 x.minOff
  { x with minOff := count, onDue := !x.on && (x.onDue || (decide (x.minOff < old) && decide (new ≤ count))) }

/-- The Heater Controller is told of the TB and TV flags and of the source-heating request (R156, R160, R177, R178). -/
def tellHeater (s : State) : State :=
  let s1 := s.onHt fun u => { u with tbFaulted := s.pw.tb.faulted, tvFaulted := s.pw.tv.faulted }
  if s.ht.sourceHeating = s.pw.sourceHeating then s1
  else formCaps (s1.onHt fun u => { u with sourceHeating := s.pw.sourceHeating })

/-- The level of this second (R161, R162). -/
def levelSecond (s : State) : State :=
  match s.pw.level with
  | none => changeLevel s.pw.firstLevel true s
  | some .dormant => s
  | some .full => if s.pw.lastGasp.isSome then s else changeLevel (s.pw.evaluated .full) true s
  | some .reduced => if s.pw.lastGasp.isSome then s else changeLevel (s.pw.evaluated .reduced) true s
  | some .survival => if s.pw.lastGasp.isSome then s else changeLevel (s.pw.evaluated .survival) true s
  | some .critical => if s.pw.lastGasp.isSome then s else changeLevel (s.pw.evaluated .critical) true s

/-- The settle count of SENSOR (R61). -/
def Acquisition.second (a : Acquisition) : Acquisition :=
  if a.state = .settling then
    let count := satInc 600 a.settleCount
    { a with settleCount := count, settleDue := decide (a.cfg.settleTime ≤ count) }
  else a

/-- The Power Controller's state at the start of a second: the settings written act from now on, and the min-off
counts move (R168, R173). -/
def Power.begun (pw : Power) : Power :=
  let tick (x : LoadRec) : LoadRec := x.second pw.act.minOff pw.cfg.minOff
  { pw with
    act := pw.cfg
    loads := ⟨tick pw.loads.sensor, tick pw.loads.gnss, tick pw.loads.recorder, tick pw.loads.telemetry,
              tick pw.loads.radio, tick pw.loads.aux⟩ }

/-- One accounting second at the Power Controller (R155 to R169). -/
def accountingWork (r : Readings) (s : State) : State :=
  let s1 := (s.onPace fun p => { p with seconds := p.seconds + 1 }).onPw fun pw => pw.begun.account r
  let s2 := if s1.pw.coldInhibit && !s.pw.coldInhibit then powerNotice .coldHold s1 else s1
  let s3 := levelSecond ((tellHeater s2).onPw Power.counted)
  settle (s3.onAcq Acquisition.second)

/-- An accounting second has been completed by the oscillator (00_scope.md, "The accounting second").
DESIGN CHOICE, safe: notes/assumptions/11.md. -/
def secondDue (s : State) : Bool := decide ((s.pace.seconds + 1) * perSecond ≤ s.pace.cycles)

/-- The full count reaches 60 in the second these readings belong to (R159). -/
def reachesFull (r : Readings) (s : State) : Bool := decide (60 ≤ ((s.pw.begun.measured r).charged).fullNext)

/-- The empty count stands at 10 in the second these readings belong to: it reaches 10, or stays there (R159). -/
def reachesEmpty (r : Readings) (s : State) : Bool := decide (10 ≤ ((s.pw.begun.measured r).charged).emptyNext)

/-- A new ceiling; one below the present level lowers the level at once (R163). -/
def setCeilingTo (l : Level) (s : State) : State :=
  let s1 := s.onPw fun pw => { pw with ceiling := l }
  match s.pw.level with
  | none => s1
  | some .dormant => s1
  | some .full => if l.below .full && s.pw.lastGasp.isNone then changeLevel l true s1 else s1
  | some .reduced => if l.below .reduced && s.pw.lastGasp.isNone then changeLevel l true s1 else s1
  | some .survival => if l.below .survival && s.pw.lastGasp.isNone then changeLevel l true s1 else s1
  | some .critical => if l.below .critical && s.pw.lastGasp.isNone then changeLevel l true s1 else s1

end Sys2Proof.Machine
end

