-- ==== Sys2Proof/Machine/ChannelEvents.lean ====
section
/-! DEFINITION. The meanings of the events of the compare and marker channels and of the heaters (chapters 2 and 10). -/

namespace Sys2Proof.Machine

/-- COMPARE_MATCH (R24): channel 4 strobes, channel 7 makes the listen test. -/
def execCompareMatch (ch : MatchChannel) (s : State) : Host.Outcome State Fault Refusal :=
  match ch with
  | .four => takeEvent (fun x => x.ccu.ch4.due x.tb.now) strobeByCounting s
  | .seven =>
    takeEvent (fun x => x.ccu.ch7.due x.tb.now)
      (fun x => settle (listenFired (x.onCcu fun c => { c with ch7 := c.ch7.fire x.tb.now }))) s

/-- HEATER_BOUNDARY (R29). -/
def execHeaterBoundary (h : Heater) (s : State) : Host.Outcome State Fault Refusal :=
  takeEvent (fun x => (pairedOf h x).cmp.due x.tb.now) (boundaryFires h) s

/-- The off-match of a running paired channel, if station time has reached it (R29). An off-match at or after the next
boundary, as a period begun at a step can have, never fires: the output stays as it is up to that boundary (R34). -/
def offMatchDue (h : Heater) (s : State) : Option Time :=
  match (pairedOf h s).offMatch with
  | none => none
  | some m =>
    if (pairedOf h s).cmp.mode ≠ .off ∧ m ≤ s.tb.now ∧ m < (pairedOf h s).cmp.next then some m else none

/-- HEATER_OFF_MATCH (R29). -/
def execHeaterOffMatch (h : Heater) (s : State) : Host.Outcome State Fault Refusal :=
  takeEvent (fun x => (offMatchDue h x).isSome)
    (fun x =>
      match offMatchDue h x with
      | none => x
      | some m => firingCallsFor h false m x) s

/-- An accounting second stands to be worked by the Heater Controller (R176). -/
def heaterDue (s : State) : Bool :=
  heatersStarted s && decide ((s.pace.heaterSeconds + 1) * perSecond ≤ s.pace.cycles)

/-- HEATER_SECOND (R176, R179). -/
def execHeaterSecond (s : State) : Host.Outcome State Fault Refusal :=
  takeEvent heaterDue
    (fun x =>
      computeHeater .ho
        (computeHeater .hb (testVault (x.onPace fun p => { p with heaterSeconds := p.heaterSeconds + 1 })))) s

/-- The deferral time of a heater has reached its limit (R181). -/
def deferralDue (h : Heater) (s : State) : Bool :=
  match (thermostatOf h s).deferral with
  | .deferring since => decide (since + (thermostatOf h s).cfg.limit * perSecond ≤ s.pace.cycles)
  | .none => false
  | .holding => false
  | .released => false

/-- DEFERRAL_LIMIT_EXPIRY (R181). -/
def execDeferralLimitExpiry (h : Heater) (s : State) : Host.Outcome State Fault Refusal :=
  takeEvent (deferralDue h) (releaseAtLimit h) s

/-- MARKER_CAPTURE (R18, R21). -/
def execMarkerCapture (s : State) : Host.Outcome State Fault Refusal :=
  takeEvent (fun _ => true)
    (fun x => x.onCcu fun c => { c with ch3 := c.ch3.edge x.tb.now, markerPending := true }) s

end Sys2Proof.Machine
end

