-- ==== Sys2Proof/Machine/ResetOps.lean ====
section
/-! DEFINITION. The two resets: the restore at the release of a cold reset (R194, R195) and the warm reset (R196 and the last rule of each
chapter). -/

namespace Sys2Proof.Machine

/-! ### The cold reset (R194, R195) -/

/-- Every block at its cold-reset values with RESET held low. A save that runs leaves no valid image (R193, R195). -/
def coldReset (cause : ColdCause) (s : State) : State :=
  State.cold cause (if s.store.save.isSome then none else s.store.image) s.pending

/-- The records of the Detector's channels with restored parameters, before the first level report (R99). -/
def freshChannels (params : Six ChannelCfg) (level : Option Level) : Six Channel :=
  params.map fun _ p => Channel.fresh (workingState p level)

/-- Every item of a valid image restored into its block (R194, R174, R17). -/
def restoreImage (im : Image) (s : State) : State :=
  let s1 := (((s.onTb fun tb => { tb with cfreq := clampAbs 5000000 im.cfreq }).onDisc fun d =>
      { d with cfg := im.discipline, bins := im.bins }).onAcq fun a => { a with cfg := im.acquisition }).onDet fun d =>
      { d with cfg := im.detector, params := im.channels, channels := freshChannels im.channels none }
  let s2 := ((s1.onEv fun ev => { ev with unreadProtection := im.unreadProtection }).onLink fun l =>
      { l with cfg := im.link, groups := im.groups, restPeriod := im.link.rest }).onNt fun nt => { nt with cfg := im.notices }
  let s3 := (s2.onPw fun pw =>
      { pw with cfg := im.power, act := im.power, ceiling := im.ceiling, q := min im.q (qmax im.power.cap),
                unverified := true }).onHt fun u =>
      { u with units := ⟨{ u.units.hb with cfg := im.heaters.hb }, { u.units.ho with cfg := im.heaters.ho }⟩,
               limits := im.heaterLimits }
  (s3.onPorts fun ps =>
      ⟨{ ps.a with mask := im.masks.a, rights := im.rights.a }, { ps.b with mask := im.masks.b, rights := im.rights.b },
       { ps.c with mask := im.masks.c, rights := im.rights.c }⟩).onStore fun st => { st with invalid := false }

/-- The release of RESET: the restore, and counting begins (R4, R194, R195). -/
def releaseReset (s : State) : State :=
  let s1 := match s.store.image with
    | none => s.onStore fun st => { st with invalid := true }
    | some im => restoreImage im s
  s1.onPace fun p => { p with held := false }

/-! ### The warm reset (R196) -/

/-- The CCU at a warm reset (R37). -/
def Ccu.warm (rate : SampleRate) (now : Time) (c : Ccu) : Ccu :=
  { c with
    ch1 := c.ch1.read
    ch4 := if c.ch4.mode = .off then c.ch4
           else { mode := .repeating, period := rate.period, phase := 0, next := nextSecond now, waiting := none,
                  skipped := 0 } }

/-- The Acquisition Unit at a warm reset (R76). -/
def Acquisition.warm (a : Acquisition) : Acquisition :=
  { a with inFlight := none, nextSeq := 0, edgePending := false, ring := [], cursor := 0, overrun := 0, holds := [],
           missing := 0, stray := 0, aborted := 0 }

/-- The Detector at a warm reset, before its quiet report (R99). DEDUCED, unsafe: notes/assumptions/28.md. -/
def Detector.warm (level : Option Level) (d : Detector) : Detector :=
  { Detector.cold with params := d.params, cfg := d.cfg, channels := freshChannels d.params level }

/-- The Alert Link Controller at a warm reset (R132). Before the first level is reported its link state is OFF (R124).
DEDUCED, unsafe: notes/assumptions/56.md. -/
def Link.warmReset (level : Option Level) (l : Link) : Link :=
  let st := linkStateFor level .clear
  { Link.cold with
    state := st, worst := ⟨st, st, st⟩, warm := l.warm, warmAt := l.warmAt, restPeriod := l.cfg.rest,
    listenAsk := l.listenAsk, cfg := l.cfg, groups := l.groups }

/-- The Power Controller at a warm reset: its references are cleared (R165, R171, R174). -/
def Power.warm (pw : Power) : Power :=
  { pw with survivalRef := none, criticalRef := none, coldRef := none, gaspRef := none, gaspEnded := false }

/-- A port record at a warm reset (R196). -/
def PortRec.warm (r : PortRec) : PortRec :=
  { r with transaction := .none, reply := .none, notices := 0, discarded := 0, badChecks := 0, framing := 0 }

/-- Every block but the ports' answer at its warm-reset values (R17, R37, R60, R76, R99, R114, R132, R154, R174, R186,
R196). -/
def warmBlocks (s : State) : State :=
  { s with
    pace := { s.pace with lastReset := .resetPart }
    tb := { s.tb with ppsSeen := ⟨false, false, false⟩, routineRef := none, urgentRef := none }
    ccu := s.ccu.warm s.acq.cfg.rate s.tb.now
    disc := { s.disc with label := [], pointer := 0 }
    acq := s.acq.warm
    det := s.det.warm s.pw.level
    ev := { EventTable.cold with unreadProtection := s.ev.unreadProtection }
    link := s.link.warmReset s.pw.level
    nt := { NoticeTable.cold with cfg := s.nt.cfg }
    pw := s.pw.warm
    ports := s.ports.map PortRec.warm
    store := { s.store with save := s.store.save.map fun sv => { sv with replyTo := none } } }

/-- The warm reset: the blocks are reset, the Detector reports its quiet request clear, and LINK's request is formed
again (R99, R174, R186, R196). DESIGN CHOICE, unsafe: notes/assumptions/5.md. A LOAD_CHANGED made then stays in the sets.
DEDUCED, unsafe: notes/assumptions/44.md. -/
def warmReset (s : State) : State := settle (reportQuiet false (warmBlocks s))

end Sys2Proof.Machine
end

