-- ==== Sys2Proof/Machine/CmdSystem.lean ====
section
/-! DEFINITION. The meanings of the port commands 0x01 to 0x07 (chapter 11). -/

namespace Sys2Proof.Machine

/-- A command without arguments: any argument byte is refused with OUT_OF_RANGE. -/
def withoutArgs (args : List Byte) (run : State → Answer) (s : State) : Answer :=
  if args.isEmpty then run s else refuse .outOfRange s

/-- A 16-bit set as two bytes. -/
def maskBytes (m : BitVec 16) : List Byte := be 2 m.toNat

/-! ### GET_STATUS (R194) -/

/-- The 17 data bytes of GET_STATUS (R194). -/
def statusData (p : Port) (s : State) : List Byte :=
  let r := s.ports.get p
  flagsByte [s.store.invalid, s.store.save.isSome, s.store.autoWaiting] ++ be 1 s.pace.lastReset.code ++ r.rights.byte ++
    maskBytes r.notices ++ maskBytes r.mask ++ be 2 r.discarded ++ be 2 r.badChecks ++ be 2 r.framing ++
    be 4 (min 4294967295 s.pace.seconds)

/-- GET_STATUS (R194). -/
def execGetStatus (p : Port) (tag : Byte) (args : List Byte) (s : State) : Host.Outcome State Fault Refusal :=
  request p tag .read (withoutArgs args fun x => taken (statusData p x) x) s

/-! ### Notifications (R192) -/

/-- The 4 data bytes of GET_NOTIFICATIONS (R192). -/
def noticeData (r : PortRec) : List Byte := maskBytes r.notices ++ maskBytes r.mask

/-- GET_NOTIFICATIONS (R192). -/
def execGetNotifications (p : Port) (tag : Byte) (args : List Byte) (s : State) : Host.Outcome State Fault Refusal :=
  request p tag .read
    (withoutArgs args fun x =>
      taken (noticeData (x.ports.get p)) (x.onPort p fun r => { r with notices := 0 })) s

/-- SET_NOTIFY_MASK at its port (R192). -/
def runSetNotifyMask (p : Port) (args : List Byte) (s : State) : Answer :=
  if args.length = 2 ∧ natOf args < 512 then taken [] (s.onPort p fun r => { r with mask := BitVec.ofNat 16 (natOf args) })
  else refuse .outOfRange s

/-- SET_NOTIFY_MASK (R192). -/
def execSetNotifyMask (p : Port) (tag : Byte) (args : List Byte) (s : State) : Host.Outcome State Fault Refusal :=
  request p tag .read (runSetNotifyMask p args) s

/-! ### Rights (R191) -/

/-- The rights of ports A, B and C (R191). -/
def rightsData (s : State) : List Byte := s.ports.a.rights.byte ++ s.ports.b.rights.byte ++ s.ports.c.rights.byte

/-- GET_RIGHTS (R191). -/
def execGetRights (p : Port) (tag : Byte) (args : List Byte) (s : State) : Host.Outcome State Fault Refusal :=
  request p tag .read (withoutArgs args fun x => taken (rightsData x) x) s

/-- The rights set of a byte (R191). -/
def rightsOf (n : Nat) : Rights :=
  { read := n.testBit 0, control := n.testBit 1, configure := n.testBit 2, drain := n.testBit 3 }

/-- The port records with a port's rights replaced; a set with DRAIN takes it from the others (R191). -/
def grantRights (target : Port) (new : Rights) (ps : PerPort PortRec) : PerPort PortRec :=
  (ps.map fun r => if new.drain then { r with rights := { r.rights with drain := false } } else r).update target
    fun r => { r with rights := new }

/-- Some port holds CONFIGURE. -/
def someConfigure (ps : PerPort PortRec) : Bool :=
  ps.a.rights.configure || ps.b.rights.configure || ps.c.rights.configure

/-- SET_RIGHTS at the rights table (R191). -/
def runSetRights (args : List Byte) (s : State) : Answer :=
  if args.length = 2 ∧ natAt args 1 1 < 16 then
    match Port.ofCode (natAt args 0 1) with
    | none => refuse .outOfRange s
    | some target =>
      let s1 := s.onPorts (grantRights target (rightsOf (natAt args 1 1)))
      if someConfigure s1.ports then taken (rightsData s1) s1 else refuse .denied s
  else refuse .outOfRange s

/-- SET_RIGHTS (R191). -/
def execSetRights (p : Port) (tag : Byte) (args : List Byte) (s : State) : Host.Outcome State Fault Refusal :=
  request p tag .configure (runSetRights args) s

/-! ### Saving and resetting (R193, R196) -/

/-- SAVE_SETTINGS at the store: its reply stays in preparation until the save ends (R193). -/
def runSaveSettings (p : Port) (s : State) : Answer :=
  if s.store.save.isSome || s.store.autoWaiting then refuse .busy s
  else { after := startSave false (some p) s, reply := none }

/-- SAVE_SETTINGS (R193). Argument bytes are tested before a save that runs or waits: OUT_OF_RANGE goes before BUSY.
DEDUCED, unsafe: notes/assumptions/59.md. -/
def execSaveSettings (p : Port) (tag : Byte) (args : List Byte) (s : State) : Host.Outcome State Fault Refusal :=
  request p tag .configure (withoutArgs args (runSaveSettings p)) s

/-- RESET_PART: the warm reset, with the requesting port's reply ready after it (R196).
DEDUCED, unsafe: notes/assumptions/27.md. -/
def runResetPart (p : Port) (tag : Byte) (s : State) : Answer :=
  { after := replyReady p .ok tag [] (warmReset s), reply := none }

/-- RESET_PART (R196). -/
def execResetPart (p : Port) (tag : Byte) (args : List Byte) (s : State) : Host.Outcome State Fault Refusal :=
  request p tag .configure (withoutArgs args (runResetPart p tag)) s

end Sys2Proof.Machine
end

