-- ==== Sys2Proof/Machine/CmdTime.lean ====
section
/-! DEFINITION. The meanings of the port commands of station time, of the channels and of the discipline (chapters 1, 2 and 3). -/

namespace Sys2Proof.Machine

/-! ### GET_TIME and GET_TIME_STATUS (R7, R8) -/

/-- The 13 data bytes of GET_TIME (R7). -/
def timeData (tb : Timebase) : List Byte := timeBytes tb.now ++ be 1 tb.state.code ++ be 4 tb.uncertainty

/-- GET_TIME (R7). -/
def execGetTime (p : Port) (tag : Byte) (args : List Byte) (s : State) : Host.Outcome State Fault Refusal :=
  request p tag .read (withoutArgs args fun x => taken (timeData x.tb) x) s

/-- The 40 data bytes of GET_TIME_STATUS (R8). -/
def timeStatusData (p : Port) (tb : Timebase) : List Byte :=
  be 1 tb.state.code ++ flagsByte [tb.ppsSeen.get p] ++ be 4 tb.uncertainty ++ beInt 4 tb.rate ++ beInt 4 tb.cfreq ++
    beInt 4 tb.cslew ++ beInt 4 tb.ctemp ++ timeBytes tb.entry ++ be 2 tb.stepCount ++ timeBytes tb.lastStep

/-- GET_TIME_STATUS (R8). -/
def execGetTimeStatus (p : Port) (tag : Byte) (args : List Byte) (s : State) : Host.Outcome State Fault Refusal :=
  request p tag .read
    (withoutArgs args fun x =>
      taken (timeStatusData p x.tb) (x.onTb fun tb => { tb with ppsSeen := tb.ppsSeen.update p fun _ => false })) s

/-! ### SET_TIME and RESET_TIME (R11 to R13) -/

/-- SET_TIME at the Timebase (R11, R12). -/
def runSetTime (args : List Byte) (s : State) : Answer :=
  if args.length ≠ 12 then refuse .outOfRange s
  else
    match timeOf (fieldAt args 0 8) with
    | none => refuse .outOfRange s
    | some t =>
      if t < s.tb.now then refuse .timeBackward s
      else
        let step := t - s.tb.now
        taken (timeBytes step)
          (settle (changeTimeState .adrift false (setUncertainty (natAt args 8 4) (forwardStep step s))))

/-- SET_TIME (R11, R12). -/
def execSetTime (p : Port) (tag : Byte) (args : List Byte) (s : State) : Host.Outcome State Fault Refusal :=
  request p tag .configure (runSetTime args) s

/-- RESET_TIME at the Timebase (R13). -/
def runResetTime (s : State) : Answer :=
  taken [] (settle (changeTimeState .free false
    (setUncertainty 4294967295 (s.onTb fun tb => { tb with cslew := 0, ctemp := 0 }))))

/-- RESET_TIME (R13). -/
def execResetTime (p : Port) (tag : Byte) (args : List Byte) (s : State) : Host.Outcome State Fault Refusal :=
  request p tag .configure (withoutArgs args runResetTime) s

/-! ### GET_CHANNEL and GET_MARKER (R22, R36) -/

/-- A capture channel in the form of GET_CHANNEL (R36). -/
def captureData (n : Nat) (marker : Bool) (c : Capture) : List Byte :=
  be 1 n ++ be 1 0 ++ flagsByte [c.last.isSome, c.unread, marker] ++ optTimeBytes c.last ++ be 1 c.overwrites

/-- The compare fields of GET_CHANNEL, with whether a duty is pending (R36). -/
def compareData (n kind : Nat) (dutyPending : Bool) (c : Compare) : List Byte :=
  be 1 n ++ be 1 kind ++ be 1 c.mode.code ++ be 4 c.period ++ be 4 c.phase ++
    optTimeBytes (if c.mode = .off then none else some c.next) ++ flagsByte [c.waiting.isSome, dutyPending] ++
    (match c.waiting with
     | none => zeros 8
     | some w => be 4 w.period ++ be 4 w.phase) ++
    be 2 c.skipped

/-- A paired channel in the form of GET_CHANNEL (R36). -/
def pairedData (n : Nat) (c : Paired) : List Byte :=
  compareData n 2 c.pendingDuty.isSome c.cmp ++ be 1 c.duty ++ be 1 (c.pendingDuty.getD 0) ++ boolByte c.output ++
    boolByte c.hold ++ optTimeBytes (if c.cmp.mode = .off then none else c.offMatch)

/-- The data of GET_CHANNEL; none for a number above 7 (R36). -/
def channelData (n : Nat) (c : Ccu) : Option (List Byte) :=
  match n with
  | 0 => some (captureData 0 false c.ch0)
  | 1 => some (captureData 1 false c.ch1)
  | 2 => some (captureData 2 false c.ch2)
  | 3 => some (captureData 3 c.markerPending c.ch3)
  | 4 => some (compareData 4 1 false c.ch4)
  | 5 => some (pairedData 5 c.heaters.hb)
  | 6 => some (pairedData 6 c.heaters.ho)
  | 7 => some (compareData 7 1 false c.ch7)
  | _ => none

/-- An answer that reads a state, or OUT_OF_RANGE where there is nothing to read. -/
def readBack (data : Option (List Byte)) (s : State) : Answer :=
  match data with
  | none => refuse .outOfRange s
  | some d => taken d s

/-- GET_CHANNEL (R36). -/
def execGetChannel (p : Port) (tag : Byte) (args : List Byte) (s : State) : Host.Outcome State Fault Refusal :=
  request p tag .read
    (fun x => readBack (if args.length = 1 then channelData (natOf args) x.ccu else none) x) s

/-- GET_MARKER at channel 3 (R22). -/
def runGetMarker (s : State) : Answer :=
  match s.ccu.ch3.last with
  | none => refuse .notFound s
  | some t =>
    taken (timeBytes t ++ flagsByte [s.ccu.ch3.unread] ++ be 1 s.ccu.ch3.overwrites)
      (s.onCcu fun c => { c with ch3 := c.ch3.read })

/-- GET_MARKER (R22). -/
def execGetMarker (p : Port) (tag : Byte) (args : List Byte) (s : State) : Host.Outcome State Fault Refusal :=
  request p tag .read (withoutArgs args runGetMarker) s

/-! ### GET_DISCIPLINE and SET_DISCIPLINE (R58, R59) -/

/-- The 37 data bytes of GET_DISCIPLINE (R59). -/
def disciplineData (seconds : Nat) (d : Discipline) : List Byte :=
  flagsByte [d.present, d.conflictLatch, d.heldP.isSome, (unexpired seconds d.refresh).isSome,
             (unexpired seconds d.window).isSome] ++
    be 1 d.absence ++ be 1 d.lockRun ++ be 1 d.unlockRun ++ be 1 d.conflicts ++ beInt 4 d.lastP ++
    optTimeBytes (if d.present then some d.expected else none) ++ beInt 4 d.bref ++ be 4 d.validPps ++ be 2 d.invalidPps ++
    be 2 d.missedSeconds ++ be 2 d.goodLabels ++ be 2 d.badChecks ++ be 2 d.noFix ++ be 2 d.unmatched

/-- GET_DISCIPLINE (R59). -/
def execGetDiscipline (p : Port) (tag : Byte) (args : List Byte) (s : State) : Host.Outcome State Fault Refusal :=
  request p tag .read (withoutArgs args fun x => taken (disciplineData x.pace.seconds x.disc) x) s

/-- The settings that SET_DISCIPLINE's arguments spell (R58). -/
def disciplineOf (a : List Byte) : DisciplineCfg :=
  { lossLimit := natAt a 0 1, stepThreshold := natAt a 1 4, slewConstant := natAt a 5 4, freqConstant := natAt a 9 4,
    lockCount := natAt a 13 1, lockWindow := natAt a 14 4, unlockWindow := natAt a 18 4, gbase := natAt a 22 4,
    adriftLimit := natAt a 26 4, refreshLimit := natAt a 30 4, windowLength := natAt a 34 4,
    windowInterval := natAt a 38 4, labelRate := natAt a 42 1 }

/-- The ranges and relations of the discipline settings (the table at the head of chapter 3, R58). -/
def DisciplineCfg.ok (c : DisciplineCfg) : Bool :=
  decide (1 ≤ c.lossLimit ∧ c.lossLimit ≤ 16) && decide (100 ≤ c.stepThreshold ∧ c.stepThreshold ≤ 1000000) &&
    decide (1 ≤ c.slewConstant ∧ c.slewConstant ≤ 64) && decide (16 ≤ c.freqConstant ∧ c.freqConstant ≤ 4096) &&
    decide (2 ≤ c.lockCount ∧ c.lockCount ≤ 255) && decide (1 ≤ c.lockWindow ∧ c.lockWindow ≤ 10000) &&
    decide (c.lockWindow ≤ c.unlockWindow ∧ c.unlockWindow ≤ 100000) && decide (1 ≤ c.gbase ∧ c.gbase ≤ 1000) &&
    decide (1000 ≤ c.adriftLimit ∧ c.adriftLimit ≤ 4000000000) &&
    decide (1000 ≤ c.refreshLimit ∧ c.refreshLimit < c.adriftLimit) &&
    decide (60 ≤ c.windowLength ∧ c.windowLength ≤ 7200 ∧ c.windowLength < c.windowInterval) &&
    decide (600 ≤ c.windowInterval ∧ c.windowInterval ≤ 86400) && decide (c.labelRate ≤ 3)

/-- SET_DISCIPLINE at the unit; a new label rate discards an assembly (R58). -/
def runSetDiscipline (args : List Byte) (s : State) : Answer :=
  if args.length = 43 ∧ (disciplineOf args).ok = true then
    taken [] (settle (s.onDisc fun d =>
      { d with cfg := disciplineOf args, label := if (disciplineOf args).labelRate = d.cfg.labelRate then d.label else [] }))
  else refuse .outOfRange s

/-- SET_DISCIPLINE (R58). -/
def execSetDiscipline (p : Port) (tag : Byte) (args : List Byte) (s : State) : Host.Outcome State Fault Refusal :=
  request p tag .configure (runSetDiscipline args) s

/-! ### READ_TEMP_BINS and LOAD_TEMP_BINS (R55) -/

/-- The bins a run of `n` entries covers, from a pointer on (R55). -/
def binRun (pointer n : Nat) : List Nat := (List.range n).map fun i => (pointer + i) % 16

/-- A bin in its 5-byte form (R55). -/
def binBytes (b : TempBin) : List Byte := beInt 4 b.value ++ be 1 b.count

/-- The pointer a request starts from (R55). -/
def startPointer (restart : Nat) (d : Discipline) : Nat := if restart = 1 then 0 else d.pointer

/-- READ_TEMP_BINS at the table (R55). -/
def runReadTempBins (args : List Byte) (s : State) : Answer :=
  let n := natAt args 1 1
  if args.length = 2 ∧ natAt args 0 1 ≤ 1 ∧ 1 ≤ n ∧ n ≤ 8 then
    let start := startPointer (natAt args 0 1) s.disc
    let after := (start + n) % 16
    taken ((binRun start n).flatMap (fun i => binBytes (s.disc.bins.getD i { value := 0, count := 0 })) ++ be 1 after)
      (s.onDisc fun d => { d with pointer := after })
  else refuse .outOfRange s

/-- READ_TEMP_BINS (R55). -/
def execReadTempBins (p : Port) (tag : Byte) (args : List Byte) (s : State) : Host.Outcome State Fault Refusal :=
  request p tag .read (runReadTempBins args) s

/-- Entry `i` of a LOAD_TEMP_BINS request (R55). -/
def loadedBin (args : List Byte) (i : Nat) : TempBin :=
  { value := intAt args (1 + 5 * i) 4, count := natAt args (5 + 5 * i) 1 }

/-- The form and the ranges of a LOAD_TEMP_BINS request of `n` entries (R55). -/
def loadOk (args : List Byte) (n : Nat) : Bool :=
  decide (args.length = 1 + 5 * n) && decide (1 ≤ n) && decide (n ≤ 8) && decide (natAt args 0 1 ≤ 1) &&
    (List.range n).all fun i =>
      decide (-5000000 ≤ (loadedBin args i).value) && decide ((loadedBin args i).value ≤ 5000000)

/-- LOAD_TEMP_BINS at the table (R55). -/
def runLoadTempBins (args : List Byte) (s : State) : Answer :=
  let n := (args.length - 1) / 5
  if loadOk args n then
    let start := startPointer (natAt args 0 1) s.disc
    let after := (start + n) % 16
    taken (be 1 after)
      (s.onDisc fun d =>
        { d with pointer := after,
                 bins := (List.range n).foldl (fun bins i => bins.set ((start + i) % 16) (loadedBin args i)) d.bins })
  else refuse .outOfRange s

/-- LOAD_TEMP_BINS (R55). -/
def execLoadTempBins (p : Port) (tag : Byte) (args : List Byte) (s : State) : Host.Outcome State Fault Refusal :=
  request p tag .configure (runLoadTempBins args) s

end Sys2Proof.Machine
end

