-- ==== Sys2Proof/Machine/CmdLink.lean ====
section
/-! DEFINITION. The meanings of the port commands of the alert link and of the notice slots (chapters 7 and 8). -/

namespace Sys2Proof.Machine

/-! ### GET_LINK (R126) -/

/-- The pause left in quanta; how a part of a quantum counts is left open (R126; DESIGN CHOICE, safe: notes/assumptions/4.md). -/
def pauseLeft (cycles : Nat) (pause : Option Nat) : Nat :=
  match pause with
  | none => 0
  | some e =>
    let left := e - cycles
    if left % 1000000 = 0 then left / 1000000
    else left / 1000000 + (Config.pausePartCounts left).toNat

/-- Accounting seconds left to an expiry, 0 when none runs. -/
def secondsLeft (seconds : Nat) (expiry : Option Nat) : Nat :=
  match expiry with
  | none => 0
  | some e => e - seconds

/-- The 25 data bytes of GET_LINK (R126). An ack window that waits on a reception stands in bits 4 and 6 until it is decided.
DEDUCED, unsafe: notes/assumptions/55.md. -/
def linkData (p : Port) (s : State) : List Byte :=
  let l := s.link
  be 1 l.state.code ++ be 1 (l.worst.get p).code ++ be 1 l.sendErr ++ be 1 l.recvErr ++ be 2 l.frameErrors ++
    flagsByte [l.pause.isSome, l.quiet.isSome, l.probeDue, l.earlyUsed, l.window.isSome, l.tx != .idle, listening s] ++
    be 2 l.restPeriod ++ be 2 (secondsLeft s.pace.seconds l.restExpiry) ++ be 2 (pauseLeft s.pace.cycles l.pause) ++
    be 2 (secondsLeft s.pace.seconds l.quiet) ++ be 2 l.unaccepted ++ be 2 l.malformed ++ be 2 l.stale ++ be 2 l.disabled ++
    be 2 l.repliesDropped

/-- GET_LINK (R126). -/
def execGetLink (p : Port) (tag : Byte) (args : List Byte) (s : State) : Host.Outcome State Fault Refusal :=
  request p tag .read
    (withoutArgs args fun x =>
      taken (linkData p x) (x.onLink fun l => { l with worst := l.worst.update p fun _ => l.state })) s

/-! ### The link settings (R131) -/

/-- The 15 bytes of SET_LINK (R131). -/
def linkCfgData (c : LinkCfg) : List Byte :=
  be 1 c.rateCode ++ be 2 c.keyLead ++ be 2 c.warmup ++ be 1 c.ackWindow ++ be 2 c.rest ++ be 2 c.listenLength ++
    be 2 c.listenInterval ++ be 2 c.address ++ flagsByte [c.enableStatus, c.enableCeiling, c.enableWake, c.enableQuiet]

/-- The group table as bytes: entry e is bit e mod 8 of byte e / 8 (R131). -/
def groupBytes (g : BitVec 64) : List Byte := (be 8 g.toNat).reverse

/-- GET_LINK_SETTINGS (R131). -/
def execGetLinkSettings (p : Port) (tag : Byte) (args : List Byte) (s : State) : Host.Outcome State Fault Refusal :=
  request p tag .read (withoutArgs args fun x => taken (linkCfgData x.link.cfg ++ groupBytes x.link.groups) x) s

/-- The settings that SET_LINK's arguments spell (R131). -/
def linkCfgOf (a : List Byte) : LinkCfg :=
  let e := natAt a 14 1
  { rateCode := natAt a 0 1, keyLead := natAt a 1 2, warmup := natAt a 3 2, ackWindow := natAt a 5 1, rest := natAt a 6 2,
    listenLength := natAt a 8 2, listenInterval := natAt a 10 2, address := natAt a 12 2, enableStatus := e.testBit 0,
    enableCeiling := e.testBit 1, enableWake := e.testBit 2, enableQuiet := e.testBit 3 }

/-- The ranges and the relation of the link settings (the table at the head of chapter 7, R131). The warm-up is in
tenths of a second. -/
def LinkCfg.ok (c : LinkCfg) : Bool :=
  decide (c.rateCode ≤ 3) && decide (c.keyLead ≤ 500) && decide (c.warmup ≤ 300) &&
    decide (1 ≤ c.ackWindow ∧ c.ackWindow ≤ 60) && decide (60 ≤ c.rest ∧ c.rest ≤ 14400) &&
    decide (1 ≤ c.listenLength ∧ c.listenLength ≤ 600) && decide (30 ≤ c.listenInterval ∧ c.listenInterval ≤ 3600) &&
    decide (c.listenLength * 10 + c.warmup < c.listenInterval * 10)

/-- SET_LINK at the controller (R131, R127). DEDUCED, unsafe: notes/assumptions/17.md. -/
def runSetLink (args : List Byte) (s : State) : Answer :=
  let c := linkCfgOf args
  if args.length = 15 ∧ natAt args 14 1 < 16 ∧ c.ok = true then
    let newRate := c.rateCode ≠ s.link.cfg.rateCode
    let newListen := c.listenLength ≠ s.link.cfg.listenLength ∨ c.listenInterval ≠ s.link.cfg.listenInterval
    let s1 := s.onLink fun l => { l with cfg := c }
    let s2 := if newRate ∧ s1.link.reception.isSome then settleWindow (closeReception s1) else s1
    taken [] (settle (if newListen then listenFired s2 else s2))
  else refuse .outOfRange s

/-- SET_LINK (R131). -/
def execSetLink (p : Port) (tag : Byte) (args : List Byte) (s : State) : Host.Outcome State Fault Refusal :=
  request p tag .configure (runSetLink args) s

/-- SET_GROUPS at the controller (R131). -/
def runSetGroups (args : List Byte) (s : State) : Answer :=
  if args.length = 8 then taken [] (s.onLink fun l => { l with groups := BitVec.ofNat 64 (natOf args.reverse) })
  else refuse .outOfRange s

/-- SET_GROUPS (R131). -/
def execSetGroups (p : Port) (tag : Byte) (args : List Byte) (s : State) : Host.Outcome State Fault Refusal :=
  request p tag .configure (runSetGroups args) s

/-! ### GET_SLOT and GET_NOTICE_TABLE (R152) -/

/-- The 37 data bytes of GET_SLOT (R152). -/
def slotData (n : Nat) (sl : Slot) : List Byte :=
  if sl.state = .empty then be 1 n ++ boolByte false ++ be 1 sl.state.code ++ zeros 34
  else
    be 1 n ++ boolByte sl.responder ++ be 1 sl.state.code ++ be 1 sl.kind.code ++ be 1 sl.cls.code ++ be 1 sl.origin.code ++
      flagsByte [sl.preemptible, sl.abortPending, sl.rebuild, sl.event.isSome] ++ be 4 (sl.event.getD 0) ++ be 2 sl.topic ++
      be 2 sl.mask ++ be 1 sl.tag ++ be 1 sl.segments ++ be 1 sl.nextSegment ++ be 1 sl.attempts ++
      be 1 (sl.payload.getD []).length ++ timeBytes sl.queued ++ timeBytes sl.completed ++ be 1 sl.outcome.code

/-- GET_SLOT (R152). -/
def execGetSlot (p : Port) (tag : Byte) (args : List Byte) (s : State) : Host.Outcome State Fault Refusal :=
  request p tag .read
    (fun x =>
      readBack (if args.length = 1 ∧ natOf args < 12 then some (slotData (natOf args) (slotAt (natOf args) x)) else none) x) s

/-- A stack entry in its 4-byte form, zeros when absent (R152). -/
def stackBytes (e : Option StackEntry) : List Byte :=
  match e with
  | none => zeros 4
  | some x => be 1 x.slot ++ be 1 x.nextSegment ++ be 1 x.cls.code ++ be 1 x.by'

/-- The 36 data bytes of GET_NOTICE_TABLE (R152). -/
def noticeTableData (s : State) : List Byte :=
  let nt := s.nt
  (slotNumbers.flatMap fun n => be 1 (slotAt n s).state.code) ++ be 1 nt.stack.length ++ stackBytes nt.stack[0]? ++
    stackBytes nt.stack[1]? ++ be 1 nt.tagCounter ++ be 2 nt.unqueued ++ be 2 nt.energyHolds ++ be 2 nt.displacements ++
    be 2 nt.mergedPolls ++ be 2 nt.unmatchedPolls ++ be 1 nt.cfg.base ++ be 1 nt.cfg.retryAlarm ++ be 1 nt.cfg.retryUrgent ++
    be 1 nt.cfg.retryRoutine

/-- GET_NOTICE_TABLE (R152). -/
def execGetNoticeTable (p : Port) (tag : Byte) (args : List Byte) (s : State) : Host.Outcome State Fault Refusal :=
  request p tag .read (withoutArgs args fun x => taken (noticeTableData x) x) s

/-! ### QUEUE_NOTICE (R135) -/

/-- The slot a QUEUE_NOTICE takes, or the status that refuses it (R134, R135). -/
def slotForQueue (named : Nat) (cls : NoticeClass) (s : State) : State × (Option Nat) × Status :=
  if named = 255 then
    let (s1, n) := obtainSlot cls s
    (s1, n, .noSlot)
  else if (slotAt named s).state = .empty then (s, some named, .ok)
  else (s, none, .busy)

/-- QUEUE_NOTICE at the table (R135). -/
def runQueueNotice (p : Port) (args : List Byte) (s : State) : Answer :=
  let named := natAt args 0 1
  let flags := natAt args 2 1
  match NoticeClass.ofCode (natAt args 1 1) with
  | none => refuse .outOfRange s
  | some cls =>
    if args.length < 3 ∨ 64 < args.length ∨ (11 < named ∧ named ≠ 255) ∨ 3 < flags then refuse .outOfRange s
    else
      let (s1, got, st) := slotForQueue named cls s
      match got with
      | none => refuse st s
      | some n =>
        let s2 := onSlot n
          (fun _ => { Slot.clear with state := .held, kind := .text, cls := cls, origin := .port p,
                                      preemptible := flags.testBit 0, payload := some (args.drop 3) }) s1
        let s3 := if flags.testBit 1 then s2 else waitWithTag n s2
        taken (be 1 n ++ be 1 (slotAt n s3).tag) (settle s3)

/-- QUEUE_NOTICE (R135). -/
def execQueueNotice (p : Port) (tag : Byte) (args : List Byte) (s : State) : Host.Outcome State Fault Refusal :=
  request p tag .control (runQueueNotice p args) s

/-! ### APPEND_NOTICE and RELEASE_NOTICE (R136) -/

/-- The checks of a command on a HELD slot of the port's own (R136). -/
def heldSlot (p : Port) (n : Nat) (s : State) : Status :=
  let sl := slotAt n s
  if 11 < n then .outOfRange
  else if sl.state = .empty then .notFound
  else if sl.origin ≠ .port p then .denied
  else if sl.state ≠ .held then .busy
  else .ok

/-- APPEND_NOTICE at the table (R136). -/
def runAppendNotice (p : Port) (args : List Byte) (s : State) : Answer :=
  let n := natAt args 0 1
  let payload := ((slotAt n s).payload.getD []) ++ args.drop 1
  if args.length < 2 ∨ 64 < args.length then refuse .outOfRange s
  else if heldSlot p n s ≠ .ok then refuse (heldSlot p n s) s
  else if 128 < payload.length then refuse .outOfRange s
  else taken (be 1 payload.length) (onSlot n (fun sl => { sl with payload := some payload }) s)

/-- APPEND_NOTICE (R136). -/
def execAppendNotice (p : Port) (tag : Byte) (args : List Byte) (s : State) : Host.Outcome State Fault Refusal :=
  request p tag .control (runAppendNotice p args) s

/-- RELEASE_NOTICE at the table (R136). -/
def runReleaseNotice (p : Port) (args : List Byte) (s : State) : Answer :=
  let n := natAt args 0 1
  if args.length ≠ 1 then refuse .outOfRange s
  else if heldSlot p n s ≠ .ok then refuse (heldSlot p n s) s
  else
    let s1 := waitWithTag n s
    taken (be 1 (slotAt n s1).tag) (settle s1)

/-- RELEASE_NOTICE (R136). -/
def execReleaseNotice (p : Port) (tag : Byte) (args : List Byte) (s : State) : Host.Outcome State Fault Refusal :=
  request p tag .control (runReleaseNotice p args) s

/-! ### ABORT_NOTICE and FREE_SLOT (R145, R147) -/

/-- The port may not abort a slot of this origin (R145). -/
def foreignPort (p : Port) (o : NoticeOrigin) : Bool :=
  match o with
  | .port q => q != p
  | .detector => false
  | .power => false
  | .timebase => false
  | .link => false

/-- The ack window that follows a segment of this slot closes without an outcome (R122, R145). -/
def closeWindowOf (n : Nat) (s : State) : State :=
  s.onLink fun l =>
    { l with window := l.window.bind fun w => if w.origin = .segment n then none else some w }

/-- The effect of an abort by the slot's state (R145). -/
def abortEffect (n : Nat) (s : State) : State :=
  match (slotAt n s).state with
  | .held => abortSlot n s
  | .armed => abortSlot n s
  | .waiting => abortSlot n s
  | .backoff => abortSlot n s
  | .preempted => abortSlot n (removeEntryOf n s)
  | .sending => onSlot n (fun sl => { sl with abortPending := true }) s
  | .awaitAck => abortSlot n (closeWindowOf n s)
  | .delivered => s
  | .failed => s
  | .aborted => s
  | .displaced => s
  | .empty => s

/-- ABORT_NOTICE at the table (R145). DEDUCED, unsafe: notes/assumptions/27.md. -/
def runAbortNotice (p : Port) (args : List Byte) (s : State) : Answer :=
  let n := natOf args
  if args.length ≠ 1 ∨ 11 < n then refuse .outOfRange s
  else if (slotAt n s).state = .empty then refuse .notFound s
  else if foreignPort p (slotAt n s).origin then refuse .denied s
  else
    let s1 := abortEffect n s
    taken (be 1 (slotAt n s1).state.code) (settle s1)

/-- ABORT_NOTICE (R145). -/
def execAbortNotice (p : Port) (tag : Byte) (args : List Byte) (s : State) : Host.Outcome State Fault Refusal :=
  request p tag .control (runAbortNotice p args) s

/-- FREE_SLOT at the table (R147). -/
def runFreeSlot (p : Port) (args : List Byte) (s : State) : Answer :=
  let n := natOf args
  let sl := slotAt n s
  if args.length ≠ 1 ∨ 11 < n then refuse .outOfRange s
  else if sl.state = .empty then refuse .notFound s
  else if sl.origin ≠ .port p then refuse .denied s
  else if sl.state = .held ∨ sl.state.final = true then taken [] (settle (emptySlot n s))
  else refuse .busy s

/-- FREE_SLOT (R147). -/
def execFreeSlot (p : Port) (tag : Byte) (args : List Byte) (s : State) : Host.Outcome State Fault Refusal :=
  request p tag .control (runFreeSlot p args) s

/-! ### SET_RESPONDER and SET_NOTICES (R148, R153) -/

/-- The kind a responder's kind byte names, with its payload (R148). -/
def responderKind (args : List Byte) : Option (NoticeKind × Option (List Byte)) :=
  match natAt args 5 1 with
  | 6 => if args.length = 8 then some (.status, none) else none
  | 7 => if 8 ≤ args.length ∧ args.length ≤ 63 then some (.text, some (args.drop 8)) else none
  | _ => none

/-- The slot armed, or armed again with its last outcome kept (R148, R150). -/
def armSlot (p : Port) (kind : NoticeKind) (payload : Option (List Byte)) (cls : NoticeClass) (args : List Byte)
    (sl : Slot) : Slot :=
  { Slot.clear with
    responder := true, state := .armed, kind := kind, cls := cls, origin := .port p, topic := natAt args 1 2,
    mask := natAt args 3 2, preemptible := (natAt args 7 1).testBit 0, payload := payload, queued := sl.queued,
    completed := sl.completed, outcome := sl.outcome }

/-- SET_RESPONDER at the table (R148). The origin is judged before the state. DEDUCED, unsafe: notes/assumptions/42.md. -/
def runSetResponder (p : Port) (args : List Byte) (s : State) : Answer :=
  let n := natAt args 0 1
  let sl := slotAt n s
  match responderKind args, NoticeClass.ofCode (natAt args 6 1) with
  | some (kind, payload), some cls =>
    if 11 < n ∨ 1 < natAt args 7 1 then refuse .outOfRange s
    else if sl.state = .empty then taken [] (settle (onSlot n (armSlot p kind payload cls args) s))
    else if sl.origin ≠ .port p then refuse .denied s
    else if sl.state = .armed then taken [] (settle (onSlot n (armSlot p kind payload cls args) s))
    else refuse .busy s
  | some _, none => refuse .outOfRange s
  | none, _ => refuse .outOfRange s

/-- SET_RESPONDER (R148). -/
def execSetResponder (p : Port) (tag : Byte) (args : List Byte) (s : State) : Host.Outcome State Fault Refusal :=
  request p tag .control (runSetResponder p args) s

/-- The settings that SET_NOTICES' arguments spell (R153). -/
def noticeCfgOf (a : List Byte) : NoticeCfg :=
  { base := natAt a 0 1, retryAlarm := natAt a 1 1, retryUrgent := natAt a 2 1, retryRoutine := natAt a 3 1 }

/-- The ranges of the notice settings (the table at the head of chapter 8). -/
def NoticeCfg.ok (c : NoticeCfg) : Bool :=
  decide (1 ≤ c.base ∧ c.base ≤ 64) && decide (1 ≤ c.retryAlarm ∧ c.retryAlarm ≤ 15) &&
    decide (1 ≤ c.retryUrgent ∧ c.retryUrgent ≤ 15) && decide (1 ≤ c.retryRoutine ∧ c.retryRoutine ≤ 15)

/-- SET_NOTICES at the table (R153). -/
def runSetNotices (args : List Byte) (s : State) : Answer :=
  if args.length = 4 ∧ (noticeCfgOf args).ok = true then
    taken [] (s.onNt fun nt => { nt with cfg := noticeCfgOf args })
  else refuse .outOfRange s

/-- SET_NOTICES (R153). -/
def execSetNotices (p : Port) (tag : Byte) (args : List Byte) (s : State) : Host.Outcome State Fault Refusal :=
  request p tag .configure (runSetNotices args) s

end Sys2Proof.Machine
end

