-- ==== Sys2Proof/Machine/CmdPower.lean ====
section
/-! DEFINITION. The meanings of the port commands of power and heat (chapters 9 and 10). -/

namespace Sys2Proof.Machine

/-! ### GET_POWER and GET_LOAD (R172) -/

/-- The 29 data bytes of GET_POWER (R172). -/
def powerData (pw : Power) : List Byte :=
  be 1 (levelCode pw.level) ++ be 1 pw.ceiling.code ++
    flagsByte [pw.unverified, pw.fullHold, pw.chgEn, pw.coldInhibit, pw.lastGasp.isSome, pw.sourceHeating] ++
    be 2 pw.soc ++ be 4 pw.q ++ be 4 pw.cd ++ beInt 2 pw.vb.value ++ beInt 2 pw.ib.value ++ beInt 2 pw.tb.value ++
    beInt 2 pw.tv.value ++ beInt 2 pw.tosc.value ++ beInt 2 pw.vs.value ++
    flagsByte [pw.vb.faulted, pw.ib.faulted, pw.tb.faulted, pw.tv.faulted, pw.tosc.faulted, pw.vs.faulted] ++
    be 2 pw.dwell ++ flagsByte (allLoads.map fun l => (pw.loads.get l).on)

/-- GET_POWER (R172). -/
def execGetPower (p : Port) (tag : Byte) (args : List Byte) (s : State) : Host.Outcome State Fault Refusal :=
  request p tag .read (withoutArgs args fun x => taken (powerData x.pw) x) s

/-- Accounting seconds left to an entry's expiry, 0 when absent or without expiry (R172). -/
def askLeft (seconds : Nat) (a : Ask) : Nat :=
  match a with
  | .absent => 0
  | .standing => 0
  | .until e => e - seconds

/-- The 23 data bytes of GET_LOAD (R172). Bit 2 of the state byte is 0 for every load but RADIO.
DEDUCED, unsafe: notes/assumptions/43.md. -/
def loadData (l : Load) (s : State) : List Byte :=
  let x := s.pw.loads.get l
  be 1 (Load.code l) ++ flagsByte [x.on, allowedLoad l s, l == .radio && s.pw.linkAlarm] ++
    flagsByte (allRequesters.map fun r => x.asks.get r != .absent) ++ be 2 x.minOff ++ be 2 x.onCount ++
    allRequesters.flatMap fun r => be 2 (askLeft s.pace.seconds (x.asks.get r))

/-- GET_LOAD (R172). -/
def execGetLoad (p : Port) (tag : Byte) (args : List Byte) (s : State) : Host.Outcome State Fault Refusal :=
  request p tag .read
    (fun x => readBack (if args.length = 1 then (Load.ofCode (natOf args)).map fun l => loadData l x else none) x) s

/-! ### SET_CEILING (R163) -/

/-- SET_CEILING at the Power Controller (R163). -/
def runSetCeiling (args : List Byte) (s : State) : Answer :=
  match (if args.length = 1 then Level.ofCeilingCode (natOf args) else none) with
  | none => refuse .outOfRange s
  | some l => taken [] (settle (setCeilingTo l s))

/-- SET_CEILING (R163). -/
def execSetCeiling (p : Port) (tag : Byte) (args : List Byte) (s : State) : Host.Outcome State Fault Refusal :=
  request p tag .control (runSetCeiling args) s

/-! ### REQUEST_LOAD and RELEASE_LOAD (R169) -/

/-- The load's state byte after a request (R169). -/
def loadStateByte (l : Load) (s : State) : List Byte := flagsByte [(s.pw.loads.get l).on, allowedLoad l s]

/-- A port's entry on a load written, and the load's state answered (R169). -/
def writePortAsk (p : Port) (l : Load) (a : Ask) (s : State) : Answer :=
  let s1 := settle (setAsk l (Port.requester p) a s)
  taken (loadStateByte l s1) s1

/-- REQUEST_LOAD at the Power Controller (R169). -/
def runRequestLoad (p : Port) (args : List Byte) (s : State) : Answer :=
  let n := natAt args 1 2
  match (if args.length = 3 then Load.ofCode (natAt args 0 1) else none) with
  | none => refuse .outOfRange s
  | some l => writePortAsk p l (if n = 0 then .standing else askFor n s) s

/-- REQUEST_LOAD (R169). -/
def execRequestLoad (p : Port) (tag : Byte) (args : List Byte) (s : State) : Host.Outcome State Fault Refusal :=
  request p tag .control (runRequestLoad p args) s

/-- RELEASE_LOAD at the Power Controller (R169). -/
def runReleaseLoad (p : Port) (args : List Byte) (s : State) : Answer :=
  match (if args.length = 1 then Load.ofCode (natOf args) else none) with
  | none => refuse .outOfRange s
  | some l => writePortAsk p l .absent s

/-- RELEASE_LOAD (R169). -/
def execReleaseLoad (p : Port) (tag : Byte) (args : List Byte) (s : State) : Host.Outcome State Fault Refusal :=
  request p tag .control (runReleaseLoad p args) s

/-! ### SET_POWER (R173) -/

/-- The settings that SET_POWER's arguments spell (R173). -/
def powerCfgOf (a : List Byte) : PowerCfg :=
  { cap := natAt a 0 2, accept := natAt a 2 2, startSoc := natAt a 4 2, vfull := natAt a 6 2, itaper := natAt a 8 2,
    vempty := natAt a 10 2, vcrit := natAt a 12 2, vcutoff := natAt a 14 2, vrestart := natAt a 16 2,
    sourcePresent := natAt a 18 2, chargeMin := intAt a 20 2, chargeMax := intAt a 22 2, minDwell := natAt a 24 2,
    eventWake := natAt a 26 2, minOff := natAt a 28 2, urgentFloor := natAt a 30 2, routineFloor := natAt a 32 2,
    standing := BitVec.ofNat 8 (natAt a 34 1) }

/-- The ranges of the power settings (R173). -/
def PowerCfg.inRange (c : PowerCfg) : Bool :=
  decide (1 ≤ c.cap ∧ c.cap ≤ 65535) && decide (200 ≤ c.accept ∧ c.accept ≤ 256) && decide (c.startSoc ≤ 1000) &&
    decide (12000 ≤ c.vfull ∧ c.vfull ≤ 16000) && decide (c.itaper ≤ 5000) &&
    decide (9000 ≤ c.vempty ∧ c.vempty ≤ 12500) && decide (9500 ≤ c.vcrit ∧ c.vcrit ≤ 13000) &&
    decide (9000 ≤ c.vcutoff ∧ c.vcutoff ≤ 12500) && decide (10000 ≤ c.vrestart ∧ c.vrestart ≤ 14000) &&
    decide (5000 ≤ c.sourcePresent ∧ c.sourcePresent ≤ 40000) && decide (-400 ≤ c.chargeMin ∧ c.chargeMin ≤ 600) &&
    decide (-400 ≤ c.chargeMax ∧ c.chargeMax ≤ 600) && decide (c.minDwell ≤ 3600) &&
    decide (60 ≤ c.eventWake ∧ c.eventWake ≤ 3600) && decide (c.minOff ≤ 600) && decide (c.urgentFloor ≤ 1000) &&
    decide (c.routineFloor ≤ 1000)

/-- The relations among the power settings (R173). -/
def PowerCfg.related (c : PowerCfg) : Bool :=
  decide (c.vcutoff < c.vcrit) && decide (c.vcrit < c.vrestart) && decide (c.vempty < c.vfull) &&
    decide (c.chargeMin < c.chargeMax) && decide (c.urgentFloor ≤ c.routineFloor) && c.standing.getLsbD 0 &&
    !c.standing.getLsbD 6 && !c.standing.getLsbD 7

/-- The Power Controller under new settings: Cap, the standing loads and the floors act at once, the rest from the next
accounting second; a change of Cap sets Q from the start SoC and sets UNVERIFIED (R157, R171, R173).
DEDUCED, unsafe: notes/assumptions/22.md. -/
def Power.withCfg (c : PowerCfg) (pw : Power) : Power :=
  let pw1 := { pw with
    cfg := c
    act := { pw.act with cap := c.cap, standing := c.standing, urgentFloor := c.urgentFloor,
                         routineFloor := c.routineFloor } }
  if c.cap = pw.cfg.cap then pw1 else { pw1 with q := c.startSoc * qmax c.cap / 1000, unverified := true }

/-- SET_POWER at the Power Controller (R157, R169, R173). Before the first level STATION stays on SENSOR only (R174). -/
def runSetPower (args : List Byte) (s : State) : Answer :=
  let c := powerCfgOf args
  if args.length = 35 ∧ c.inRange = true ∧ c.related = true then
    let s1 := s.onPw (Power.withCfg c)
    taken [] (settle (if s.pw.level.isSome then formStanding s1 else s1))
  else refuse .outOfRange s

/-- SET_POWER (R173). -/
def execSetPower (p : Port) (tag : Byte) (args : List Byte) (s : State) : Host.Outcome State Fault Refusal :=
  request p tag .configure (runSetPower args) s

/-! ### The heater commands (R183 to R185) -/

/-- Whole seconds elapsed in DEFERRING, 0 in the other states (R185). -/
def deferralSeconds (cycles : Nat) (d : Deferral) : Nat :=
  match d with
  | .deferring since => (cycles - since) / perSecond
  | .none => 0
  | .holding => 0
  | .released => 0

/-- The sensor of a heater is FAULTED: TB for HB, TO for HO (R185). -/
def sensorFaulted (h : Heater) (s : State) : Bool :=
  match h with
  | .hb => s.pw.tb.faulted
  | .ho => s.pw.tosc.faulted

/-- The 25 data bytes of GET_HEATER (R185). -/
def heaterData (h : Heater) (s : State) : List Byte :=
  let u := thermostatOf h s
  let c := pairedOf h s
  be 1 (Heater.code h) ++ beInt 2 u.cfg.setpoint ++ be 1 u.cfg.band ++ be 1 u.cfg.limit ++ be 1 u.cap ++ be 1 u.computed ++
    be 1 c.duty ++ be 1 (c.pendingDuty.getD 255) ++ boolByte c.output ++ be 1 u.deferral.code ++
    be 1 (min 255 (deferralSeconds s.pace.cycles u.deferral)) ++
    flagsByte [s.ht.sourceHeating, s.ht.overTemp, sensorFaulted h s, s.ht.quiet] ++ be 4 u.edges ++ optTimeBytes u.lastEdge

/-- GET_HEATER (R185). -/
def execGetHeater (p : Port) (tag : Byte) (args : List Byte) (s : State) : Host.Outcome State Fault Refusal :=
  request p tag .read
    (fun x => readBack (if args.length = 1 then (Heater.ofCode (natOf args)).map fun h => heaterData h x else none) x) s

/-- The five caps of a heater, FULL first (R184). -/
def capsData (c : PerLevel Nat) : List Byte :=
  be 1 c.full ++ be 1 c.reduced ++ be 1 c.survival ++ be 1 c.critical ++ be 1 c.dormant

/-- The 13 bytes of the heater limits (R184). -/
def limitsData (l : HeaterLimits) : List Byte :=
  capsData l.caps.hb ++ capsData l.caps.ho ++ be 1 l.sourceCap ++ beInt 2 l.vaultHigh

/-- GET_HEATER_LIMITS (R184). -/
def execGetHeaterLimits (p : Port) (tag : Byte) (args : List Byte) (s : State) : Host.Outcome State Fault Refusal :=
  request p tag .read (withoutArgs args fun x => taken (limitsData x.ht.limits) x) s

/-- A new deferral limit at a heater in DEFERRING: one that the elapsed time has reached runs out at once (R181). -/
def applyLimit (h : Heater) (s : State) : State :=
  match (thermostatOf h s).deferral with
  | .deferring since =>
    if since + (thermostatOf h s).cfg.limit * perSecond ≤ s.pace.cycles then releaseAtLimit h s else s
  | .none => s
  | .holding => s
  | .released => s

/-- SET_HEATER at the Heater Controller (R183). -/
def runSetHeater (args : List Byte) (s : State) : Answer :=
  let band := natAt args 3 1
  let limit := natAt args 4 1
  match (if args.length = 5 ∧ 5 ≤ band ∧ band ≤ 100 ∧ limit ≤ 120 then Heater.ofCode (natAt args 0 1) else none) with
  | none => refuse .outOfRange s
  | some h =>
    let setpoint := clampAbs 400 (intAt args 1 2)
    taken (beInt 2 setpoint)
      (applyLimit h (onThermostat h (fun u => { u with cfg := { setpoint := setpoint, band := band, limit := limit } }) s))

/-- SET_HEATER (R183). -/
def execSetHeater (p : Port) (tag : Byte) (args : List Byte) (s : State) : Host.Outcome State Fault Refusal :=
  request p tag .configure (runSetHeater args) s

/-- Five caps read from a request (R184). -/
def capsOf (a : List Byte) (off : Nat) : PerLevel Nat :=
  { full := natAt a off 1, reduced := natAt a (off + 1) 1, survival := natAt a (off + 2) 1, critical := natAt a (off + 3) 1,
    dormant := natAt a (off + 4) 1 }

/-- The heater limits that SET_HEATER_LIMITS' arguments spell (R184). -/
def limitsOf (a : List Byte) : HeaterLimits :=
  { caps := ⟨capsOf a 0, capsOf a 5⟩, sourceCap := natAt a 10 1, vaultHigh := intAt a 11 2 }

/-- Caps from 0 to 64, none above the cap of the level above (R184). -/
def capsOk (c : PerLevel Nat) : Bool :=
  decide (c.full ≤ 64) && decide (c.reduced ≤ c.full) && decide (c.survival ≤ c.reduced) &&
    decide (c.critical ≤ c.survival) && decide (c.dormant ≤ c.critical)

/-- The ranges of the heater limits (R184). -/
def HeaterLimits.ok (l : HeaterLimits) : Bool :=
  capsOk l.caps.hb && capsOk l.caps.ho && decide (l.sourceCap ≤ 64) && decide (100 ≤ l.vaultHigh ∧ l.vaultHigh ≤ 600)

/-- SET_HEATER_LIMITS at the Heater Controller (R177, R184). -/
def runSetHeaterLimits (args : List Byte) (s : State) : Answer :=
  if args.length = 13 ∧ (limitsOf args).ok = true then
    taken [] (formCaps (s.onHt fun u => { u with limits := limitsOf args }))
  else refuse .outOfRange s

/-- SET_HEATER_LIMITS (R184). -/
def execSetHeaterLimits (p : Port) (tag : Byte) (args : List Byte) (s : State) : Host.Outcome State Fault Refusal :=
  request p tag .configure (runSetHeaterLimits args) s

end Sys2Proof.Machine
end

