-- ==== Sys2Proof/Machine/CmdSamples.lean ====
section
/-! DEFINITION. The meanings of the port commands of acquisition, detection and the event table (chapters 4 to 6). -/

namespace Sys2Proof.Machine

/-! ### DRAIN_SAMPLES (R68) -/

/-- The six samples of a frame, zeros when it is MISSING (R68). -/
def sampleBytes (x : Option Samples) : List Byte :=
  match x with
  | none => zeros 18
  | some v => be 3 v.s1.toNat ++ be 3 v.s2.toNat ++ be 3 v.s3.toNat ++ be 3 v.s4.toNat ++ be 3 v.s5.toNat ++ be 3 v.s6.toNat

/-- A frame in its 31-byte form (R68). -/
def frameBytes (f : Frame) : List Byte := be 4 f.seq ++ timeBytes f.timestamp ++ f.flags ++ sampleBytes f.samples

/-- The cursor after some frames have been returned (R68). -/
def cursorAfter (cursor : Nat) (frames : List Frame) : Nat :=
  match frames.getLast? with
  | none => cursor
  | some f => rollInc seqSpan f.seq

/-- DRAIN_SAMPLES at the unit (R68, R72). -/
def runDrainSamples (args : List Byte) (s : State) : Answer :=
  if args.length = 1 ∧ 1 ≤ natOf args ∧ natOf args ≤ 8 then
    let frames := drainFrames (natOf args) s
    taken (be 4 s.acq.overrun ++ frames.flatMap frameBytes)
      (releaseHolds (s.onAcq fun a => { a with cursor := cursorAfter a.cursor frames, overrun := 0 }))
  else refuse .outOfRange s

/-- DRAIN_SAMPLES (R68). -/
def execDrainSamples (p : Port) (tag : Byte) (args : List Byte) (s : State) : Host.Outcome State Fault Refusal :=
  request p tag .drain (runDrainSamples args) s

/-! ### GET_RING and SET_ACQUISITION (R69, R75) -/

/-- The code of the frame in flight (R69). -/
def inFlightCode (f : Option InFlight) : Nat :=
  match f with
  | none => 0
  | some x => if x.reading then 2 else 1

/-- The pending-rate code, 255 when no rate change is pending (R69). -/
def pendingRateCode (c : Compare) : Nat :=
  match c.waiting with
  | none => 255
  | some w =>
    match SampleRate.ofPeriod w.period with
    | none => 255
    | some r => r.code

/-- The lowest mark among the hold entries (R69). -/
def lowestMark (holds : List HoldEntry) : Nat :=
  match holds with
  | [] => 0
  | e :: rest => rest.foldl (fun m x => if seqAfter m x.mark then x.mark else m) e.mark

/-- The sequence of a frame, 0 when there is none (R69). -/
def seqOrZero (f : Option Frame) : Nat :=
  match f with
  | none => 0
  | some x => x.seq

/-- The 39 data bytes of GET_RING (R69). The rate sent is the recorded one, also while its change is pending.
DEDUCED, unsafe: notes/assumptions/49.md. -/
def ringData (ch4 : Compare) (a : Acquisition) : List Byte :=
  be 1 a.state.code ++ be 1 (inFlightCode a.inFlight) ++ be 1 a.cfg.rate.code ++ be 1 (pendingRateCode ch4) ++
    be 2 a.ring.length ++ be 4 (seqOrZero a.ring.head?) ++ be 4 (seqOrZero a.ring.getLast?) ++ be 4 a.nextSeq ++
    be 4 a.cursor ++ be 4 a.overrun ++ be 1 a.holds.length ++ be 4 (lowestMark a.holds) ++ be 4 a.missing ++
    be 2 a.stray ++ be 2 a.aborted

/-- GET_RING (R69). -/
def execGetRing (p : Port) (tag : Byte) (args : List Byte) (s : State) : Host.Outcome State Fault Refusal :=
  request p tag .read (withoutArgs args fun x => taken (ringData x.ccu.ch4 x.acq) x) s

/-- SET_ACQUISITION at the unit (R75). -/
def runSetAcquisition (args : List Byte) (s : State) : Answer :=
  if args.length = 3 ∧ natAt args 0 2 ≤ 600 ∧ natAt args 2 1 ≤ 30 then
    taken [] (s.onAcq fun a => { a with cfg := { a.cfg with settleTime := natAt args 0 2, preEvent := natAt args 2 1 } })
  else refuse .outOfRange s

/-- SET_ACQUISITION (R75). -/
def execSetAcquisition (p : Port) (tag : Byte) (args : List Byte) (s : State) : Host.Outcome State Fault Refusal :=
  request p tag .configure (runSetAcquisition args) s

/-! ### GET_DETECTOR and GET_DETECTOR_CHANNEL (R98) -/

/-- The 16-byte form of the Detector's settings (R97). -/
def detectorCfgData (rate : SampleRate) (c : DetectorCfg) : List Byte :=
  be 1 rate.code ++ be 1 c.holdoffTime ++ be 2 c.maxDuration ++ be 1 c.guard ++ be 1 c.window ++ be 1 c.threshold ++
    be 4 c.t2 ++ be 4 c.t3 ++ be 1 c.priority.code

/-- The episode's part of GET_DETECTOR: zeros when the episode is none; the vote sum is that of the last frame worked
(R87, R98). DEDUCED, unsafe: notes/assumptions/38.md. -/
def episodeData (d : Detector) : List Byte :=
  let counts := be 1 d.cls ++ be 1 d.vote ++ be 1 d.votePeak ++ be 1 (min 255 d.gapRun)
  match d.episode with
  | .none => be 1 0 ++ zeros 4 ++ zeros 4
  | .opened seq => be 1 1 ++ be 4 seq ++ counts
  | .lost => be 1 2 ++ zeros 4 ++ counts

/-- The 50 data bytes of GET_DETECTOR (R98). -/
def detectorData (rate : SampleRate) (d : Detector) : List Byte :=
  detectorCfgData rate d.cfg ++ episodeData d ++ optTimeBytes d.lastEdge ++ boolByte d.quiet ++
    (d.channels.toList.flatMap fun c => be 1 c.state.code) ++ be 4 d.triggers ++ be 4 d.suspects ++ be 2 d.gapActions

/-- GET_DETECTOR (R98). -/
def execGetDetector (p : Port) (tag : Byte) (args : List Byte) (s : State) : Host.Outcome State Fault Refusal :=
  request p tag .read (withoutArgs args fun x => taken (detectorData x.acq.cfg.rate x.det) x) s

/-- The 10 parameter bytes of SET_DETECTOR_CHANNEL (R77). -/
def channelCfgData (c : ChannelCfg) : List Byte :=
  boolByte c.enabled ++ be 1 c.weight ++ be 1 c.h ++ be 1 c.ks ++ be 1 c.kl ++ be 1 c.rt ++ be 1 c.rd ++ be 2 c.lmin ++
    boolByte c.critical

/-- The trigger fields of a channel, zeros until its first trigger (R98). -/
def triggerData (t : Option (Time × Nat)) : List Byte :=
  match t with
  | none => zeros 12
  | some (time, frame) => timeBytes time ++ be 4 frame

/-- The 47 data bytes of GET_DETECTOR_CHANNEL (R98). -/
def detectorChannelData (ch : Nat) (c : ChannelCfg) (x : Channel) : List Byte :=
  be 1 ch ++ channelCfgData c ++ be 1 x.state.code ++ boolByte x.suspect ++ beInt 4 x.m ++ beInt 4 x.sta ++ beInt 4 x.lta ++
    be 2 x.warm ++ triggerData x.trigger ++ be 4 x.peakD ++ be 2 x.peakRatio ++ be 2 x.holdoff

/-- GET_DETECTOR_CHANNEL at the Detector (R98). -/
def runGetDetectorChannel (args : List Byte) (s : State) : Answer :=
  let ch := natOf args
  if args.length = 1 ∧ 1 ≤ ch ∧ ch ≤ 6 then
    taken (detectorChannelData ch (s.det.params.get ch) (s.det.channels.get ch)) s
  else refuse .outOfRange s

/-- GET_DETECTOR_CHANNEL (R98). -/
def execGetDetectorChannel (p : Port) (tag : Byte) (args : List Byte) (s : State) : Host.Outcome State Fault Refusal :=
  request p tag .read (runGetDetectorChannel args) s

/-! ### SET_DETECTOR (R97, R74) -/

/-- The settings that SET_DETECTOR's arguments spell; none when one is outside its range (R97). -/
def detectorCfgOf (a : List Byte) : Option (SampleRate × DetectorCfg) :=
  match SampleRate.ofCode (natAt a 0 1), NoticeClass.ofCode (natAt a 15 1) with
  | some rate, some priority =>
    let c : DetectorCfg :=
      { holdoffTime := natAt a 1 1, maxDuration := natAt a 2 2, guard := natAt a 4 1, window := natAt a 5 1,
        threshold := natAt a 6 1, t2 := natAt a 7 4, t3 := natAt a 11 4, priority := priority }
    if a.length = 16 ∧ 1 ≤ c.holdoffTime ∧ c.holdoffTime ≤ 30 ∧ 5 ≤ c.maxDuration ∧ c.maxDuration ≤ 600 ∧ c.guard ≤ 100 ∧
        1 ≤ c.window ∧ c.window ≤ 100 ∧ 1 ≤ c.threshold ∧ c.threshold ≤ 18 ∧ 1 ≤ c.t2 ∧ c.t2 ≤ 8388606 ∧ c.t2 < c.t3 ∧
        c.t3 ≤ 8388607 then some (rate, c)
    else none
  | some _, none => none
  | none, _ => none

/-- A change of sample rate: channel 4 loads the new period at the next whole second when RUNNING, and the Detector
starts over (R74, R97). -/
def changeRate (rate : SampleRate) (s : State) : State :=
  let s1 := s.onAcq fun a => { a with cfg := { a.cfg with rate := rate } }
  let s2 :=
    if s.acq.state = .running then
      s1.onCcu fun c => { c with ch4 := c.ch4.load rate.period 0 (some (nextSecond s.tb.now)) }
    else s1
  detectorRateChange s2

/-- SET_DETECTOR at the Detector (R97). -/
def runSetDetector (args : List Byte) (s : State) : Answer :=
  match detectorCfgOf args with
  | none => refuse .outOfRange s
  | some (rate, c) =>
    let s1 := s.onDet fun d => { d with cfg := c }
    taken [] (settle (if rate = s.acq.cfg.rate then s1 else changeRate rate s1))

/-- SET_DETECTOR (R97). -/
def execSetDetector (p : Port) (tag : Byte) (args : List Byte) (s : State) : Host.Outcome State Fault Refusal :=
  request p tag .configure (runSetDetector args) s

/-! ### SET_DETECTOR_CHANNEL (R77) -/

/-- The parameters that SET_DETECTOR_CHANNEL's arguments spell (R77). -/
def channelCfgOf (a : List Byte) : ChannelCfg :=
  { enabled := natAt a 1 1 == 1, weight := natAt a 2 1, h := natAt a 3 1, ks := natAt a 4 1, kl := natAt a 5 1,
    rt := natAt a 6 1, rd := natAt a 7 1, lmin := natAt a 8 2, critical := natAt a 10 1 == 1 }

/-- The length, the ranges and the relations of a SET_DETECTOR_CHANNEL request (R77, section 5.1). -/
def channelArgsOk (a : List Byte) : Bool :=
  let c := channelCfgOf a
  decide (a.length = 11) && decide (1 ≤ natAt a 0 1 ∧ natAt a 0 1 ≤ 6) && decide (natAt a 1 1 ≤ 1) &&
    decide (c.weight ≤ 3) && decide (4 ≤ c.h ∧ c.h ≤ 12) && decide (1 ≤ c.ks ∧ c.ks ≤ 8) && decide (6 ≤ c.kl ∧ c.kl ≤ 14) &&
    decide (c.ks + 3 ≤ c.kl) && decide (20 ≤ c.rt) && decide (16 ≤ c.rd ∧ c.rd < c.rt) && decide (natAt a 10 1 ≤ 1)

/-- A channel's state after new parameters: WARMUP begins with the count at 0, and a channel that is OFF holds its
counters (R77, R78). -/
def Channel.reconfigured (st : ChannelState) (c : Channel) : Channel :=
  if st = .warmup then c.restart .warmup else { c with state := st }

/-- A channel with new parameters: it detriggers and takes its new state (R77). -/
def reconfigure (ch : Nat) (c : ChannelCfg) (level : Option Level) (d : Detector) : Detector :=
  let d1 := endTrigger ch .reconfigured d
  { d1 with params := d1.params.update ch fun _ => c,
            channels := d1.channels.update ch fun x => x.reconfigured (workingState c level) }

/-- SET_DETECTOR_CHANNEL at the Detector (R77). -/
def runSetDetectorChannel (args : List Byte) (s : State) : Answer :=
  if channelArgsOk args then
    taken [] (settle (afterChannelChange
      (s.onDet (reconfigure (natAt args 0 1) (channelCfgOf args) s.pw.level))))
  else refuse .outOfRange s

/-- SET_DETECTOR_CHANNEL (R77). -/
def execSetDetectorChannel (p : Port) (tag : Byte) (args : List Byte) (s : State) : Host.Outcome State Fault Refusal :=
  request p tag .configure (runSetDetectorChannel args) s

/-! ### The event table (R110 to R113) -/

/-- A record put into a list by its sequence. -/
def insertRecord (r : Record) : List Record → List Record
  | [] => [r]
  | q :: rest => if r.seq < q.seq then r :: q :: rest else q :: insertRecord r rest

/-- The records above a cursor in ascending sequence, up to 16 (R111). -/
def listedRecords (cursor : Nat) (rs : List Record) : List Record :=
  (((rs.filter fun r => cursor < r.seq).foldl (fun acc r => insertRecord r acc) []).take 16)

/-- The data of LIST_EVENTS (R111). -/
def listData (p : Port) (s : State) : List Byte :=
  let rs := listedRecords (s.ev.cursors.get p) s.ev.records
  be 4 (s.ev.cursors.get p) ++ be 4 s.ev.lost ++ be 1 s.ev.lostPending ++ be 4 (lastConsumed s) ++ be 1 rs.length ++
    rs.flatMap fun r => be 4 r.seq ++ boolByte r.closed ++ be 1 r.revision

/-- LIST_EVENTS (R111). -/
def execListEvents (p : Port) (tag : Byte) (args : List Byte) (s : State) : Host.Outcome State Fault Refusal :=
  request p tag .read (withoutArgs args fun x => taken (listData p x) x) s

/-- A participant's 11-byte entry (section 6.7). -/
def participantBytes (x : Participant) : List Byte :=
  be 1 x.channel ++ be 2 x.offset ++ be 4 x.peakD ++ be 2 x.peakRatio ++ be 1 (reasonCode x.reason) ++ boolByte x.suspect

/-- A record in its transfer layout (section 6.7). -/
def recordBytes (r : Record) : List Byte :=
  be 4 r.seq ++ boolByte r.closed ++ be 1 r.revision ++ timeBytes r.onset ++ timeBytes r.declared ++
    optTimeBytes r.close ++ be 1 r.timeState.code ++ be 4 r.uncertainty ++ be 1 r.cls ++ be 1 r.votePeak ++ r.flags ++
    be 4 (r.onsetFrame.getD 0) ++ be 1 r.lostBefore ++ be 1 r.declaredOutcome.code ++ be 1 r.updateOutcome.code ++
    be 1 r.summaryOutcome.code ++ be 1 r.pins ++ be 1 r.participants.length ++ r.participants.flatMap participantBytes

/-- GET_EVENT at the table (R112). -/
def runGetEvent (args : List Byte) (s : State) : Answer :=
  if args.length = 4 then
    match recordOf (natOf args) s with
    | none => refuse .notFound s
    | some r => taken (recordBytes r) s
  else refuse .outOfRange s

/-- GET_EVENT (R112). -/
def execGetEvent (p : Port) (tag : Byte) (args : List Byte) (s : State) : Host.Outcome State Fault Refusal :=
  request p tag .read (runGetEvent args) s

/-- ACK_EVENTS at a port's cursor (R110). -/
def runAckEvents (p : Port) (args : List Byte) (s : State) : Answer :=
  if args.length = 4 then
    let new := max (s.ev.cursors.get p) (min (natOf args) (ackLimit s))
    taken (be 4 new) (s.onEv fun ev => { ev with cursors := ev.cursors.update p fun _ => new })
  else refuse .outOfRange s

/-- ACK_EVENTS (R110). -/
def execAckEvents (p : Port) (tag : Byte) (args : List Byte) (s : State) : Host.Outcome State Fault Refusal :=
  request p tag .read (runAckEvents p args) s

/-- GET_EVENT_TABLE (R113). -/
def execGetEventTable (p : Port) (tag : Byte) (args : List Byte) (s : State) : Host.Outcome State Fault Refusal :=
  request p tag .read (withoutArgs args fun x => taken (boolByte x.ev.unreadProtection) x) s

/-- SET_EVENT_TABLE at the table (R113). -/
def runSetEventTable (args : List Byte) (s : State) : Answer :=
  if args.length = 1 ∧ natOf args ≤ 1 then
    taken [] (s.onEv fun ev => { ev with unreadProtection := natOf args == 1 })
  else refuse .outOfRange s

/-- SET_EVENT_TABLE (R113). -/
def execSetEventTable (p : Port) (tag : Byte) (args : List Byte) (s : State) : Host.Outcome State Fault Refusal :=
  request p tag .configure (runSetEventTable args) s

end Sys2Proof.Machine
end

