-- ==== Sys2Proof/Machine/DisciplineEvents.lean ====
section
/-! DEFINITION. The meanings of the events of the Discipline Unit (chapter 3). -/

namespace Sys2Proof.Machine

/-- An accounting second stands to be worked by the Discipline Unit. -/
def disciplineDue (s : State) : Bool := decide ((s.pace.disciplineSeconds + 1) * perSecond ≤ s.pace.cycles)

/-- DISCIPLINE_SECOND (R39, R51, R52, R56, R57). -/
def execDisciplineSecond (s : State) : Host.Outcome State Fault Refusal :=
  takeEvent disciplineDue (fun x => settle (disciplineSecondWork x)) s

/-- A window interval has passed since the last refresh request with the uncertainty still above the limit (R57). -/
def refreshDue (s : State) : Bool :=
  s.disc.aboveRefresh && decide (s.disc.cfg.refreshLimit < s.tb.uncertainty) &&
    decide (s.disc.cfg.windowInterval ≤ s.disc.sinceRefresh)

/-- REFRESH_REPEAT (R57). -/
def execRefreshRepeat (s : State) : Host.Outcome State Fault Refusal :=
  takeEvent refreshDue (fun x => settle (refreshRequest x)) s

/-- GNSS_WINDOW_OPEN (R56). -/
def execGnssWindowOpen (s : State) : Host.Outcome State Fault Refusal :=
  takeEvent (fun x => x.disc.windowDue) (fun x => settle (openGnssWindow x)) s

/-- PPS_CAPTURE (R18, R20, R38). -/
def execPpsCapture (s : State) : Host.Outcome State Fault Refusal :=
  takeEvent (fun _ => true)
    (fun x =>
      settle (qualifyPps x.tb.now (x.onCcu fun c => { c with ch0 := (c.ch0.edge x.tb.now).read }))) s

/-- Station time has passed the window of the expected PPS (R39). -/
def missedDue (s : State) : Bool := s.disc.present && decide (s.disc.expected + 500000 < s.tb.now)

/-- MISSED_SECOND (R39). -/
def execMissedSecond (s : State) : Host.Outcome State Fault Refusal := takeEvent missedDue missSecond s

/-- PPS_LOSS (R39, R48). -/
def execPpsLoss (s : State) : Host.Outcome State Fault Refusal :=
  takeEvent (fun x => x.disc.present && x.disc.lossDue) (fun x => settle (becomeAbsent x)) s

/-- LABEL_RECEIVED (R40): the eighth byte of a label of which seven are held. -/
def execLabelReceived (eighth : Byte) (s : State) : Host.Outcome State Fault Refusal :=
  takeEvent (fun x => x.disc.label.length == 7) (fun x => settle (labelByte eighth x)) s

/-- LABEL_BYTE_RECEIVED (R40). -/
def execLabelByteReceived (b : Byte) (s : State) : Host.Outcome State Fault Refusal :=
  takeEvent (fun _ => true) (fun x => settle (labelByte b x)) s

end Sys2Proof.Machine
end

