-- ==== Sys2Proof/Machine/LinkEvents.lean ====
section
/-! DEFINITION. The meanings of the events of the alert link and of the notice slots (chapters 7 and 8). -/

namespace Sys2Proof.Machine

/-! ### The line and the transmitter -/

/-- RADIO has been ON for the warm-up time. -/
def warmDue (s : State) : Bool := s.pw.loads.radio.on && !s.link.warm && decide (s.link.warmAt ≤ s.pace.cycles)

/-- RADIO_WARM (R115). -/
def execRadioWarm (s : State) : Host.Outcome State Fault Refusal :=
  takeEvent warmDue (fun x => settle (x.onLink fun l => { l with warm := true })) s

/-- TRANSMIT_OPPORTUNITY (R116, R139). -/
def execTransmitOpportunity (s : State) : Host.Outcome State Fault Refusal :=
  takeEvent opportunity (fun x => settle (takeOpportunity x)) s

/-- The key-up lead has ended: the frame with what it carries and its line rate. -/
def leadOver (s : State) : Option (List Byte × AirOrigin × Nat) :=
  match s.link.tx with
  | .keying frame o leadEnd rate => if leadEnd ≤ s.pace.cycles then some (frame, o, rate) else none
  | .idle => none
  | .onAir _ _ _ _ => none

/-- KEY_UP_LEAD_END (R117). -/
def execKeyUpLeadEnd (s : State) : Host.Outcome State Fault Refusal :=
  takeEvent (fun x => (leadOver x).isSome)
    (fun x =>
      match leadOver x with
      | none => x
      | some (frame, o, rate) => x.onLink fun l => { l with tx := .onAir frame o x.pace.cycles rate }) s

/-- The last stop bit has gone: ten bits a byte at the line rate (R117). -/
def airOver (s : State) : Option AirOrigin :=
  match s.link.tx with
  | .onAir frame o start rate =>
    if start * rate + frame.length * 10 * perSecond ≤ s.pace.cycles * rate then some o else none
  | .idle => none
  | .keying _ _ _ _ => none

/-- END_OF_AIR (R117). -/
def execEndOfAir (s : State) : Host.Outcome State Fault Refusal :=
  takeEvent (fun x => (airOver x).isSome)
    (fun x =>
      match airOver x with
      | none => x
      | some o => settle (endOfAir o x)) s

/-- The end of an open window whose decision does not wait yet has been reached. -/
def windowDueNow (s : State) : Option AckWindow :=
  match s.link.window with
  | none => none
  | some w => if !w.undecided && decide (w.finish ≤ s.tb.now) then some w else none

/-- ACK_WINDOW_END (R121). -/
def execAckWindowEnd (s : State) : Host.Outcome State Fault Refusal :=
  takeEvent (fun x => (windowDueNow x).isSome)
    (fun x =>
      match windowDueNow x with
      | none => x
      | some w => settle (windowEnds w x)) s

/-! ### Receptions -/

/-- START_OF_FRAME_CAPTURE (R18, R20, R119). -/
def execStartOfFrameCapture (s : State) : Host.Outcome State Fault Refusal :=
  takeEvent (fun _ => true) (fun x => settle (startOfFrame x)) s

/-- 200 ms, counted in oscillator cycles, have passed with no byte in a reception (R119). -/
def receptionLate (s : State) : Bool :=
  match s.link.reception with
  | none => false
  | some r => decide (r.lastByte + 2000000 ≤ s.pace.cycles)

/-- RECEPTION_TIMEOUT (R119). -/
def execReceptionTimeout (s : State) : Host.Outcome State Fault Refusal :=
  takeEvent receptionLate (fun x => settle (badFrame x)) s

/-- These bytes go on from those collected in the reception in progress. -/
def goesOn (bytes : List Byte) (s : State) : Bool :=
  match s.link.reception with
  | none => false
  | some r => r.bytes.isPrefixOf bytes

/-- These bytes bring new ones to the reception in progress, and it has not ended with them (R119). -/
def stillComing (bytes : List Byte) (s : State) : Bool :=
  goesOn bytes s && hear bytes == .more &&
    match s.link.reception with
    | none => false
    | some r => decide (r.bytes.length < bytes.length)

/-- The bytes of a reception are collected (R119): a row whose bytes do not end the reception yet stands for their arrival.
DESIGN CHOICE, unsafe: notes/assumptions/13.md. -/
def collectBytes (bytes : List Byte) (s : State) : State :=
  s.onLink fun l =>
    { l with reception := l.reception.map fun r => { r with bytes := bytes, lastByte := s.pace.cycles } }

/-- A reception is in progress and these bytes end it as a bad frame. -/
def heardBad (bytes : List Byte) (s : State) : Bool := goesOn bytes s && hear bytes == .bad

/-- BAD_FRAME (R119, R123). -/
def execBadFrame (bytes : List Byte) (s : State) : Host.Outcome State Fault Refusal :=
  takeEvent (fun x => heardBad bytes x || stillComing bytes x)
    (fun x => if heardBad bytes x then settle (badFrame x) else collectBytes bytes x) s

/-- The good frame these bytes are, in a reception in progress. -/
def heardGood (bytes : List Byte) (s : State) : Option HeardFrame :=
  if goesOn bytes s then
    match hear bytes with
    | .good f => some f
    | .bad => none
    | .more => none
  else none

/-- The accepted frame of good form and of a kind that these bytes are, judged by the address, the groups and the enables
at its end (R120, R131). DEDUCED, unsafe: notes/assumptions/40.md. -/
def heardKind (kind : Nat) (bytes : List Byte) (s : State) : Option HeardFrame :=
  match heardGood bytes s with
  | none => none
  | some f => if f.kind = kind ∧ acceptedFrame s.link f = true ∧ wellFormedFrame f = true then some f else none

/-- The effect of a good frame: it is counted, its own effect follows, then a decision that waited for the reception
(R119 to R123). Bytes that do not end the reception yet are collected. -/
def frameEvent (bytes : List Byte) (found : State → Option HeardFrame) (effect : HeardFrame → State → State) (s : State) :
    Host.Outcome State Fault Refusal :=
  takeEvent (fun x => (found x).isSome || stillComing bytes x)
    (fun x =>
      match found x with
      | none => collectBytes bytes x
      | some f => settle (goodFrame (effect f) x)) s

/-- A good frame that is not accepted, or not of good form (R120). -/
def heardDropped (bytes : List Byte) (s : State) : Option HeardFrame :=
  match heardGood bytes s with
  | none => none
  | some f => if acceptedFrame s.link f && wellFormedFrame f then none else some f

/-- The counter of a dropped frame (R120). -/
def dropFrame (f : HeardFrame) (s : State) : State :=
  s.onLink fun l =>
    if acceptedFrame l f then { l with malformed := satInc 65535 l.malformed }
    else { l with unaccepted := satInc 65535 l.unaccepted }

/-- FRAME_NOT_ACCEPTED (R120). -/
def execFrameNotAccepted (bytes : List Byte) (s : State) : Host.Outcome State Fault Refusal :=
  frameEvent bytes (heardDropped bytes) dropFrame s

/-- The capture of the reception in progress lay within the open window. -/
def capturedInWindow (s : State) : Bool :=
  match s.link.reception with
  | none => false
  | some r => r.inWindow

/-- ACK_RECEIVED (R121, R122). -/
def execAckReceived (bytes : List Byte) (s : State) : Host.Outcome State Fault Refusal :=
  frameEvent bytes (heardKind 0x11 bytes) (fun f => answerFrame f (capturedInWindow s) true) s

/-- NACK_RECEIVED (R121, R122). -/
def execNackReceived (bytes : List Byte) (s : State) : Host.Outcome State Fault Refusal :=
  frameEvent bytes (heardKind 0x12 bytes) (fun f => answerFrame f (capturedInWindow s) false) s

/-- POLL_RECEIVED (R149). -/
def execPollReceived (bytes : List Byte) (s : State) : Host.Outcome State Fault Refusal :=
  frameEvent bytes (heardKind 0x13 bytes) (fun f => pollSlots (natOf f.payload)) s

/-- PAUSE_RECEIVED (R128). -/
def execPauseReceived (bytes : List Byte) (s : State) : Host.Outcome State Fault Refusal :=
  frameEvent bytes (heardKind 0x14 bytes) (fun f => setPause (natOf f.payload)) s

/-! ### Remote commands (R129) -/

/-- The accepted COMMAND of a case that these bytes are. -/
def heardRemote (c : RemoteCase) (bytes : List Byte) (s : State) : Option HeardFrame :=
  match heardKind 0x15 bytes s with
  | none => none
  | some f => if remoteCase s.link.cfg f.payload = c then some f else none

/-- The STATUS command (R129). -/
def remoteStatusEffect (f : HeardFrame) (s : State) : State :=
  if !s.link.cfg.enableStatus then disabledCommand f s
  else
    let (s1, given) := statusNotice s
    queueReply f (if given then 0 else 2) s1

/-- REMOTE_STATUS (R129). -/
def execRemoteStatus (bytes : List Byte) (s : State) : Host.Outcome State Fault Refusal :=
  frameEvent bytes (heardRemote .status bytes) remoteStatusEffect s

/-- The CEILING command (R129, R163). -/
def remoteCeilingEffect (f : HeardFrame) (s : State) : State :=
  if !s.link.cfg.enableCeiling then disabledCommand f s
  else
    match Level.ofCeilingCode (natAt f.payload 1 1) with
    | none => queueReply f 2 s
    | some l => queueReply f 0 (setCeilingTo l s)

/-- REMOTE_CEILING (R129). -/
def execRemoteCeiling (bytes : List Byte) (s : State) : Host.Outcome State Fault Refusal :=
  frameEvent bytes (heardRemote .ceiling bytes) remoteCeilingEffect s

/-- The WAKE command (R129, R169). -/
def remoteWakeEffect (f : HeardFrame) (s : State) : State :=
  if !s.link.cfg.enableWake then disabledCommand f s
  else
    match Load.ofCode (natAt f.payload 1 1) with
    | none => queueReply f 2 s
    | some l => queueReply f 0 (setAsk l .remote (askFor (natAt f.payload 2 1 * 60) s) s)

/-- REMOTE_WAKE (R129). -/
def execRemoteWake (bytes : List Byte) (s : State) : Host.Outcome State Fault Refusal :=
  frameEvent bytes (heardRemote .wake bytes) remoteWakeEffect s

/-- The QUIET command (R128, R129). -/
def remoteQuietEffect (f : HeardFrame) (s : State) : State :=
  if !s.link.cfg.enableQuiet then disabledCommand f s else queueReply f 0 (setQuiet (natAt f.payload 1 1) s)

/-- REMOTE_QUIET (R129). -/
def execRemoteQuiet (bytes : List Byte) (s : State) : Host.Outcome State Fault Refusal :=
  frameEvent bytes (heardRemote .quiet bytes) remoteQuietEffect s

/-- REMOTE_BAD_COMMAND (R129): nothing is done and the result is REFUSED. -/
def execRemoteBadCommand (bytes : List Byte) (s : State) : Host.Outcome State Fault Refusal :=
  frameEvent bytes (heardRemote .bad bytes) (fun f => queueReply f 2) s

/-! ### Expiries -/

/-- The rest expiry has been reached in SILENT, with no probe due, in flight or in its window (R125). -/
def restDue (s : State) : Bool :=
  s.link.health == .silent && !s.link.probeDue &&
    match s.link.restExpiry with
    | none => false
    | some e => decide (e ≤ s.pace.seconds)

/-- REST_EXPIRY (R125): a probe becomes due, unmarked. -/
def execRestExpiry (s : State) : Host.Outcome State Fault Refusal :=
  takeEvent restDue (fun x => settle (x.onLink fun l => { l with probeDue := true, probeAlarm := false })) s

/-- The pause expiry has been reached. -/
def pauseOver (s : State) : Bool :=
  match s.link.pause with
  | none => false
  | some e => decide (e ≤ s.pace.cycles)

/-- PAUSE_EXPIRY (R128). -/
def execPauseExpiry (s : State) : Host.Outcome State Fault Refusal :=
  takeEvent pauseOver (fun x => settle (x.onLink fun l => { l with pause := none })) s

/-- The quiet expiry has been reached. -/
def quietOver (s : State) : Bool :=
  match s.link.quiet with
  | none => false
  | some e => decide (e ≤ s.pace.seconds)

/-- QUIET_EXPIRY (R128). -/
def execQuietExpiry (s : State) : Host.Outcome State Fault Refusal :=
  takeEvent quietOver (fun x => settle (x.onLink fun l => { l with quiet := none })) s

/-- A queued REPLY is 60 accounting seconds old (R130). -/
def replyOld (s : State) : Bool := s.link.replies.any fun r => decide (r.taken + 60 ≤ s.pace.seconds)

/-- REPLY_EXPIRY (R130). -/
def execReplyExpiry (s : State) : Host.Outcome State Fault Refusal :=
  takeEvent replyOld (fun x => settle (dropOldReplies x)) s

/-- A slot in BACKOFF has reached its expiry (R142). -/
def backoffDue (n : Nat) (s : State) : Bool :=
  (slotAt n s).state == .backoff && decide ((slotAt n s).backoff ≤ s.pace.cycles)

/-- BACKOFF_EXPIRY (R142). -/
def execBackoffExpiry (n : Nat) (s : State) : Host.Outcome State Fault Refusal :=
  takeEvent (backoffDue n) (fun x => settle (waitAgain n x)) s

end Sys2Proof.Machine
end

