-- ==== Sys2Proof/Machine/PortEvents.lean ====
section
/-! DEFINITION. The meanings of the transactions that run no command (sections 11.1 and R187 to R189). -/

namespace Sys2Proof.Machine

/-- A reply of the port itself: an unread reply is discarded, and the new one is ready with no data (R188, R189). -/
def portReply (p : Port) (st : Status) (tag : Byte) (s : State) : State :=
  replyReady p st tag [] (sendZeros p (discardReply p s))

/-- FRAMING_ERROR (R187): a first byte that is neither kind, or no whole first byte; 0x00 is sent until SEL rises. -/
def execFramingError (p : Port) (first : Option Byte) (s : State) : Host.Outcome State Fault Refusal :=
  takeEvent (fun _ => first != some 0x01 && first != some 0x02)
    (fun x => x.onPort p fun r => { r with framing := satInc 65535 r.framing, sdo := [] }) s

/-- The frame a read sends: the ready reply, or NOT_READY (R189). -/
def readFrame (r : PortRec) : List Byte :=
  match r.reply with
  | .ready bytes => bytes
  | .none => replyFrame .notReady 0 []
  | .preparing _ => replyFrame .notReady 0 []

/-- A read transaction of some bytes after its kind byte at the port record (R187, R189). -/
def PortRec.readOut (clocked : Nat) (r : PortRec) : PortRec :=
  let r1 := { r with sdo := (readFrame r).take clocked }
  match r.reply with
  | .none => r1
  | .preparing _ => r1
  | .ready bytes => if bytes.length ≤ clocked then { r1 with reply := .none } else r1

/-- REPLY_READ (R187, R189). -/
def execReplyRead (p : Port) (clocked : Nat) (s : State) : Host.Outcome State Fault Refusal :=
  takeEvent (fun _ => true) (fun x => x.onPort p (PortRec.readOut clocked)) s

/-- UNKNOWN_COMMAND (R188, item 3). -/
def execUnknownCommand (p : Port) (code tag : Byte) (_args : List Byte) (s : State) : Host.Outcome State Fault Refusal :=
  takeEvent (fun _ => !catalogueCodes.contains code.toNat) (portReply p .badCommand tag) s

/-- A request that breaks its check (R188, item 2). -/
def answerBadCheck (p : Port) (bytes : List Byte) (s : State) : State :=
  (portReply p .badCheck (bytes.getD 1 0) s).onPort p fun r =>
    { r with badChecks := satInc 65535 r.badChecks }

/-- REQUEST_BAD_LENGTH_OR_CHECK (R188, items 1 and 2), with the bytes after the kind byte. -/
def execRequestBadLengthOrCheck (p : Port) (bytes : List Byte) (s : State) : Host.Outcome State Fault Refusal :=
  takeEvent (fun _ => badLength bytes || badCheck bytes)
    (fun x => if badLength bytes then portReply p .badLength (bytes.getD 1 0) x else answerBadCheck p bytes x) s

end Sys2Proof.Machine
end

