-- ==== Sys2Proof/Machine/PowerEvents.lean ====
section
/-! DEFINITION. The meanings of the events of the Power Controller (chapter 9). -/

namespace Sys2Proof.Machine

/-- ACCOUNTING_SECOND (R155). -/
def execAccountingSecond (r : Readings) (s : State) : Host.Outcome State Fault Refusal :=
  takeEvent secondDue (accountingWork r) s

/-- FULL_RECALIBRATION (R159): the accounting second in which the full count reaches 60
(DEDUCED, safe: notes/assumptions/9.md). -/
def execFullRecalibration (r : Readings) (s : State) : Host.Outcome State Fault Refusal :=
  takeEvent (fun x => secondDue x && reachesFull r x) (accountingWork r) s

/-- EMPTY_RECALIBRATION (R159): the accounting second in which the empty count reaches 10 or stays there
(DEDUCED, safe: notes/assumptions/9.md). -/
def execEmptyRecalibration (r : Readings) (s : State) : Host.Outcome State Fault Refusal :=
  takeEvent (fun x => secondDue x && reachesEmpty r x) (accountingWork r) s

/-- The cutoff count stands at 10 outside DORMANT and the last-gasp wait. -/
def gaspDue (s : State) : Bool :=
  decide (10 ≤ s.pw.cutoffCount) && s.pw.lastGasp.isNone && s.pw.level != some .dormant

/-- LAST_GASP_START (R165). -/
def execLastGaspStart (s : State) : Host.Outcome State Fault Refusal :=
  takeEvent gaspDue (fun x => settle (startLastGasp x)) s

/-- The last-gasp wait has lasted 60 accounting seconds. -/
def gaspOver (s : State) : Bool :=
  match s.pw.lastGasp with
  | none => false
  | some g => decide (60 ≤ g.elapsed)

/-- LAST_GASP_TIMEOUT (R165, R166). -/
def execLastGaspTimeout (s : State) : Host.Outcome State Fault Refusal :=
  takeEvent gaspOver (fun x => settle (enterDormant x)) s

/-- The restart count stands at 60 in DORMANT. -/
def restartDue (s : State) : Bool := s.pw.level == some .dormant && decide (60 ≤ s.pw.restartCount)

/-- DORMANT_RESTART (R166). -/
def execDormantRestart (s : State) : Host.Outcome State Fault Refusal :=
  takeEvent restartDue (fun x => settle (changeLevel .critical true x)) s

/-- A requester's entry has reached its expiry. -/
def expiryDue (l : Load) (r : Requester) (s : State) : Bool :=
  match (s.pw.loads.get l).asks.get r with
  | .absent => false
  | .standing => false
  | .until e => decide (e ≤ s.pace.seconds)

/-- The expired windows and refresh requests of the Discipline Unit are gone, and its entry is formed again (R56). -/
def expireGnss (s : State) : State :=
  formTimebaseEntry
    (s.onDisc fun d =>
      { d with window := unexpired s.pace.seconds d.window, refresh := unexpired s.pace.seconds d.refresh })

/-- LOAD_REQUEST_EXPIRY (R169). -/
def execLoadRequestExpiry (l : Load) (r : Requester) (s : State) : Host.Outcome State Fault Refusal :=
  takeEvent (expiryDue l r)
    (fun x => settle (if l = .gnss ∧ r = .timebase then expireGnss x else setAsk l r .absent x)) s

/-- MIN_OFF_REACHED (R168). -/
def execMinOffReached (l : Load) (s : State) : Host.Outcome State Fault Refusal :=
  takeEvent (fun x => (x.pw.loads.get l).onDue)
    (fun x => settle (x.onLoad l fun y => { y with onDue := false })) s

end Sys2Proof.Machine
end

