-- ==== Sys2Proof/Machine/ResetEvents.lean ====
section
/-! DEFINITION. The meanings of the events of reset, counting and saving. -/

namespace Sys2Proof.Machine

/-- COLD_RESET (R195): power-on, or RESET held low. -/
def execColdReset (cause : ColdCause) (s : State) : Host.Outcome State Fault Refusal := .next (coldReset cause s)

/-- RESET_RELEASE (R194, R195): the restore, and counting begins. -/
def execResetRelease (s : State) : Host.Outcome State Fault Refusal :=
  if s.pace.held then .next (releaseReset s) else .next s

/-- OSCILLATOR_CYCLE (R2): one cycle at the Timebase and at the counts taken from the oscillator. -/
def execOscillatorCycle (s : State) : Host.Outcome State Fault Refusal :=
  takeEvent (fun _ => true) (fun x => (x.onTb Timebase.cycle).onPace fun p => { p with cycles := p.cycles + 1 }) s

/-- A save has reached its end. -/
def saveDue (s : State) : Bool :=
  match s.store.save with
  | none => false
  | some sv => decide (sv.finish ≤ s.pace.cycles)

/-- SAVE_COMPLETE (R193). -/
def execSaveComplete (s : State) : Host.Outcome State Fault Refusal :=
  takeEvent saveDue
    (fun x =>
      match x.store.save with
      | none => x
      | some sv => endSave sv x) s

end Sys2Proof.Machine
end

