-- ==== Sys2Proof/Machine/SampleEvents.lean ====
section
/-! DEFINITION. The meanings of the events of acquisition and detection (chapters 4 and 5). -/

namespace Sys2Proof.Machine

/-- SETTLE_COMPLETE (R61). -/
def execSettleComplete (s : State) : Host.Outcome State Fault Refusal :=
  takeEvent (fun x => x.acq.state == .settling && x.acq.settleDue) startStream s

/-- A data-ready capture of this time is accepted (R63). -/
def captureAccepted (t : Time) (a : Acquisition) : Bool :=
  match a.inFlight with
  | none => false
  | some f => !f.reading && decide (f.timestamp ≤ t) && decide (t ≤ f.deadline)

/-- DATA_READY_CAPTURE (R18, R20, R63). -/
def execDataReadyCapture (s : State) : Host.Outcome State Fault Refusal :=
  takeEvent (fun _ => true)
    (fun x =>
      let x1 := x.onCcu fun c => { c with ch1 := (c.ch1.edge x.tb.now).read }
      x1.onAcq fun a =>
        if captureAccepted x.tb.now a then { a with inFlight := a.inFlight.map fun f => { f with reading := true } }
        else { a with stray := satInc 65535 a.stray }) s

/-- A frame read is under way (R63). -/
def readingFrame (s : State) : Bool :=
  match s.acq.inFlight with
  | none => false
  | some f => f.reading

/-- FRAME_READ_COMPLETE (R63, R65). -/
def execFrameReadComplete (samples : Samples) (s : State) : Host.Outcome State Fault Refusal :=
  takeEvent readingFrame
    (fun x =>
      match x.acq.inFlight with
      | none => x
      | some f => storeFrame f (some samples) x) s

/-- The deadline of a frame in AWAIT_READY has been passed (R64). -/
def deadlinePassed (s : State) : Bool :=
  match s.acq.inFlight with
  | none => false
  | some f => !f.reading && decide (f.deadline < s.tb.now)

/-- DATA_READY_DEADLINE (R64). -/
def execDataReadyDeadline (s : State) : Host.Outcome State Fault Refusal :=
  takeEvent deadlinePassed
    (fun x =>
      match x.acq.inFlight with
      | none => x
      | some f => storeMissing f x) s

/-- A frame waits for the Detector. -/
def frameWaits (s : State) : Bool := !s.det.waiting.isEmpty

/-- DETECTOR_FRAME (R79). -/
def execDetectorFrame (s : State) : Host.Outcome State Fault Refusal :=
  takeEvent frameWaits (fun x => settle (takeFrame x)) s

/-- The next frame's work detriggers channel `ch` for its duration (R84). -/
def endsDuration (ch : Nat) (s : State) : Bool :=
  match nextFrameNews ch s with
  | some (_, _, .ended .duration) => true
  | some (_, _, .ended .ratio) => false
  | some (_, _, .ended .gap) => false
  | some (_, _, .ended .sensorOff) => false
  | some (_, _, .ended .reconfigured) => false
  | some (_, _, .nothing) => false
  | some (_, _, .triggered) => false
  | none => false

/-- DURATION_LIMIT (R84): the work on the frame with which channel `ch` detriggers for its duration
(DEDUCED, safe: notes/assumptions/9.md). -/
def execDurationLimit (ch : Nat) (s : State) : Host.Outcome State Fault Refusal :=
  takeEvent (fun x => channelNumbers.contains ch && endsDuration ch x) (fun x => settle (takeFrame x)) s

/-- The next frame's work takes channel `ch` from one state to another. -/
def movesState (old new : ChannelState) (ch : Nat) (s : State) : Bool :=
  match nextFrameNews ch s with
  | none => false
  | some (a, b, _) => a == old && b == new

/-- WARMUP_END (R82): the work on the frame with which channel `ch` ends its warm-up (DEDUCED, safe: notes/assumptions/9.md). -/
def execWarmupEnd (ch : Nat) (s : State) : Host.Outcome State Fault Refusal :=
  takeEvent (fun x => channelNumbers.contains ch && movesState .warmup .quiet ch x) (fun x => settle (takeFrame x)) s

/-- HOLDOFF_END (R85): the work on the frame with which channel `ch` ends its holdoff (DEDUCED, safe: notes/assumptions/9.md). -/
def execHoldoffEnd (ch : Nat) (s : State) : Host.Outcome State Fault Refusal :=
  takeEvent (fun x => channelNumbers.contains ch && movesState .holdoff .quiet ch x) (fun x => settle (takeFrame x)) s

end Sys2Proof.Machine
end

