-- ==== Sys2Proof/Machine/Dispatch.lean ====
section
/-! DEFINITION. One arm per command. -/

namespace Sys2Proof.Machine

def exec (i : Instr) (s : State) : Host.Outcome State Fault Refusal :=
  match i with
  | .coldReset cause => Sys2Proof.Machine.execColdReset cause s
  | .resetRelease => Sys2Proof.Machine.execResetRelease s
  | .oscillatorCycle => Sys2Proof.Machine.execOscillatorCycle s
  | .accountingSecond r => Sys2Proof.Machine.execAccountingSecond r s
  | .fullRecalibration r => Sys2Proof.Machine.execFullRecalibration r s
  | .emptyRecalibration r => Sys2Proof.Machine.execEmptyRecalibration r s
  | .lastGaspStart => Sys2Proof.Machine.execLastGaspStart s
  | .lastGaspTimeout => Sys2Proof.Machine.execLastGaspTimeout s
  | .dormantRestart => Sys2Proof.Machine.execDormantRestart s
  | .loadRequestExpiry load who => Sys2Proof.Machine.execLoadRequestExpiry load who s
  | .minOffReached load => Sys2Proof.Machine.execMinOffReached load s
  | .disciplineSecond => Sys2Proof.Machine.execDisciplineSecond s
  | .refreshRepeat => Sys2Proof.Machine.execRefreshRepeat s
  | .gnssWindowOpen => Sys2Proof.Machine.execGnssWindowOpen s
  | .ppsCapture => Sys2Proof.Machine.execPpsCapture s
  | .missedSecond => Sys2Proof.Machine.execMissedSecond s
  | .ppsLoss => Sys2Proof.Machine.execPpsLoss s
  | .labelReceived eighth => Sys2Proof.Machine.execLabelReceived eighth s
  | .compareMatch ch => Sys2Proof.Machine.execCompareMatch ch s
  | .heaterBoundary h => Sys2Proof.Machine.execHeaterBoundary h s
  | .heaterOffMatch h => Sys2Proof.Machine.execHeaterOffMatch h s
  | .heaterSecond => Sys2Proof.Machine.execHeaterSecond s
  | .deferralLimitExpiry h => Sys2Proof.Machine.execDeferralLimitExpiry h s
  | .settleComplete => Sys2Proof.Machine.execSettleComplete s
  | .dataReadyCapture => Sys2Proof.Machine.execDataReadyCapture s
  | .frameReadComplete samples => Sys2Proof.Machine.execFrameReadComplete samples s
  | .dataReadyDeadline => Sys2Proof.Machine.execDataReadyDeadline s
  | .markerCapture => Sys2Proof.Machine.execMarkerCapture s
  | .detectorFrame => Sys2Proof.Machine.execDetectorFrame s
  | .durationLimit ch => Sys2Proof.Machine.execDurationLimit ch s
  | .warmupEnd ch => Sys2Proof.Machine.execWarmupEnd ch s
  | .holdoffEnd ch => Sys2Proof.Machine.execHoldoffEnd ch s
  | .radioWarm => Sys2Proof.Machine.execRadioWarm s
  | .transmitOpportunity => Sys2Proof.Machine.execTransmitOpportunity s
  | .keyUpLeadEnd => Sys2Proof.Machine.execKeyUpLeadEnd s
  | .endOfAir => Sys2Proof.Machine.execEndOfAir s
  | .ackWindowEnd => Sys2Proof.Machine.execAckWindowEnd s
  | .startOfFrameCapture => Sys2Proof.Machine.execStartOfFrameCapture s
  | .receptionTimeout => Sys2Proof.Machine.execReceptionTimeout s
  | .badFrame bytes => Sys2Proof.Machine.execBadFrame bytes s
  | .frameNotAccepted bytes => Sys2Proof.Machine.execFrameNotAccepted bytes s
  | .ackReceived bytes => Sys2Proof.Machine.execAckReceived bytes s
  | .nackReceived bytes => Sys2Proof.Machine.execNackReceived bytes s
  | .pollReceived bytes => Sys2Proof.Machine.execPollReceived bytes s
  | .pauseReceived bytes => Sys2Proof.Machine.execPauseReceived bytes s
  | .remoteStatus bytes => Sys2Proof.Machine.execRemoteStatus bytes s
  | .remoteCeiling bytes => Sys2Proof.Machine.execRemoteCeiling bytes s
  | .remoteWake bytes => Sys2Proof.Machine.execRemoteWake bytes s
  | .remoteQuiet bytes => Sys2Proof.Machine.execRemoteQuiet bytes s
  | .remoteBadCommand bytes => Sys2Proof.Machine.execRemoteBadCommand bytes s
  | .restExpiry => Sys2Proof.Machine.execRestExpiry s
  | .pauseExpiry => Sys2Proof.Machine.execPauseExpiry s
  | .quietExpiry => Sys2Proof.Machine.execQuietExpiry s
  | .replyExpiry => Sys2Proof.Machine.execReplyExpiry s
  | .backoffExpiry slot => Sys2Proof.Machine.execBackoffExpiry slot s
  | .saveComplete => Sys2Proof.Machine.execSaveComplete s
  | .framingError p first => Sys2Proof.Machine.execFramingError p first s
  | .replyRead p clocked => Sys2Proof.Machine.execReplyRead p clocked s
  | .unknownCommand p code tag args => Sys2Proof.Machine.execUnknownCommand p code tag args s
  | .getStatus p tag args => Sys2Proof.Machine.execGetStatus p tag args s
  | .getNotifications p tag args => Sys2Proof.Machine.execGetNotifications p tag args s
  | .setNotifyMask p tag args => Sys2Proof.Machine.execSetNotifyMask p tag args s
  | .getRights p tag args => Sys2Proof.Machine.execGetRights p tag args s
  | .setRights p tag args => Sys2Proof.Machine.execSetRights p tag args s
  | .saveSettings p tag args => Sys2Proof.Machine.execSaveSettings p tag args s
  | .resetPart p tag args => Sys2Proof.Machine.execResetPart p tag args s
  | .getTime p tag args => Sys2Proof.Machine.execGetTime p tag args s
  | .getTimeStatus p tag args => Sys2Proof.Machine.execGetTimeStatus p tag args s
  | .setTime p tag args => Sys2Proof.Machine.execSetTime p tag args s
  | .resetTime p tag args => Sys2Proof.Machine.execResetTime p tag args s
  | .getChannel p tag args => Sys2Proof.Machine.execGetChannel p tag args s
  | .getMarker p tag args => Sys2Proof.Machine.execGetMarker p tag args s
  | .getDiscipline p tag args => Sys2Proof.Machine.execGetDiscipline p tag args s
  | .setDiscipline p tag args => Sys2Proof.Machine.execSetDiscipline p tag args s
  | .readTempBins p tag args => Sys2Proof.Machine.execReadTempBins p tag args s
  | .loadTempBins p tag args => Sys2Proof.Machine.execLoadTempBins p tag args s
  | .drainSamples p tag args => Sys2Proof.Machine.execDrainSamples p tag args s
  | .getRing p tag args => Sys2Proof.Machine.execGetRing p tag args s
  | .setAcquisition p tag args => Sys2Proof.Machine.execSetAcquisition p tag args s
  | .getDetector p tag args => Sys2Proof.Machine.execGetDetector p tag args s
  | .getDetectorChannel p tag args => Sys2Proof.Machine.execGetDetectorChannel p tag args s
  | .setDetector p tag args => Sys2Proof.Machine.execSetDetector p tag args s
  | .setDetectorChannel p tag args => Sys2Proof.Machine.execSetDetectorChannel p tag args s
  | .listEvents p tag args => Sys2Proof.Machine.execListEvents p tag args s
  | .getEvent p tag args => Sys2Proof.Machine.execGetEvent p tag args s
  | .ackEvents p tag args => Sys2Proof.Machine.execAckEvents p tag args s
  | .getEventTable p tag args => Sys2Proof.Machine.execGetEventTable p tag args s
  | .setEventTable p tag args => Sys2Proof.Machine.execSetEventTable p tag args s
  | .getLink p tag args => Sys2Proof.Machine.execGetLink p tag args s
  | .getLinkSettings p tag args => Sys2Proof.Machine.execGetLinkSettings p tag args s
  | .setLink p tag args => Sys2Proof.Machine.execSetLink p tag args s
  | .setGroups p tag args => Sys2Proof.Machine.execSetGroups p tag args s
  | .getSlot p tag args => Sys2Proof.Machine.execGetSlot p tag args s
  | .getNoticeTable p tag args => Sys2Proof.Machine.execGetNoticeTable p tag args s
  | .queueNotice p tag args => Sys2Proof.Machine.execQueueNotice p tag args s
  | .appendNotice p tag args => Sys2Proof.Machine.execAppendNotice p tag args s
  | .releaseNotice p tag args => Sys2Proof.Machine.execReleaseNotice p tag args s
  | .abortNotice p tag args => Sys2Proof.Machine.execAbortNotice p tag args s
  | .freeSlot p tag args => Sys2Proof.Machine.execFreeSlot p tag args s
  | .setResponder p tag args => Sys2Proof.Machine.execSetResponder p tag args s
  | .setNotices p tag args => Sys2Proof.Machine.execSetNotices p tag args s
  | .getPower p tag args => Sys2Proof.Machine.execGetPower p tag args s
  | .getLoad p tag args => Sys2Proof.Machine.execGetLoad p tag args s
  | .setCeiling p tag args => Sys2Proof.Machine.execSetCeiling p tag args s
  | .requestLoad p tag args => Sys2Proof.Machine.execRequestLoad p tag args s
  | .releaseLoad p tag args => Sys2Proof.Machine.execReleaseLoad p tag args s
  | .setPower p tag args => Sys2Proof.Machine.execSetPower p tag args s
  | .getHeater p tag args => Sys2Proof.Machine.execGetHeater p tag args s
  | .getHeaterLimits p tag args => Sys2Proof.Machine.execGetHeaterLimits p tag args s
  | .setHeater p tag args => Sys2Proof.Machine.execSetHeater p tag args s
  | .setHeaterLimits p tag args => Sys2Proof.Machine.execSetHeaterLimits p tag args s
  | .labelByteReceived b => Sys2Proof.Machine.execLabelByteReceived b s
  | .requestBadLengthOrCheck p bytes => Sys2Proof.Machine.execRequestBadLengthOrCheck p bytes s

end Sys2Proof.Machine
end

