-- ==== Sys2Proof/Safety.lean ====
section
/-! DEFINITION. The terms the statements use: the part of the state that nothing forms again at the end of a step, requests and
their replies, and the bounds that every step keeps. -/

namespace Sys2Proof.Machine

/-! ### What is not formed again -/

/-- The Timebase without the time state, the slew and temperature parts, the uncertainty and the notice references. -/
def Timebase.kept (tb : Timebase) : Timebase :=
  { tb with state := .free, entry := 0, cslew := 0, ctemp := 0, uncertainty := 0, routineRef := none, urgentRef := none }

/-- The CCU without its compare channels. -/
def Ccu.kept (c : Ccu) : Ccu := { c with ch4 := .cold, heaters := ⟨.cold, .cold⟩, ch7 := .cold }

/-- The Discipline Unit without presence, runs, held values and GNSS requests. -/
def Discipline.kept (d : Discipline) : Discipline :=
  { d with present := false, absence := 0, matched := none, heldP := none, lockRun := 0, unlockRun := 0, bref := 0,
           continuous := false, window := none, refresh := none, scheduleCount := 0, aboveRefresh := false, takenLow := false,
           sinceRefresh := 0, lossDue := false, windowDue := false }

/-- The Acquisition Unit without the stream's state, the frame in flight, the pending edge, the holds and the aborted
reads. -/
def Acquisition.kept (a : Acquisition) : Acquisition :=
  { a with state := .stopped, settleCount := 0, settleDue := false, inFlight := none, edgePending := false, holds := [],
           aborted := 0 }

/-- The Detector without its channels, its episode, the last edge and the quiet request. -/
def Detector.kept (d : Detector) : Detector :=
  { d with channels := Detector.cold.channels, episode := .none, participants := [], onsetTime := 0, onsetFrame := 0,
           cls := 0, votePeak := 0, gapFlag := false, clippedFlag := false, gapRun := 0, lastEdge := none, quiet := false }

/-- The Event Table without its records. -/
def EventTable.kept (ev : EventTable) : EventTable := { ev with records := [] }

/-- The Alert Link Controller without its state, its line, its window, its reception and its probe flags. -/
def Link.kept (l : Link) : Link :=
  { l with state := .off, tx := .idle, window := none, reception := none, listenAsk := false, warm := false, warmAt := 0,
           probeDue := false, probeAlarm := false, earlyUsed := false, worst := ⟨.off, .off, .off⟩ }

/-- The Notice Slot Table without slots, stack, tags and the counters that requests move. -/
def NoticeTable.kept (nt : NoticeTable) : NoticeTable :=
  { nt with slots := [], stack := [], tagCounter := 0, unqueued := 0, energyHolds := 0, displacements := 0 }

/-- The Power Controller without level, loads, last gasp, their counts and the notice references. -/
def Power.kept (pw : Power) : Power :=
  { pw with level := none, dwell := 0, cutoffCount := 0, restartCount := 0, lastGasp := none, gaspEnded := false,
            loads := Power.cold.loads, linkAlarm := false, survivalRef := none, criticalRef := none, coldRef := none,
            gaspRef := none }

/-- A thermostat record without its cap, its duty, its deferral and its edges. -/
def Thermostat.kept (t : Thermostat) : Thermostat :=
  { t with cap := 0, computed := 0, deferral := .none, edges := 0, lastEdge := none }

/-- The Heater Controller without its records' moving part, the level and the quiet report. -/
def HeaterUnit.kept (u : HeaterUnit) : HeaterUnit :=
  { u with units := ⟨u.units.hb.kept, u.units.ho.kept⟩, level := none, quiet := false }

/-- A port record without its reply and its notification set. -/
def PortRec.kept (r : PortRec) : PortRec := { r with transaction := .none, reply := .none, notices := 0 }

/-- The Settings Store without its image and its save. -/
def Store.kept (st : Store) : Store := { st with image := none, save := none, autoWaiting := false }

/-- The state without everything that `settle` can form again: two states with the same `kept` agree on the queue, on
station time and the learned frequency, on every setting, on the measurements and the charge account, on the ring and
the drain, on the captures, on the error counts and the replies of the link, and on the rights, masks and counters of
the ports. -/
def State.kept (s : State) : State :=
  { pending := s.pending
    pace := { s.pace with heaterSeconds := 0 }
    tb := s.tb.kept
    ccu := s.ccu.kept
    disc := s.disc.kept
    acq := s.acq.kept
    det := s.det.kept
    ev := s.ev.kept
    link := s.link.kept
    nt := s.nt.kept
    pw := s.pw.kept
    ht := s.ht.kept
    ports := s.ports.map PortRec.kept
    store := s.store.kept }

/-! ### Requests and their replies -/

/-- A request that ran the checks of length, check and code: its port, tag, arguments and the right the catalogue names
for its command (R188). -/
structure Request where
  port : Port
  tag : Byte
  args : List Byte
  right : Right
  deriving DecidableEq, Repr

/-- The request a command is, with its right from the command catalogue; an event is none. -/
def requestOf : Instr → Option Request
  | .getStatus p tag args => some ⟨p, tag, args, .read⟩
  | .getNotifications p tag args => some ⟨p, tag, args, .read⟩
  | .setNotifyMask p tag args => some ⟨p, tag, args, .read⟩
  | .getRights p tag args => some ⟨p, tag, args, .read⟩
  | .setRights p tag args => some ⟨p, tag, args, .configure⟩
  | .saveSettings p tag args => some ⟨p, tag, args, .configure⟩
  | .resetPart p tag args => some ⟨p, tag, args, .configure⟩
  | .getTime p tag args => some ⟨p, tag, args, .read⟩
  | .getTimeStatus p tag args => some ⟨p, tag, args, .read⟩
  | .setTime p tag args => some ⟨p, tag, args, .configure⟩
  | .resetTime p tag args => some ⟨p, tag, args, .configure⟩
  | .getChannel p tag args => some ⟨p, tag, args, .read⟩
  | .getMarker p tag args => some ⟨p, tag, args, .read⟩
  | .getDiscipline p tag args => some ⟨p, tag, args, .read⟩
  | .setDiscipline p tag args => some ⟨p, tag, args, .configure⟩
  | .readTempBins p tag args => some ⟨p, tag, args, .read⟩
  | .loadTempBins p tag args => some ⟨p, tag, args, .configure⟩
  | .drainSamples p tag args => some ⟨p, tag, args, .drain⟩
  | .getRing p tag args => some ⟨p, tag, args, .read⟩
  | .setAcquisition p tag args => some ⟨p, tag, args, .configure⟩
  | .getDetector p tag args => some ⟨p, tag, args, .read⟩
  | .getDetectorChannel p tag args => some ⟨p, tag, args, .read⟩
  | .setDetector p tag args => some ⟨p, tag, args, .configure⟩
  | .setDetectorChannel p tag args => some ⟨p, tag, args, .configure⟩
  | .listEvents p tag args => some ⟨p, tag, args, .read⟩
  | .getEvent p tag args => some ⟨p, tag, args, .read⟩
  | .ackEvents p tag args => some ⟨p, tag, args, .read⟩
  | .getEventTable p tag args => some ⟨p, tag, args, .read⟩
  | .setEventTable p tag args => some ⟨p, tag, args, .configure⟩
  | .getLink p tag args => some ⟨p, tag, args, .read⟩
  | .getLinkSettings p tag args => some ⟨p, tag, args, .read⟩
  | .setLink p tag args => some ⟨p, tag, args, .configure⟩
  | .setGroups p tag args => some ⟨p, tag, args, .configure⟩
  | .getSlot p tag args => some ⟨p, tag, args, .read⟩
  | .getNoticeTable p tag args => some ⟨p, tag, args, .read⟩
  | .queueNotice p tag args => some ⟨p, tag, args, .control⟩
  | .appendNotice p tag args => some ⟨p, tag, args, .control⟩
  | .releaseNotice p tag args => some ⟨p, tag, args, .control⟩
  | .abortNotice p tag args => some ⟨p, tag, args, .control⟩
  | .freeSlot p tag args => some ⟨p, tag, args, .control⟩
  | .setResponder p tag args => some ⟨p, tag, args, .control⟩
  | .setNotices p tag args => some ⟨p, tag, args, .configure⟩
  | .getPower p tag args => some ⟨p, tag, args, .read⟩
  | .getLoad p tag args => some ⟨p, tag, args, .read⟩
  | .setCeiling p tag args => some ⟨p, tag, args, .control⟩
  | .requestLoad p tag args => some ⟨p, tag, args, .control⟩
  | .releaseLoad p tag args => some ⟨p, tag, args, .control⟩
  | .setPower p tag args => some ⟨p, tag, args, .configure⟩
  | .getHeater p tag args => some ⟨p, tag, args, .read⟩
  | .getHeaterLimits p tag args => some ⟨p, tag, args, .read⟩
  | .setHeater p tag args => some ⟨p, tag, args, .configure⟩
  | .setHeaterLimits p tag args => some ⟨p, tag, args, .configure⟩
  | .coldReset _ => none
  | .resetRelease => none
  | .oscillatorCycle => none
  | .accountingSecond _ => none
  | .fullRecalibration _ => none
  | .emptyRecalibration _ => none
  | .lastGaspStart => none
  | .lastGaspTimeout => none
  | .dormantRestart => none
  | .loadRequestExpiry _ _ => none
  | .minOffReached _ => none
  | .disciplineSecond => none
  | .refreshRepeat => none
  | .gnssWindowOpen => none
  | .ppsCapture => none
  | .missedSecond => none
  | .ppsLoss => none
  | .labelReceived _ => none
  | .compareMatch _ => none
  | .heaterBoundary _ => none
  | .heaterOffMatch _ => none
  | .heaterSecond => none
  | .deferralLimitExpiry _ => none
  | .settleComplete => none
  | .dataReadyCapture => none
  | .frameReadComplete _ => none
  | .dataReadyDeadline => none
  | .markerCapture => none
  | .detectorFrame => none
  | .durationLimit _ => none
  | .warmupEnd _ => none
  | .holdoffEnd _ => none
  | .radioWarm => none
  | .transmitOpportunity => none
  | .keyUpLeadEnd => none
  | .endOfAir => none
  | .ackWindowEnd => none
  | .startOfFrameCapture => none
  | .receptionTimeout => none
  | .badFrame _ => none
  | .frameNotAccepted _ => none
  | .ackReceived _ => none
  | .nackReceived _ => none
  | .pollReceived _ => none
  | .pauseReceived _ => none
  | .remoteStatus _ => none
  | .remoteCeiling _ => none
  | .remoteWake _ => none
  | .remoteQuiet _ => none
  | .remoteBadCommand _ => none
  | .restExpiry => none
  | .pauseExpiry => none
  | .quietExpiry => none
  | .replyExpiry => none
  | .backoffExpiry _ => none
  | .saveComplete => none
  | .framingError _ _ => none
  | .replyRead _ _ => none
  | .unknownCommand _ _ _ _ => none
  | .labelByteReceived _ => none
  | .requestBadLengthOrCheck _ _ => none

/-- RESET is released and the port holds the right, so a request on it is handed to its block (R188, R195). -/
def Admits (p : Port) (right : Right) (s : State) : Prop :=
  s.pace.held = false ∧ (s.ports.get p).rights.has right = true

/-- The discarded-reply counter after a write has ended: an unread or unfinished reply is discarded and counted (R189). -/
def PortRec.countedDiscards (r : PortRec) : Nat := if r.reply = .none then r.discarded else min 65535 (r.discarded + 1)

/-- The record of a port whose write has ended, with its reply in preparation; only 0x00 has been sent (R187, R189). -/
def PortRec.taking (tag : Byte) (r : PortRec) : PortRec :=
  { r with reply := .preparing tag, discarded := r.countedDiscards, sdo := [] }

/-- The record of a port whose write has been answered; only 0x00 has been sent (R187, R189). -/
def PortRec.answered (st : Status) (tag : Byte) (data : List Byte) (r : PortRec) : PortRec :=
  { r with reply := .ready (replyFrame st tag data), discarded := r.countedDiscards, sdo := [] }

/-- The state in which a request runs. -/
def State.taking (p : Port) (tag : Byte) (s : State) : State := s.onPort p (PortRec.taking tag)

/-- The state after a request that changes nothing but its port's record. -/
def State.answered (p : Port) (tag : Byte) (st : Status) (data : List Byte) (s : State) : State :=
  s.onPort p (PortRec.answered st tag data)

/-- The reply of a taken command put into the state it left: it becomes ready, unless the command has switched the
port's load off and so reset port A or B (R170, R189, R190). -/
def State.replied (p : Port) (tag : Byte) (data : List Byte) (s : State) : State := finishReply p tag (taken data s)

/-- A command of the given right without arguments that returns these data and changes nothing else: without the right it
is DENIED, with an argument byte it is OUT_OF_RANGE. -/
def ReadCommand (mk : Port → Byte → List Byte → Instr) (data : Port → State → List Byte) : Prop :=
  ∀ (p : Port) (tag : Byte) (s : State), s.pace.held = false →
    (Admits p .read s → exec (mk p tag []) s = .next (s.answered p tag .ok (data p s))) ∧
    (∀ args, Admits p .read s → args ≠ [] → exec (mk p tag args) s = .next (s.answered p tag .outOfRange [])) ∧
    (∀ args, (s.ports.get p).rights.read = false → exec (mk p tag args) s = .next (s.answered p tag .denied []))

/-- The effective rate correction: the clamped sum of the parts held (R3). -/
def rateOf (tb : Timebase) : Int := max (-5000000) (min 5000000 (tb.cfreq + tb.cslew + tb.ctemp))

/-- A compare record after a firing at its next match (R24, R26): pending values whose load time has come become
active, a repeating schedule goes on by the active period, and a one-shot turns OFF. -/
def Compare.afterFiring (now : Time) (c : Compare) : Compare :=
  let loaded : Compare :=
    match c.waiting with
    | none => c
    | some w => if (w.loadTime.getD 0) ≤ c.next then { c with period := w.period, phase := w.phase, waiting := none } else c
  match c.mode with
  | .off => c
  | .oneShot => { loaded with mode := .off, next := 0 }
  | .repeating =>
    if loaded.period = 1 ∧ c.next + 1 ≤ now then
      { loaded with next := now + 1, skipped := (c.skipped + 1) % 65536 }
    else { loaded with next := c.next + loaded.period }

/-- The first time later than `t` that is congruent to the phase modulo the period (R33, R35). -/
def nextCongruent (period phase t : Nat) : Nat := t + 1 + (phase + (period - (t + 1) % period)) % period

/-- A compare record after the single firing at a step or set to a new time (R33, R35): pending values whose load time
has come become active, the skipped count moves by the matches passed over, a repeating schedule takes the first match
after the new time, and a one-shot turns OFF. -/
def Compare.afterMove (new : Time) (passedOver : Nat) (c : Compare) : Compare :=
  let loaded : Compare :=
    match c.waiting with
    | none => c
    | some w => if (w.loadTime.getD 0) ≤ new then { c with period := w.period, phase := w.phase, waiting := none } else c
  let skipped := (c.skipped + passedOver) % 65536
  match c.mode with
  | .off => c
  | .oneShot => { loaded with mode := .off, next := 0, skipped := skipped }
  | .repeating => { loaded with next := nextCongruent loaded.period loaded.phase new, skipped := skipped }

/-- A paired record at a boundary of this time whose compare record has become `cmp` (R29, R34): the pending duty loads,
the boundary and the off-match are recorded. -/
def Paired.begun (t : Time) (cmp : Compare) (p : Paired) : Paired :=
  let duty := p.pendingDuty.getD p.duty
  { p with
    cmp := cmp, duty := duty, pendingDuty := none, boundary := some t
    offMatch := if 0 < duty ∧ duty < 64 then some (t + duty * (cmp.period / 64)) else none }

/-- What a firing that calls for a level does to a heater whose hold is set (R32, R180): nothing, but for the first call
for another level than the one held, from which the deferral counts, and which a limit of 0 releases at once. -/
def heldFiring (h : Heater) (level : Bool) (s : State) : State :=
  if (s.ht.units.get h).deferral = .holding ∧ (s.ccu.heaters.get h).output ≠ level then
    if (s.ht.units.get h).cfg.limit = 0 then
      driveOutput h ((s.ccu.heaters.get h).level s.tb.now) s.tb.now s.ht.quiet
        { s with
          ccu := { s.ccu with heaters := s.ccu.heaters.update h fun c => { c with hold := false } }
          ht := { s.ht with units := s.ht.units.update h fun x => { x with deferral := .released } } }
    else { s with ht := { s.ht with units := s.ht.units.update h fun x => { x with deferral := .deferring s.pace.cycles } } }
  else s

/-! ### The Detector's vote (R87) -/

/-- A channel counted in the vote: TRIGGERED, not suspect and of weight above 0 (R87). -/
def Counted (d : Detector) (ch : Nat) : Prop :=
  1 ≤ ch ∧ ch ≤ 6 ∧ (d.channels.get ch).state = .triggered ∧ (d.channels.get ch).suspect = false ∧
    0 < (d.params.get ch).weight

/-- The trigger time of a channel. -/
def triggerTime (d : Detector) (ch : Nat) : Time := ((d.channels.get ch).trigger.getD (0, 0)).1

/-- The trigger frame of a channel, as its distance from an onset frame modulo 2^32 (R65, R88). -/
def framesAfter (d : Detector) (onset ch : Nat) : Nat :=
  (((d.channels.get ch).trigger.getD (0, 0)).2 + (2 ^ 32 - onset % 2 ^ 32)) % 2 ^ 32

/-- The earliest counted trigger, the lower channel number first where two are equal (R87). -/
def EarliestCounted (d : Detector) (first : Nat) : Prop :=
  Counted d first ∧ ∀ ch, Counted d ch →
    triggerTime d first < triggerTime d ch ∨ (triggerTime d first = triggerTime d ch ∧ first ≤ ch)

/-! ### Frames -/

/-- The frame that storing a frame in flight makes (R65, R66). -/
def storedFrame (fl : InFlight) (samples : Option Samples) (s : State) : Frame :=
  { seq := (s.acq.nextSeq + fl.passed) % 2 ^ 32
    timestamp := fl.timestamp
    samples := samples
    clipped := match samples with
      | none => false
      | some x => [x.s1, x.s2, x.s3, x.s4, x.s5, x.s6].any fun v => v == 0x800000#24 || v == 0x7FFFFF#24
    stepGap := if 0 < fl.passed then some (min 65535 fl.passed) else if fl.setMark then some 0 else none
    marker := s.ccu.markerPending
    heaterEdge := s.acq.edgePending }

/-- The state after storing a frame but for the ring, its cursor, its overrun count and its holds (R65, R66). -/
def afterStoring (frame : Frame) (s : State) : State :=
  { s with
    ccu := { s.ccu with markerPending := false }
    acq := { s.acq with nextSeq := (frame.seq + 1) % 2 ^ 32, edgePending := false, inFlight := none }
    det := { s.det with waiting := s.det.waiting ++ [frame], lastHanded := frame.seq } }

/-- The bytes of an outbound frame (R117, R118). -/
def outboundFrame (address kind index count tag : Nat) (payload : List Byte) : List Byte :=
  let covered := be 2 address ++ be 1 kind ++ be 1 (index * 16 + count) ++ be 1 tag ++ be 1 payload.length ++ payload
  [0x7E, 0xC3] ++ covered ++ be 2 (checkOf covered).toNat

/-- The bit rate of a rate code (R115). -/
def bitRateOf (code : Nat) : Nat :=
  match code with
  | 0 => 1200
  | 1 => 2400
  | 2 => 4800
  | _ => 9600

/-- KEYING begins for the key-up lead with a frame (R117). -/
def keyed (o : AirOrigin) (frame : List Byte) (s : State) : State :=
  s.onLink fun l =>
    { l with tx := .keying frame o (s.pace.cycles + l.cfg.keyLead * 10000) (bitRateOf l.cfg.rateCode) }

/-- The bytes of an inbound frame with a right check (R117, R118). -/
def inboundFrame (f : HeardFrame) : List Byte :=
  let covered := be 2 f.address ++ be 1 f.kind ++ be 1 ((if f.group then 128 else 0) + f.index * 16) ++ be 1 f.tag ++
    be 1 f.payload.length ++ f.payload
  [0x7E, 0xC3] ++ covered ++ be 2 (checkOf covered).toNat

/-- A frame is for the station: individually addressed to it, or to a group whose entry is set (R120). -/
def ForStation (l : Link) (f : HeardFrame) : Prop :=
  if f.group then
    l.groups.getLsbD
      (((BitVec.ofNat 16 f.address ^^^ (BitVec.ofNat 16 f.address >>> 6) ^^^ (BitVec.ofNat 16 f.address >>> 12)) &&& 63).toNat) =
      true
  else f.address = l.cfg.address

/-- A frame whose fields fit their bytes, for the station and of the form of its kind (R117, R120). -/
def Accepted (l : Link) (f : HeardFrame) : Prop :=
  f.address < 2 ^ 16 ∧ f.index < 8 ∧ f.tag < 256 ∧ f.payload.length ≤ 32 ∧ ForStation l f ∧
    ((f.kind = 0x11 ∧ f.payload = []) ∨ (f.kind = 0x12 ∧ f.payload = []) ∨ (f.kind = 0x13 ∧ f.payload.length = 2) ∨
      (f.kind = 0x14 ∧ f.payload.length = 2) ∨ (f.kind = 0x15 ∧ f.payload ≠ []))

/-! ### Notices -/

/-- The start of a slot is allowed: its class is permitted, its energy floor is met, and in CRITICAL it is ALARM (R128, R138,
R171). -/
def StartAllowed (n : Nat) (s : State) : Prop :=
  match (slotAt n s).cls with
  | .alarm => s.link.state = .clear ∨ s.link.state = .strained
  | .urgent => (s.link.state = .clear ∨ s.link.state = .strained) ∧ s.link.pause = none ∧
      s.pw.act.urgentFloor ≤ s.pw.soc ∧ s.pw.level ≠ some .critical
  | .routine => s.link.state = .clear ∧ s.link.pause = none ∧ s.link.quiet = none ∧
      s.pw.act.routineFloor ≤ s.pw.soc ∧ s.pw.level ≠ some .critical

/-- A class lies above the top stack entry's, if there is one (R139, R144). -/
def AboveStack (c : NoticeClass) (s : State) : Prop := ∀ e, s.nt.stack.getLast? = some e → e.cls.code < c.code

/-- A candidate of R139: a WAITING slot whose start is allowed and whose class lies above the top stack entry's. -/
def MayStart (n : Nat) (s : State) : Prop :=
  n < 12 ∧ (slotAt n s).state = .waiting ∧ StartAllowed n s ∧ AboveStack (slotAt n s).cls s

/-- A notice is open: a segment of it has been acknowledged, it has no final state and is not PREEMPTED (R139). -/
def NoticeOpen (n : Nat) (s : State) : Prop :=
  n < 12 ∧ 0 < (slotAt n s).nextSegment ∧
    ((slotAt n s).state = .waiting ∨ (slotAt n s).state = .sending ∨ (slotAt n s).state = .awaitAck ∨
      (slotAt n s).state = .backoff)

/-- What a decision does (R121 to R123, R125): the window closes; a segment's slot takes the outcome and the send count
moves, or the probe has been acknowledged or has failed. -/
def windowDecided (w : AckWindow) (acked : Bool) (s : State) : State :=
  let closed := { s with link := { s.link with window := none } }
  match w.origin with
  | .segment n => if acked then countSendSuccess (slotAcked n closed) else countSendFailure (slotFailed n closed)
  | .probe => if acked then probeAcked closed else probeFailed closed
  | .reply _ => closed

/-! ### Bounds that every step keeps -/

/-- F stays within ±(10^11 − 1) (R2). -/
def FractionOk (s : State) : Prop := -fractionTick < s.tb.f ∧ s.tb.f < fractionTick

/-- Q stays within 0 and Qmax, and SoC within 0 and 1000 ‰; Cap acts as soon as it is written (R157, R158). -/
def AccountOk (s : State) : Prop := s.pw.q ≤ qmax s.pw.act.cap ∧ s.pw.soc ≤ 1000 ∧ s.pw.act.cap = s.pw.cfg.cap

/-- A rights table in which at most one port holds DRAIN and some port holds CONFIGURE (R191). -/
def RightsOk (r : PerPort Rights) : Prop :=
  ¬(r.a.drain = true ∧ r.b.drain = true) ∧ ¬(r.a.drain = true ∧ r.c.drain = true) ∧
    ¬(r.b.drain = true ∧ r.c.drain = true) ∧ (r.a.configure = true ∨ r.b.configure = true ∨ r.c.configure = true)

/-- The rights in force, those of the stored image and those of a save that runs are all such tables (R191, R193,
R194). -/
def AllRightsOk (s : State) : Prop :=
  RightsOk (s.ports.map fun p => p.rights) ∧
    (∀ im, s.store.image = some im → RightsOk im.rights) ∧ (∀ sv, s.store.save = some sv → RightsOk sv.copy.rights)

/-- The sizes of the ring, the hold list, the Event Table, the reply queue, the slot table and the temperature table (R53,
R65, R70, R102, R130, section 8.1); the preemption stack's is StackOk's. -/
def CapacityOk (s : State) : Prop :=
  s.acq.ring.length ≤ 8192 ∧ s.acq.holds.length ≤ 4 ∧ s.ev.records.length ≤ 32 ∧ s.link.replies.length ≤ 4 ∧
    s.nt.slots.length = 12 ∧ s.disc.bins.length = 16 ∧
    (∀ im, s.store.image = some im → im.bins.length = 16) ∧
    (∀ sv, s.store.save = some sv → sv.copy.bins.length = 16)

/-- The preemption stack holds at most two entries, in strictly increasing order of class from the bottom, no ALARM among
them; the slots they name differ, and a slot is PREEMPTED exactly when an entry names it (R144). The segment that is being
sent is a SENDING slot's, and that of an open ack window an AWAIT_ACK slot's (R117, R121, R140). -/
def StackOk (s : State) : Prop :=
  s.nt.slots.length = 12 ∧ s.nt.stack.length ≤ 2 ∧
    (s.nt.stack.Pairwise fun below above => below.cls.code < above.cls.code ∧ below.slot ≠ above.slot) ∧
    (∀ e ∈ s.nt.stack, e.cls ≠ .alarm) ∧
    (∀ n, (slotAt n s).state = .preempted ↔ ∃ e ∈ s.nt.stack, e.slot = n) ∧
    (∀ n frame leadEnd rate, s.link.tx = .keying frame (.segment n) leadEnd rate → (slotAt n s).state = .sending) ∧
    (∀ n frame start rate, s.link.tx = .onAir frame (.segment n) start rate → (slotAt n s).state = .sending) ∧
    (∀ w n, s.link.window = some w → w.origin = .segment n → (slotAt n s).state = .awaitAck) ∧
    (s.link.tx ≠ .idle → s.link.window = none)

/-- A load is ON only if the present level's allowance table permits it (R167). -/
def LoadsAllowed (s : State) : Prop := ∀ l, (s.pw.loads.get l).on = true → allowedLoad l s = true

/-- Caps that a heater can be given: none above 64. -/
def HeaterLimits.bounded (c : HeaterLimits) : Prop := (∀ h l, (c.caps.get h).get l ≤ 64) ∧ c.sourceCap ≤ 64

/-- While RESET is held no level is set (R195). The Heater Controller works with the Power Controller's level, and each
heater's duties lie at or below the cap in force, which the level or the source heating gives (R177, R178). -/
def HeaterOk (s : State) : Prop :=
  (s.pace.held = true → s.pw.level = none) ∧ s.ht.level = s.pw.level ∧ s.ht.limits.bounded ∧
    (∀ im, s.store.image = some im → im.heaterLimits.bounded) ∧
    (∀ sv, s.store.save = some sv → sv.copy.heaterLimits.bounded) ∧
    ∀ h, (thermostatOf h s).cap = capFor h s.ht ∧ (thermostatOf h s).computed ≤ (thermostatOf h s).cap ∧
      (pairedOf h s).duty ≤ (thermostatOf h s).cap ∧
      ∀ d, (pairedOf h s).pendingDuty = some d → d ≤ (thermostatOf h s).cap

end Sys2Proof.Machine
end

