-- ==== Sys2Proof/Certificates/Slice0/Obligations.lean ====
section
/-! DEFINITION. The statements for the provers. Each docstring names the rules of the manual that the statement formalises, and a log
entry of notes/assumptions where a clause is the model's choice. A statement about a command gives the next state and
with it everything the command leaves alone: `settle` is what the end of a step forms again (SettleChangesOnly). -/

open Sys2Proof Sys2Proof.Machine

/-! ### Steps and requests (chapter 11) -/

/-- One step takes the command at the front of the queue and runs it on the state with the rest of the queue.

On an empty queue the block idles. The model's choice (notes/assumptions/10.md). -/
def Obligations.StepsTakeTheQueueInOrder : Prop :=
  (∀ (c : Instr) (rest : List Instr) (s : State), s.pending = c :: rest → step s = exec c { s with pending := rest }) ∧
  (∀ s : State, s.pending = [] → step s = .next s)

/-- Every command answers a next state in every state, and leaves the waiting commands alone.

While RESET is held low nothing happens but a reset and its release (R4, R195). -/
def Obligations.CommandsAnswerAndResetHolds : Prop :=
  (∀ (c : Instr) (s : State), ∃ t, exec c s = .next t ∧ t.pending = s.pending) ∧
  (∀ (c : Instr) (s : State), s.pace.held = true → (∀ cause, c ≠ .coldReset cause) → c ≠ .resetRelease →
    exec c s = .next s)

/-- Forming the state again at the end of a step ends a last-gasp wait that is over, forms LINK's request for RADIO and
then each of the six loads, in rounds, and counts the energy holds (endGasp: LastGaspLeadsToDormant; formRadioRequest and
countEnergyHolds: RadioIsAskedForAndListenedTo; formLoad: LoadsFollowTheirRequests). It changes nothing that `State.kept`
holds, and a reply only where it resets port A or B (R115, R138, R165, R167, R170). Four rounds and the order within a
round are the model's choice (notes/assumptions/29.md, notes/assumptions/5.md). -/
def Obligations.SettleChangesOnly : Prop :=
  ∀ s : State, (settle s).kept = s.kept ∧
    (∀ p, ((settle s).ports.get p).reply = (s.ports.get p).reply ∨ (p ≠ .c ∧ ((settle s).ports.get p).reply = .none)) ∧
    let loads (x : State) : State :=
      formLoad .aux (formLoad .radio (formLoad .telemetry (formLoad .recorder (formLoad .gnss (formLoad .sensor x)))))
    let round (x : State) : State := loads (formRadioRequest (endGasp x))
    settle s = countEnergyHolds (round (round (round (round s))))

/-- A request on a port without the right the catalogue names is answered DENIED without data, and the command does not
run (R188, item 4).

An argument length that a command's rule does not provide for is answered OUT_OF_RANGE, and the command does not act
(R188, item 5, and the rule of each command). That a SAVE_SETTINGS with argument bytes is OUT_OF_RANGE also while a save
runs or waits is the model's choice (notes/assumptions/59.md). -/
def Obligations.RefusalsBeforeTheCommand : Prop :=
  (∀ (c : Instr) (q : Request) (s : State), requestOf c = some q → s.pace.held = false →
    (s.ports.get q.port).rights.has q.right = false →
    exec c s = .next (s.answered q.port q.tag .denied [])) ∧
  ((∀ x ∈ ([(.getStatus, .read, 0), (.getNotifications, .read, 0), (.setNotifyMask, .read, 2), (.getRights, .read, 0),
      (.setRights, .configure, 2), (.saveSettings, .configure, 0), (.resetPart, .configure, 0), (.getTime, .read, 0),
      (.getTimeStatus, .read, 0), (.setTime, .configure, 12), (.resetTime, .configure, 0), (.getChannel, .read, 1),
      (.getMarker, .read, 0), (.getDiscipline, .read, 0), (.setDiscipline, .configure, 43), (.readTempBins, .read, 2),
      (.drainSamples, .drain, 1), (.getRing, .read, 0), (.setAcquisition, .configure, 3), (.getDetector, .read, 0),
      (.getDetectorChannel, .read, 1), (.setDetector, .configure, 16), (.setDetectorChannel, .configure, 11),
      (.listEvents, .read, 0), (.getEvent, .read, 4), (.ackEvents, .read, 4), (.getEventTable, .read, 0),
      (.setEventTable, .configure, 1), (.getLink, .read, 0), (.getLinkSettings, .read, 0), (.setLink, .configure, 15),
      (.setGroups, .configure, 8), (.getSlot, .read, 1), (.getNoticeTable, .read, 0), (.releaseNotice, .control, 1),
      (.abortNotice, .control, 1), (.freeSlot, .control, 1), (.setNotices, .configure, 4), (.getPower, .read, 0),
      (.getLoad, .read, 1), (.setCeiling, .control, 1), (.requestLoad, .control, 3), (.releaseLoad, .control, 1),
      (.setPower, .configure, 35), (.getHeater, .read, 1), (.getHeaterLimits, .read, 0), (.setHeater, .configure, 5),
      (.setHeaterLimits, .configure, 13)] : List ((Port → Byte → List Byte → Instr) × Right × Nat)),
    ∀ p tag args s, args.length ≠ x.2.2 → Admits p x.2.1 s →
      exec (x.1 p tag args) s = .next (s.answered p tag .outOfRange [])) ∧
  (∀ p tag args s, (∀ n, 1 ≤ n → n ≤ 8 → args.length ≠ 1 + 5 * n) → Admits p .configure s →
    exec (.loadTempBins p tag args) s = .next (s.answered p tag .outOfRange [])) ∧
  (∀ p tag args s, args.length < 3 ∨ 64 < args.length → Admits p .control s →
    exec (.queueNotice p tag args) s = .next (s.answered p tag .outOfRange [])) ∧
  (∀ p tag args s, args.length < 2 ∨ 64 < args.length → Admits p .control s →
    exec (.appendNotice p tag args) s = .next (s.answered p tag .outOfRange [])) ∧
  (∀ p tag args s, args.length < 8 ∨ 63 < args.length → Admits p .control s →
    exec (.setResponder p tag args) s = .next (s.answered p tag .outOfRange [])))

/-- A port's transaction is the command its bytes spell: a read from kind 0x02, a framing error without a whole kind byte 0x01
or 0x02, and a write from kind 0x01, which is taken in the order length, check, code: each code of the catalogue is its
command, which needs the right the catalogue names, with the tag and the declared arguments, and bytes after the check are
ignored. The command waits behind those that came before it, and its operands are in their ranges (R187; R188, items 1 to
4). That a transaction comes as one command is the model's choice (notes/assumptions/14.md).

The transactions that run no command: a framing error is counted, a request that breaks its length, its check or the
catalogue is answered without data, and a wrong check is counted (R187; R188, items 1 to 3).

A read sends the ready reply and 0x00 beyond its end; reaching the last check byte takes the reply, a shorter read
leaves it; without a ready reply a NOT_READY reply is sent and nothing else changes. SDO sends what a port's record names
for the last transaction, 0x00 beyond it, and 0x00 while RESET is held (R187, R189, R195). -/
def Obligations.TransactionsAreAnswered : Prop :=
  (let table : List (Byte × (Port → Byte → List Byte → Instr) × Right) :=
    [(0x01, .getStatus, .read), (0x02, .getNotifications, .read), (0x03, .setNotifyMask, .read),
     (0x04, .getRights, .read), (0x05, .setRights, .configure), (0x06, .saveSettings, .configure),
     (0x07, .resetPart, .configure), (0x10, .getTime, .read), (0x11, .getTimeStatus, .read),
     (0x12, .setTime, .configure), (0x13, .resetTime, .configure), (0x20, .getChannel, .read),
     (0x21, .getMarker, .read), (0x30, .getDiscipline, .read), (0x31, .setDiscipline, .configure),
     (0x32, .readTempBins, .read), (0x33, .loadTempBins, .configure), (0x40, .drainSamples, .drain),
     (0x41, .getRing, .read), (0x42, .setAcquisition, .configure), (0x50, .getDetector, .read),
     (0x51, .getDetectorChannel, .read), (0x52, .setDetector, .configure), (0x53, .setDetectorChannel, .configure),
     (0x60, .listEvents, .read), (0x61, .getEvent, .read), (0x62, .ackEvents, .read), (0x63, .getEventTable, .read),
     (0x64, .setEventTable, .configure), (0x70, .getLink, .read), (0x71, .getLinkSettings, .read),
     (0x72, .setLink, .configure), (0x73, .setGroups, .configure), (0x80, .getSlot, .read),
     (0x81, .getNoticeTable, .read), (0x82, .queueNotice, .control), (0x83, .appendNotice, .control),
     (0x84, .releaseNotice, .control), (0x85, .abortNotice, .control), (0x86, .freeSlot, .control),
     (0x87, .setResponder, .control), (0x88, .setNotices, .configure), (0x90, .getPower, .read),
     (0x91, .getLoad, .read), (0x92, .setCeiling, .control), (0x93, .requestLoad, .control),
     (0x94, .releaseLoad, .control), (0x95, .setPower, .configure), (0xA0, .getHeater, .read),
     (0xA1, .getHeaterLimits, .read), (0xA2, .setHeater, .configure), (0xA3, .setHeaterLimits, .configure)]
  (∀ row ∈ table, ∀ p tag (args rest : List Byte),
    let counted := row.1 :: tag :: BitVec.ofNat 8 args.length :: args
    requestOf (row.2.1 p tag args) = some ⟨p, tag, args, row.2.2⟩ ∧
    (args.length ≤ 64 →
      transactionCommand p (0x01 :: counted ++ be 2 (checkOf counted).toNat ++ rest) = row.2.1 p tag args)) ∧
  catalogueCodes = table.map (fun row => row.1.toNat) ∧
  (∀ p code tag (args rest : List Byte), args.length ≤ 64 → code ∉ table.map (fun row => row.1) →
    let counted := code :: tag :: BitVec.ofNat 8 args.length :: args
    transactionCommand p (0x01 :: counted ++ be 2 (checkOf counted).toNat ++ rest) = .unknownCommand p code tag args) ∧
  (∀ p (bytes : List Byte),
    bytes.length < 3 ∨ 64 < (bytes.getD 2 0).toNat ∨ bytes.length < (bytes.getD 2 0).toNat + 5 →
    transactionCommand p (0x01 :: bytes) = .requestBadLengthOrCheck p bytes) ∧
  (∀ p code tag (args wrong rest : List Byte), args.length ≤ 64 →
    let counted := code :: tag :: BitVec.ofNat 8 args.length :: args
    wrong.length = 2 → natOf wrong ≠ (checkOf counted).toNat →
    transactionCommand p (0x01 :: counted ++ wrong ++ rest) = .requestBadLengthOrCheck p (counted ++ wrong ++ rest)) ∧
  (∀ p (bytes : List Byte), transactionCommand p (0x02 :: bytes) = .replyRead p bytes.length) ∧
  (∀ p first (bytes : List Byte), first ≠ 0x01 → first ≠ 0x02 →
    transactionCommand p (first :: bytes) = .framingError p (some first)) ∧
  (∀ p, transactionCommand p [] = .framingError p none) ∧
  (∀ p (bytes : List Byte), (transactionCommand p bytes).wellFormed = true) ∧
  (∀ p (bytes : List Byte) (s : State),
    s.endTransaction p bytes = { s with pending := s.pending ++ [transactionCommand p bytes] })) ∧
  ((∀ p first (s : State), s.pace.held = false → first ≠ some 0x01 → first ≠ some 0x02 →
    exec (.framingError p first) s =
      .next (s.onPort p fun r => { r with framing := min 65535 (r.framing + 1), sdo := [] })) ∧
  (∀ p bytes (s : State), s.pace.held = false →
    bytes.length < 3 ∨ 64 < (bytes.getD 2 0).toNat ∨ bytes.length < (bytes.getD 2 0).toNat + 5 →
    exec (.requestBadLengthOrCheck p bytes) s =
      .next (s.onPort p (PortRec.answered .badLength (bytes.getD 1 0) []))) ∧
  (∀ p code tag args (rest : List Byte) wrong (s : State), s.pace.held = false → args.length ≤ 64 →
    let counted := code :: tag :: BitVec.ofNat 8 args.length :: args
    wrong.length = 2 → natOf wrong ≠ (checkOf counted).toNat →
    exec (.requestBadLengthOrCheck p (counted ++ wrong ++ rest)) s =
      .next (s.onPort p fun r =>
        { r.answered .badCheck tag [] with badChecks := min 65535 (r.badChecks + 1) })) ∧
  (∀ p code tag args (s : State), s.pace.held = false → code.toNat ∉ catalogueCodes →
    exec (.unknownCommand p code tag args) s = .next (s.answered p tag .badCommand []))) ∧
  ((∀ p n bytes (s : State), s.pace.held = false → (s.ports.get p).reply = .ready bytes → bytes.length ≤ n →
    exec (.replyRead p n) s = .next (s.onPort p fun r => { r with reply := .none, sdo := bytes })) ∧
  (∀ p n bytes (s : State), s.pace.held = false → (s.ports.get p).reply = .ready bytes → n < bytes.length →
    exec (.replyRead p n) s = .next (s.onPort p fun r => { r with sdo := bytes.take n })) ∧
  (∀ p n (s : State), s.pace.held = false → (∀ bytes, (s.ports.get p).reply ≠ .ready bytes) →
    exec (.replyRead p n) s =
      .next (s.onPort p fun r =>
        { r with sdo := ([10, 0, 0] ++ be 2 (checkOf [10, 0, 0]).toNat).take n })) ∧
  (∀ p k (s : State), (s.pace.held = true → sdoByte p k s = 0) ∧
    (s.pace.held = false → (∀ b, (s.ports.get p).sdo[k]? = some b → sdoByte p k s = b) ∧
      ((s.ports.get p).sdo.length ≤ k → sdoByte p k s = 0))))

/-- GET_STATUS, GET_NOTIFICATIONS, SET_NOTIFY_MASK and GET_RIGHTS (R191, R192, R194).

SET_RIGHTS replaces the named port's rights, takes DRAIN from the other ports when the set grants it, and is refused
where no port would hold CONFIGURE, or for a port code above 2 or a bit above bit 3 (R191).

SAVE_SETTINGS starts a save of the image as it stands, with its reply in preparation, and without argument bytes is
BUSY while a save runs or waits (with them it is OUT_OF_RANGE, notes/assumptions/59.md); at its end the image is valid,
STORE_INVALID clears and the reply becomes ready; a waiting automatic save then starts with a fresh copy (R189, R193).
That the start of a save, also of a waiting one, leaves STORE_INVALID as it stood is the model's choice
(notes/assumptions/32.md). -/
def Obligations.RightsMasksAndSaves : Prop :=
  (∀ p tag (s : State), Admits p .read s →
    exec (.getStatus p tag []) s =
      .next (s.answered p tag .ok
        (flagsByte [s.store.invalid, s.store.save.isSome, s.store.autoWaiting] ++
          be 1 (match s.pace.lastReset with | .powerOn => 0 | .resetLine => 1 | .resetPart => 2) ++
          flagsByte [(s.ports.get p).rights.read, (s.ports.get p).rights.control, (s.ports.get p).rights.configure,
            (s.ports.get p).rights.drain] ++
          be 2 (s.ports.get p).notices.toNat ++ be 2 (s.ports.get p).mask.toNat ++
          be 2 (s.ports.get p).countedDiscards ++ be 2 (s.ports.get p).badChecks ++ be 2 (s.ports.get p).framing ++
          be 4 (min 4294967295 s.pace.seconds))) ∧
    exec (.getNotifications p tag []) s =
      .next ((s.onPort p fun r => { r with notices := 0 }).answered p tag .ok
        (be 2 (s.ports.get p).notices.toNat ++ be 2 (s.ports.get p).mask.toNat)) ∧
    (∀ hi lo : Byte, hi.toNat ≤ 1 →
      exec (.setNotifyMask p tag [hi, lo]) s =
        .next ((s.onPort p fun r => { r with mask := hi ++ lo }).answered p tag .ok [])) ∧
    (∀ hi lo : Byte, 1 < hi.toNat →
      exec (.setNotifyMask p tag [hi, lo]) s = .next (s.answered p tag .outOfRange [])) ∧
    exec (.getRights p tag []) s =
      .next (s.answered p tag .ok
        ([s.ports.a.rights, s.ports.b.rights, s.ports.c.rights].flatMap fun r =>
          flagsByte [r.read, r.control, r.configure, r.drain]))) ∧
  (∀ p tag (code bits : Byte) (s : State), Admits p .configure s →
    (2 < code.toNat ∨ 15 < bits.toNat →
      exec (.setRights p tag [code, bits]) s = .next (s.answered p tag .outOfRange [])) ∧
    (∀ target, code.toNat = (match target with | .a => 0 | .b => 1 | .c => 2) → bits.toNat ≤ 15 →
      let new : Rights :=
        { read := bits.getLsbD 0, control := bits.getLsbD 1, configure := bits.getLsbD 2, drain := bits.getLsbD 3 }
      let after (q : Port) : Rights :=
        if q = target then new
        else { (s.ports.get q).rights with drain := (s.ports.get q).rights.drain && !new.drain }
      ((∃ q, (after q).configure = true) →
        exec (.setRights p tag [code, bits]) s =
          .next ((s.onPorts fun ps =>
              ⟨{ ps.a with rights := after .a }, { ps.b with rights := after .b }, { ps.c with rights := after .c }⟩).answered
            p tag .ok ((after .a).byte ++ (after .b).byte ++ (after .c).byte))) ∧
      ((∀ q, (after q).configure = false) →
        exec (.setRights p tag [code, bits]) s = .next (s.answered p tag .denied [])))) ∧
  ((∀ p tag (s : State), Admits p .configure s → s.store.save = none → s.store.autoWaiting = false →
    exec (.saveSettings p tag []) s =
      .next ((s.taking p tag).onStore fun st =>
        { st with image := none, save := some { copy := imageOf s, finish := s.pace.cycles + 2500000, automatic := false,
                                                replyTo := some p } })) ∧
  (∀ p tag (s : State), Admits p .configure s → s.store.save ≠ none ∨ s.store.autoWaiting = true →
    exec (.saveSettings p tag []) s = .next (s.answered p tag .busy [])) ∧
  (∀ sv (s : State), s.pace.held = false → s.store.save = some sv → sv.finish ≤ s.pace.cycles →
    ∃ t, exec .saveComplete s = .next t ∧
      (s.store.autoWaiting = false →
        t.store = { image := some sv.copy, invalid := false, save := none, autoWaiting := false }) ∧
      (s.store.autoWaiting = true →
        t.store = { image := none, invalid := false, autoWaiting := false,
                    save := some { copy := imageOf s, finish := s.pace.cycles + 2500000, automatic := true,
                                   replyTo := none } }) ∧
      (∀ p, t.ports.get p =
        match sv.replyTo == some p, (s.ports.get p).reply with
        | true, .preparing tag => { s.ports.get p with reply := .ready (replyFrame .ok tag []) }
        | _, _ => s.ports.get p) ∧
      { t with store := s.store, ports := s.ports } = s))

/-- RESET_PART takes every block to its warm-reset values, keeps what the tables of R17, R37, R60, R76, R99, R114, R132,
R154, R174, R186 and R196 keep, forms LINK's request again, and answers OK on its port. A heater without a hold keeps its
paired channel and its thermostat but for the deferral, and without a held edge the pending edge mark and the last edge
are cleared. The model's choices: the release of a heater's held edge with the quiet report sets the mark and the last
edge again (notes/assumptions/5.md), the frames that wait for the Detector are taken away (notes/assumptions/28.md), the
reply is formed after the reset (notes/assumptions/27.md), and a LOAD_CHANGED of what is formed again stays in the sets
(notes/assumptions/44.md). That the link is OFF after a reset before the first level is the model's choice
(notes/assumptions/56.md). -/
def Obligations.ResetPartTakesWarmResetValues : Prop :=
  ∀ p tag (s : State), Admits p .configure s →
    ∃ x, exec (.resetPart p tag []) s =
        .next ((settle x).onPort p fun r => { r with reply := .ready (replyFrame .ok tag []) }) ∧
      x.pace = { s.pace with lastReset := .resetPart } ∧
      x.tb = { s.tb with ppsSeen := ⟨false, false, false⟩, routineRef := none, urgentRef := none } ∧
      x.ccu = { s.ccu with
        ch1 := { s.ccu.ch1 with unread := false, overwrites := 0 }
        ch4 := if s.ccu.ch4.mode = .off then s.ccu.ch4
               else { mode := .repeating, period := s.acq.cfg.rate.period, phase := 0, next := nextSecond s.tb.now,
                      waiting := none, skipped := 0 }
        heaters := x.ccu.heaters } ∧
      x.disc = { s.disc with label := [], pointer := 0 } ∧
      x.acq = { Acquisition.cold with
        state := s.acq.state, settleCount := s.acq.settleCount, settleDue := s.acq.settleDue, cfg := s.acq.cfg
        edgePending := x.acq.edgePending } ∧
      x.det = { Detector.cold with
        params := s.det.params, cfg := s.det.cfg, lastEdge := x.det.lastEdge
        channels := s.det.params.map fun _ c => Channel.fresh
          (if c.enabled ∧ (c.critical ∨ (s.pw.level ≠ some .critical ∧ s.pw.level ≠ some .dormant)) then .warmup
           else .off) } ∧
      x.ev = { EventTable.cold with unreadProtection := s.ev.unreadProtection } ∧
      x.link = { Link.cold with
        state := match s.pw.level with | none => .off | some .dormant => .off | some _ => .clear
        worst := match s.pw.level with
          | none => ⟨.off, .off, .off⟩
          | some .dormant => ⟨.off, .off, .off⟩
          | some _ => ⟨.clear, .clear, .clear⟩
        warm := s.link.warm, warmAt := s.link.warmAt, restPeriod := s.link.cfg.rest, listenAsk := s.link.listenAsk
        cfg := s.link.cfg, groups := s.link.groups } ∧
      x.nt = { NoticeTable.cold with cfg := s.nt.cfg } ∧
      x.pw = { s.pw with
        survivalRef := none, criticalRef := none, coldRef := none, gaspRef := none, gaspEnded := false } ∧
      x.ht = { s.ht with quiet := false, units := x.ht.units } ∧
      (∀ h, (x.ht.units.get h).deferral = .none ∧ (x.ht.units.get h).cap = (s.ht.units.get h).cap ∧
        (x.ht.units.get h).computed = (s.ht.units.get h).computed ∧
        (x.ht.units.get h).cfg = (s.ht.units.get h).cfg ∧ (x.ccu.heaters.get h).hold = false ∧
        (x.ccu.heaters.get h).cmp = (s.ccu.heaters.get h).cmp ∧
        (x.ccu.heaters.get h).duty = (s.ccu.heaters.get h).duty) ∧
      (∀ h, (s.ccu.heaters.get h).hold = false → x.ccu.heaters.get h = s.ccu.heaters.get h ∧
        x.ht.units.get h = { s.ht.units.get h with deferral := .none }) ∧
      (∀ h, (s.ccu.heaters.get h).hold = true →
        let free : State := { s with
          ccu := { s.ccu with heaters := s.ccu.heaters.update h fun c => { c with hold := false } }
          ht := { s.ht with units := s.ht.units.update h fun u => { u with deferral := .none } } }
        let released := driveOutput h ((s.ccu.heaters.get h).level s.tb.now) s.tb.now false free
        x.ccu.heaters.get h = released.ccu.heaters.get h ∧ x.ht.units.get h = released.ht.units.get h) ∧
      ((∀ h, (s.ccu.heaters.get h).hold = true →
          (s.ccu.heaters.get h).level s.tb.now = (s.ccu.heaters.get h).output) →
        x.acq.edgePending = false ∧ x.det.lastEdge = none) ∧
      (∀ h, (s.ccu.heaters.get h).hold = true →
          (s.ccu.heaters.get h).level s.tb.now ≠ (s.ccu.heaters.get h).output →
        x.acq.edgePending = true ∧ x.det.lastEdge = some s.tb.now) ∧
      (∀ q, x.ports.get q =
        { s.ports.get q with
          transaction := .none, reply := .none, notices := 0, discarded := 0, badChecks := 0, framing := 0
          sdo := if q = p then [] else (s.ports.get q).sdo }) ∧
      x.store = { s.store with save := s.store.save.map fun sv => { sv with replyTo := none } }

/-- A cold reset holds every block at its cold-reset values; only the image and the commands that wait outlive it, and a
save that runs leaves no valid image. The release restores a valid image item by item with Cfreq and Q clamped and
UNVERIFIED set, or sets STORE_INVALID, and counting begins (R193, R194, R195). That a release of a line already released
leaves the state is the model's choice (notes/assumptions/7.md). -/
def Obligations.ColdResetAndRelease : Prop :=
  (∀ cause (s : State),
    exec (.coldReset cause) s =
      .next { State.reset with
        pending := s.pending
        pace := { State.reset.pace with
          held := true, lastReset := match cause with | .powerOn => .powerOn | .resetLine => .resetLine }
        store := { image := if s.store.save.isSome then none else s.store.image
                   invalid := (if s.store.save.isSome then none else s.store.image).isNone
                   save := none, autoWaiting := false } }) ∧
  (∀ s : State, s.pace.held = true → s.store.image = none →
    exec .resetRelease s =
      .next { s with pace := { s.pace with held := false }, store := { s.store with invalid := true } }) ∧
  (∀ im (s : State), s.pace.held = true → s.store.image = some im →
    exec .resetRelease s =
      .next { s with
        pace := { s.pace with held := false }
        store := { s.store with invalid := false }
        tb := { s.tb with cfreq := max (-5000000) (min 5000000 im.cfreq) }
        disc := { s.disc with cfg := im.discipline, bins := im.bins }
        acq := { s.acq with cfg := im.acquisition }
        det := { s.det with
          cfg := im.detector, params := im.channels
          channels := im.channels.map fun _ c => Channel.fresh (if c.enabled then .warmup else .off) }
        ev := { s.ev with unreadProtection := im.unreadProtection }
        link := { s.link with cfg := im.link, groups := im.groups, restPeriod := im.link.rest }
        nt := { s.nt with cfg := im.notices }
        pw := { s.pw with cfg := im.power, act := im.power, ceiling := im.ceiling
                          q := min im.q (im.power.cap * 36000), unverified := true }
        ht := { s.ht with
          units := ⟨{ s.ht.units.hb with cfg := im.heaters.hb }, { s.ht.units.ho with cfg := im.heaters.ho }⟩
          limits := im.heaterLimits }
        ports := ⟨{ s.ports.a with mask := im.masks.a, rights := im.rights.a },
                  { s.ports.b with mask := im.masks.b, rights := im.rights.b },
                  { s.ports.c with mask := im.masks.c, rights := im.rights.c }⟩ }) ∧
  (∀ s : State, s.pace.held = false → exec .resetRelease s = .next s)

/-! ### Station time (chapter 1) -/

/-- Each oscillator cycle adds the rate to F and 0, 1 or 2 ticks to station time, and over a run of n cycles the ticks
added are n plus (F at the start + n × C − F at the end) / 10^11, with F inside its bounds after every cycle (R2). -/
def Obligations.OscillatorCyclesKeepTime : Prop :=
  (∀ s : State, s.pace.held = false →
    exec .oscillatorCycle s =
      .next { s with
        pace := { s.pace with cycles := s.pace.cycles + 1 }
        tb :=
          if 10 ^ 11 ≤ s.tb.f + rateOf s.tb then
            { s.tb with f := s.tb.f + rateOf s.tb - 10 ^ 11, now := (s.tb.now + 2) % (2 ^ 40 * 10000000) }
          else if s.tb.f + rateOf s.tb ≤ -10 ^ 11 then { s.tb with f := s.tb.f + rateOf s.tb + 10 ^ 11 }
          else { s.tb with f := s.tb.f + rateOf s.tb, now := (s.tb.now + 1) % (2 ^ 40 * 10000000) } }) ∧
  (∀ (n : Nat) (s : State), s.pace.held = false → FractionOk s → s.tb.now + 2 * n < 2 ^ 40 * 10000000 →
    ∃ t, core.run n { s with pending := List.replicate n .oscillatorCycle } = .next t ∧
      FractionOk t ∧ (t.tb.now : Int) * 10 ^ 11 + t.tb.f = (s.tb.now + n) * 10 ^ 11 + s.tb.f + n * rateOf s.tb)

/-- GET_TIME returns station time, state and uncertainty, sampled together, and changes nothing (R7). -/
def Obligations.GetTimeReadsTheTime : Prop :=
  ReadCommand .getTime fun _ s => be 5 (s.tb.now / 10000000) ++ be 3 (s.tb.now % 10000000) ++
    be 1 (match s.tb.state with | .free => 0 | .acquiring => 1 | .locked => 2 | .holdover => 3 | .adrift => 4) ++
    be 4 s.tb.uncertainty

/-- GET_TIME_STATUS returns the time-state record and the rate parts and clears the requesting port's flag (R8).

SET_TIME checks its length, its ticks and its time, in every time state; a taken one steps forward, sets the
uncertainty and enters ADRIFT (R11, R12, R33): a forward step, the uncertainty set and the change of state, with what each of
them brings. That Ctemp is cleared on leaving HOLDOVER is R50's (notes/assumptions/26.md).

RESET_TIME returns the time state to FREE, keeps station time and Cfreq, clears the other rate parts and requests no
notice (R13, R50).

A change of the time state records its entry, clears Ctemp on leaving HOLDOVER, starts both runs over, tells
TIME_STATE to every port, and in FREE clears the conflicts and the held P; without a change nothing happens. An entry to
ADRIFT asks for a ROUTINE TIME notice, a label conflict for an URGENT one: while the slot of the class's last notice
lives, nothing is asked for, and else the slot taken is kept as the reference, none where the request meets NO_SLOT. The
entry to ADRIFT at a label conflict asks for no ROUTINE notice (R5, R12, R14, R15, R50). That Ctemp is cleared on leaving
HOLDOVER also at a SET_TIME is the model's choice (notes/assumptions/26.md). -/
def Obligations.TimeIsReadSetAndReset : Prop :=
  (∀ p tag (s : State), Admits p .read s →
    exec (.getTimeStatus p tag []) s =
      .next ((s.onTb fun tb => { tb with ppsSeen := tb.ppsSeen.update p fun _ => false }).answered p tag .ok
        (be 1 (match s.tb.state with | .free => 0 | .acquiring => 1 | .locked => 2 | .holdover => 3 | .adrift => 4) ++
          be 1 (if s.tb.ppsSeen.get p then 1 else 0) ++ be 4 s.tb.uncertainty ++ beInt 4 (rateOf s.tb) ++
          beInt 4 s.tb.cfreq ++ beInt 4 s.tb.cslew ++ beInt 4 s.tb.ctemp ++ timeBytes s.tb.entry ++
          be 2 s.tb.stepCount ++ timeBytes s.tb.lastStep))) ∧
  (∀ p tag (args : List Byte) (s : State), s.pace.held = false →
    let seconds := natOf (args.take 5)
    let ticks := natOf ((args.drop 5).take 3)
    let t := seconds * 10000000 + ticks
    ((s.ports.get p).rights.configure = false →
      exec (.setTime p tag args) s = .next (s.answered p tag .denied [])) ∧
    (Admits p .configure s → args.length ≠ 12 ∨ 9999999 < ticks →
      exec (.setTime p tag args) s = .next (s.answered p tag .outOfRange [])) ∧
    (Admits p .configure s → args.length = 12 → ticks ≤ 9999999 → t < s.tb.now →
      exec (.setTime p tag args) s = .next (s.answered p tag .timeBackward [])) ∧
    (Admits p .configure s → args.length = 12 → ticks ≤ 9999999 → s.tb.now ≤ t →
      let x := changeTimeState .adrift false
        (setUncertainty (natOf (args.drop 8)) (forwardStep (t - s.tb.now) (s.taking p tag)))
      exec (.setTime p tag args) s = .next ((settle x).replied p tag (timeBytes (t - s.tb.now))) ∧
        x.tb = { s.tb with
          now := t
          stepCount := if t = s.tb.now then s.tb.stepCount else (s.tb.stepCount + 1) % 65536
          lastStep := if t = s.tb.now then s.tb.lastStep else t - s.tb.now
          uncertainty := natOf (args.drop 8)
          state := .adrift
          entry := if s.tb.state = .adrift then s.tb.entry else t
          ctemp := if s.tb.state = .holdover then 0 else s.tb.ctemp
          routineRef := x.tb.routineRef
          urgentRef := x.tb.urgentRef } ∧
        (s.tb.state ≠ .adrift → ∀ q, (x.ports.get q).notices = (s.ports.get q).notices ||| 0x10) ∧
        (s.tb.state = .adrift → ∀ q, (x.ports.get q).notices = (s.ports.get q).notices) ∧
        x.pending = s.pending ∧ x.pace = s.pace ∧ x.store = s.store ∧ x.ev.nextSeq = s.ev.nextSeq ∧
        x.link.kept = s.link.kept ∧ x.pw.kept = s.pw.kept ∧ x.ht.kept = s.ht.kept)) ∧
  (∀ p tag (s : State), Admits p .configure s →
    ∃ x, exec (.resetTime p tag []) s = .next ((settle x).replied p tag []) ∧
      x.tb = { s.tb with
        cslew := 0, ctemp := 0, uncertainty := 4294967295, state := .free
        entry := if s.tb.state = .free then s.tb.entry else s.tb.now } ∧
      x.disc.kept =
        (if s.tb.state = .free then s.disc else { s.disc with conflicts := 0, conflictLatch := false }).kept ∧
      (∀ q, (x.ports.get q).notices =
        if s.tb.state = .free then (s.ports.get q).notices else (s.ports.get q).notices ||| 0x10) ∧
      x.pending = s.pending ∧ x.pace = s.pace ∧ x.ccu = s.ccu ∧ x.acq = s.acq ∧ x.det = s.det ∧ x.ev = s.ev ∧
      x.link = s.link ∧ x.nt = s.nt ∧ x.pw.kept = s.pw.kept ∧ x.ht = s.ht ∧ x.store = s.store) ∧
  ((∀ (urgent : Bool) (s : State),
    let live := if urgent then s.tb.urgentRef else s.tb.routineRef
    let asked := requestNotice
      { kind := .time, cls := if urgent then .urgent else .routine, origin := .timebase, event := none
        reason := .levelEntry } s
    (live ≠ none → timeNotice urgent s = s) ∧
    (live = none → timeNotice urgent s = { asked.1 with tb :=
      if urgent then { asked.1.tb with urgentRef := asked.2 } else { asked.1.tb with routineRef := asked.2 } })) ∧
  (∀ (new : TimeState) (conflict : Bool) (s : State),
    let changed : State := { s with
      tb := { s.tb with
        state := new, entry := s.tb.now, ctemp := if s.tb.state = .holdover then 0 else s.tb.ctemp }
      disc := { s.disc with
        lockRun := 0, unlockRun := 0
        conflicts := if new = .free then 0 else s.disc.conflicts
        conflictLatch := if new = .free then false else s.disc.conflictLatch
        heldP := if new = .free then none else s.disc.heldP }
      ports := s.ports.map fun r => { r with notices := r.notices ||| 0x10 } }
    (s.tb.state = new → changeTimeState new conflict s = s) ∧
    (s.tb.state ≠ new →
      changeTimeState new conflict s =
        if new = .adrift ∧ conflict = false then timeNotice false changed else changed)))

/-! ### Channels (chapter 2) -/

/-- A marker edge is captured with the station time and sets the marker-pending flag; an unread capture it replaces is
counted. GET_MARKER hands over the capture and clears the unread flag and the count, or finds none (R18, R19, R21,
R22).

GET_CHANNEL returns the record of a channel in the form of its kind and changes nothing; a number above 7 is
OUT_OF_RANGE (R36). -/
def Obligations.MarkersAndChannelRecords : Prop :=
  ((∀ s : State, s.pace.held = false →
    exec .markerCapture s =
      .next (s.onCcu fun c => { c with
        ch3 := { last := some s.tb.now, unread := true
                 overwrites := if c.ch3.unread then min 255 (c.ch3.overwrites + 1) else c.ch3.overwrites }
        markerPending := true })) ∧
  (∀ p tag t (s : State), Admits p .read s → s.ccu.ch3.last = some t →
    exec (.getMarker p tag []) s =
      .next ((s.onCcu fun c => { c with ch3 := { c.ch3 with unread := false, overwrites := 0 } }).answered p tag .ok
        (timeBytes t ++ be 1 (if s.ccu.ch3.unread then 1 else 0) ++ be 1 s.ccu.ch3.overwrites))) ∧
  (∀ p tag (s : State), Admits p .read s → s.ccu.ch3.last = none →
    exec (.getMarker p tag []) s = .next (s.answered p tag .notFound []))) ∧
  (∀ p tag (n : Byte) (s : State), Admits p .read s →
    let capture (marker : Bool) (c : Capture) : List Byte :=
      be 1 n.toNat ++ be 1 0 ++ flagsByte [c.last.isSome, c.unread, marker] ++ optTimeBytes c.last ++ be 1 c.overwrites
    let compare (kind : Nat) (dutyPending : Bool) (c : Compare) : List Byte :=
      be 1 n.toNat ++ be 1 kind ++ be 1 (match c.mode with | .off => 0 | .repeating => 1 | .oneShot => 2) ++
        be 4 c.period ++ be 4 c.phase ++ (if c.mode = .off then zeros 8 else timeBytes c.next) ++
        flagsByte [c.waiting.isSome, dutyPending] ++
        be 4 (match c.waiting with | none => 0 | some w => w.period) ++
        be 4 (match c.waiting with | none => 0 | some w => w.phase) ++ be 2 c.skipped
    let paired (c : Paired) : List Byte :=
      compare 2 c.pendingDuty.isSome c.cmp ++ be 1 c.duty ++ be 1 (c.pendingDuty.getD 0) ++
        be 1 (if c.output then 1 else 0) ++ be 1 (if c.hold then 1 else 0) ++
        (if c.cmp.mode = .off then zeros 8 else optTimeBytes c.offMatch)
    exec (.getChannel p tag [n]) s =
      .next (match n.toNat with
        | 0 => s.answered p tag .ok (capture false s.ccu.ch0)
        | 1 => s.answered p tag .ok (capture false s.ccu.ch1)
        | 2 => s.answered p tag .ok (capture false s.ccu.ch2)
        | 3 => s.answered p tag .ok (capture s.ccu.markerPending s.ccu.ch3)
        | 4 => s.answered p tag .ok (compare 1 false s.ccu.ch4)
        | 5 => s.answered p tag .ok (paired s.ccu.heaters.hb)
        | 6 => s.answered p tag .ok (paired s.ccu.heaters.ho)
        | 7 => s.answered p tag .ok (compare 1 false s.ccu.ch7)
        | _ => s.answered p tag .outOfRange []))

/-- COMPARE_MATCH: channel 4 gives one strobe pulse and puts a frame in flight with the match time and a deadline of
80 % of the period, ending a frame still in flight as MISSING; channel 7 fires and in SURVIVAL the listen test is made
(R24, R28, R62, R127). -/
def Obligations.CompareMatchesAreHandedOver : Prop :=
  (∀ s : State, s.pace.held = false → s.ccu.ch4.mode ≠ .off → s.ccu.ch4.next ≤ s.tb.now → s.acq.inFlight = none →
    let ch4 := Compare.afterFiring s.tb.now s.ccu.ch4
    exec (.compareMatch .four) s =
      .next { s with
        ccu := { s.ccu with ch4 := ch4, convPulses := s.ccu.convPulses + 1 }
        acq := { s.acq with inFlight := some {
          timestamp := s.ccu.ch4.next, passed := 0, setMark := false
          deadline := s.ccu.ch4.next + ch4.period * 4 / 5, reading := false } } }) ∧
  (∀ fl (s : State), s.pace.held = false → s.ccu.ch4.mode ≠ .off → s.ccu.ch4.next ≤ s.tb.now →
    s.acq.inFlight = some fl →
    let ch4 := Compare.afterFiring s.tb.now s.ccu.ch4
    exec (.compareMatch .four) s =
      .next ((storeFrame fl none { s with
          ccu := { s.ccu with ch4 := ch4, convPulses := s.ccu.convPulses + 1 }
          acq := { s.acq with
            missing := (s.acq.missing + 1) % 2 ^ 32
            aborted := if fl.reading then min 65535 (s.acq.aborted + 1) else s.acq.aborted } }).onAcq fun a =>
        { a with inFlight := some {
          timestamp := s.ccu.ch4.next, passed := 0, setMark := false
          deadline := s.ccu.ch4.next + ch4.period * 4 / 5, reading := false } })) ∧
  (∀ s : State, s.pace.held = false → s.ccu.ch7.mode ≠ .off → s.ccu.ch7.next ≤ s.tb.now →
    let x := s.onCcu fun c => { c with ch7 := Compare.afterFiring s.tb.now c.ch7 }
    exec (.compareMatch .seven) s =
      .next (settle (if s.pw.level = some .survival then listenPoint x else x)))

/-- HEATER_BOUNDARY and HEATER_OFF_MATCH of a running paired channel: the pending duty loads, the boundary and the
off-match are recorded, and without the hold the output is brought to the level the schedule calls for, each change being
an edge of the match time. With the hold set the output keeps its level: the first held-back edge begins DEFERRING, which a
limit of 0 ends at once with the release. An off-match at or after the next boundary does not fire (R29, R30, R32, R34,
R180, R182).

A change of a heater's output is an edge: it is counted with its time, restarts the Detector's guard, marks the next
stored frame, and where it is reported sets HEATER_SWITCHED on the OPEN record; an output that already stands at the
level is no edge (R29, R30, R66, R86, R105, R182). -/
def Obligations.HeaterChannelsFollowTheirDuty : Prop :=
  ((∀ h (s : State), s.pace.held = false →
    let c := s.ccu.heaters.get h
    c.cmp.mode ≠ .off → c.cmp.next ≤ s.tb.now →
    let duty := c.pendingDuty.getD c.duty
    let x := onPaired h (Paired.begun c.cmp.next (Compare.afterFiring s.tb.now c.cmp)) s
    (c.hold = false → exec (.heaterBoundary h) s =
      .next (driveOutput h (decide (0 < duty)) c.cmp.next
        (s.ht.quiet && (s.ht.units.get h).deferral == .released) x)) ∧
    (c.hold = true → exec (.heaterBoundary h) s = .next (heldFiring h (decide (0 < duty)) x))) ∧
  (∀ h m (s : State), s.pace.held = false →
    let c := s.ccu.heaters.get h
    c.cmp.mode ≠ .off → c.offMatch = some m → m ≤ s.tb.now →
    (m < c.cmp.next → c.hold = false → exec (.heaterOffMatch h) s =
      .next (driveOutput h false m (s.ht.quiet && (s.ht.units.get h).deferral == .released) s)) ∧
    (m < c.cmp.next → c.hold = true → exec (.heaterOffMatch h) s = .next (heldFiring h false s)) ∧
    (c.cmp.next ≤ m → exec (.heaterOffMatch h) s = .next s)) ∧
  (∀ (t : Time) (c : Paired),
    (c.boundary = none → c.level t = false) ∧
    (∀ b, c.boundary = some b → (c.level t = true ↔
      0 < c.duty ∧ (64 ≤ c.duty ∨ t < b + c.duty * (c.cmp.period / 64)))))) ∧
  (∀ h level t switched (s : State),
    (level = (s.ccu.heaters.get h).output → driveOutput h level t switched s = s) ∧
    (level ≠ (s.ccu.heaters.get h).output →
      driveOutput h level t switched s =
        { s with
          ccu := { s.ccu with heaters := s.ccu.heaters.update h fun p => { p with output := level } }
          ht := { s.ht with units := s.ht.units.update h fun u =>
            { u with edges := (u.edges + 1) % 2 ^ 32, lastEdge := some t } }
          det := { s.det with lastEdge := some t }
          acq := { s.acq with edgePending := true }
          ev := { s.ev with records := s.ev.records.map fun r =>
            if r.closed ∨ switched = false ∨ r.heaterSwitched then r
            else { r with heaterSwitched := true, revision := (r.revision + 1) % 256 } } }))

/-! ### Discipline and holdover (chapter 3) -/

/-- A forward step moves station time, the step count and the last step, and with them the expected PPS time, the matched
PPS, the deadline of a frame in flight and the end of the ack window. Each running channel whose next match is reached fires
once at the new time, with the matches it passed over counted as skipped: channel 4 ends a frame in flight as MISSING and
puts a new one in flight that tells how many strobes were passed, a heater begins a period, a heater whose off-match alone
is reached is called to OFF, and channel 7 in SURVIVAL makes the listen test. The backward set moves time back, is no step,
fires every running channel once without a skipped count, and shifts the ack window's end (R9, R10, R33 to R35, R38, R41,
R62, R121, R127). That pending values whose load time is at or before the new time load at the backward set is the model's
choice (notes/assumptions/35.md). -/
def Obligations.StepsRealignTheStation : Prop :=
  let strobed (old : State) (new passed : Nat) (mark : Bool) (fired : Compare) (t : State) : Prop :=
    t.ccu.ch4 = fired ∧ t.ccu.convPulses = old.ccu.convPulses + 1 ∧
      t.acq.inFlight = some { timestamp := new, passed := passed, setMark := mark, deadline := new + fired.period * 4 / 5
                              reading := false } ∧
      t.acq.missing = (if old.acq.inFlight = none then old.acq.missing else (old.acq.missing + 1) % 2 ^ 32) ∧
      t.acq.aborted = (if old.acq.inFlight.any (·.reading) then min 65535 (old.acq.aborted + 1) else old.acq.aborted)
  let heated (h : Heater) (t after : State) : Prop :=
    t.ccu.heaters.get h = after.ccu.heaters.get h ∧ t.ht.units.get h = after.ht.units.get h
  let calls (h : Heater) (level : Bool) (new : Nat) (x : State) : State :=
    if (x.ccu.heaters.get h).hold then heldFiring h level x else driveOutput h level new false x
  let listened (t after : State) : Prop := t.ccu.ch7 = after.ccu.ch7 ∧ t.link.listenAsk = after.link.listenAsk
  let tests (x : State) : State := if x.pw.level = some .survival then listenPoint x else x
  let others (s t : State) : Prop :=
    t.pending = s.pending ∧ t.pace = s.pace ∧ t.nt = s.nt ∧ t.pw = s.pw ∧ t.ports = s.ports ∧ t.store = s.store ∧
      { t.link with window := s.link.window, listenAsk := s.link.listenAsk } = s.link ∧
      t.det.channels = s.det.channels ∧ t.det.episode = s.det.episode ∧ t.det.participants = s.det.participants ∧
      t.ev.nextSeq = s.ev.nextSeq
  (∀ s : State, forwardStep 0 s = s) ∧
  (∀ (n : Nat) (s : State), 0 < n → s.tb.now + n < 2 ^ 40 * 10000000 →
    let new := s.tb.now + n
    let t := forwardStep n s
    let moved : State := { s with tb := { s.tb with
      now := new, stepCount := (s.tb.stepCount + 1) % 65536, lastStep := n } }
    let passes (c : Compare) : Nat := (new - c.next) / c.period
    t.tb = moved.tb ∧ others s t ∧
    t.disc = { s.disc with
      expected := (s.disc.expected + n) % (2 ^ 40 * 10000000)
      matched := s.disc.matched.map fun m => { m with stepped := m.stepped + n } } ∧
    t.link.window = s.link.window.map (fun w => { w with finish := w.finish + n }) ∧
    (s.ccu.ch4.mode = .off ∨ new < s.ccu.ch4.next →
      t.ccu.ch4 = s.ccu.ch4 ∧ t.ccu.convPulses = s.ccu.convPulses ∧
        t.acq = { s.acq with
          inFlight := s.acq.inFlight.map fun f => { f with deadline := f.deadline + n }
          edgePending := t.acq.edgePending }) ∧
    (s.ccu.ch4.mode ≠ .off → s.ccu.ch4.next ≤ new →
      strobed s new (passes s.ccu.ch4) false (s.ccu.ch4.afterMove new (passes s.ccu.ch4)) t) ∧
    (∀ h, let c := s.ccu.heaters.get h
      (c.cmp.mode = .off ∨ (new < c.cmp.next ∧ ∀ m, c.offMatch = some m → new < m) → heated h t s) ∧
      (c.cmp.mode ≠ .off → c.cmp.next ≤ new →
        let begun := Paired.begun new (c.cmp.afterMove new (passes c.cmp)) c
        heated h t (calls h (decide (0 < begun.duty)) new (onPaired h (fun _ => begun) moved))) ∧
      (∀ m, c.cmp.mode ≠ .off → new < c.cmp.next → c.offMatch = some m → m ≤ new →
        heated h t (calls h false new moved))) ∧
    (s.ccu.ch7.mode = .off ∨ new < s.ccu.ch7.next → listened t s) ∧
    (s.ccu.ch7.mode ≠ .off → s.ccu.ch7.next ≤ new →
      listened t (tests (moved.onCcu fun c => { c with ch7 := c.ch7.afterMove new (passes c.ch7) })))) ∧
  (∀ (new : Time) (s : State),
    let t := backwardSet new s
    let moved : State := { s with tb := { s.tb with now := new } }
    let fired (c : Compare) : Compare := { c.afterMove new 0 with skipped := c.skipped }
    t.tb = moved.tb ∧ others s t ∧ t.disc = s.disc ∧
    t.link.window = s.link.window.map (fun w => { w with finish := w.finish + new - s.tb.now }) ∧
    (s.ccu.ch4.mode = .off → t.ccu.ch4 = s.ccu.ch4 ∧ t.ccu.convPulses = s.ccu.convPulses ∧
      t.acq = { s.acq with edgePending := t.acq.edgePending }) ∧
    (s.ccu.ch4.mode ≠ .off → strobed s new 0 true (fired s.ccu.ch4) t) ∧
    (∀ h, let c := s.ccu.heaters.get h
      (c.cmp.mode = .off → heated h t s) ∧
      (c.cmp.mode ≠ .off →
        let begun := Paired.begun new (fired c.cmp) c
        heated h t (calls h (decide (0 < begun.duty)) new (onPaired h (fun _ => begun) moved)))) ∧
    (s.ccu.ch7.mode = .off → listened t s) ∧
    (s.ccu.ch7.mode ≠ .off → listened t (tests (moved.onCcu fun c => { c with ch7 := fired c.ch7 }))))

/-- The record that every valid PPS makes before the work of its time state: presence, the expected time one second on,
the absence count, the matched PPS that awaits a label, the counters, and all three PPS_SEEN_SINCE_READ flags; a label
in assembly is discarded and counted (R8, R18, R20, R38, R40, R44).

A PPS outside the window of the expected time is counted invalid, and one while GNSS is OFF is only captured
(R38).

The steering action: a phase error below minus the step threshold is a forward step with Cslew at 0; any other sets
Cslew and adds to Cfreq, each truncated toward zero and clamped. The action with its uncertainty is the action and then the
uncertainty set to |P| × 100 ns, which at or below the refresh limit moves nothing else. In ACQUIRING the
lock run counts the phase errors within the lock window and no step, and at the lock count LOCKED begins; in LOCKED the
unlock run counts those beyond the unlock window, and a third in a row returns to ACQUIRING; then the bin of the
oscillator temperature learns from Cfreq (R3, R45, R46, R47, R53, R54). -/
def Obligations.PpsCapturesSteerStationTime : Prop :=
  (∀ s : State, s.pace.held = false → s.pw.loads.gnss.on = true →
    (s.disc.present = false ∨ (s.disc.expected ≤ s.tb.now + 500000 ∧ s.tb.now ≤ s.disc.expected + 500000)) →
    let t := s.tb.now
    let err : Int := if t % 10000000 < 5000000 then (t % 10000000 : Nat) else (t % 10000000 : Nat) - 10000000
    let taken : State :=
      { s with
        ccu := { s.ccu with ch0 := { last := some t, unread := false, overwrites := 0 } }
        tb := { s.tb with ppsSeen := ⟨true, true, true⟩ }
        disc := { s.disc with
          present := true, expected := (t + 10000000) % (2 ^ 40 * 10000000), absence := 0, lossDue := false
          matched := some { capture := t, stepped := 0, awaitsLabel := true }
          validPps := (s.disc.validPps + 1) % 2 ^ 32, lastP := err, label := []
          badChecks := if s.disc.label = [] then s.disc.badChecks else min 65535 (s.disc.badChecks + 1) } }
    exec .ppsCapture s =
      .next (settle (match s.tb.state with
        | .free => taken
        | .acquiring => moveLockRun err (steerAndJudge err taken)
        | .locked => learnBin (moveUnlockRun err (steerAndJudge err taken))
        | .holdover => { taken with disc := { taken.disc with heldP := some err } }
        | .adrift => { taken with disc := { taken.disc with heldP := some err } }))) ∧
  (∀ s : State, s.pace.held = false →
    let captured := s.onCcu fun c => { c with ch0 := { last := some s.tb.now, unread := false, overwrites := 0 } }
    (s.pw.loads.gnss.on = false → exec .ppsCapture s = .next (settle captured)) ∧
    (s.pw.loads.gnss.on = true → s.disc.present = true →
      (s.tb.now + 500000 < s.disc.expected ∨ s.disc.expected + 500000 < s.tb.now) →
      exec .ppsCapture s =
        .next (settle (captured.onDisc fun d => { d with invalidPps := min 65535 (d.invalidPps + 1) })))) ∧
  (∀ (err : Int) (s : State),
    (err < -(s.disc.cfg.stepThreshold : Int) →
      steer err s = (forwardStep (-err).toNat s).onTb fun tb => { tb with cslew := 0 }) ∧
    (-(s.disc.cfg.stepThreshold : Int) ≤ err →
      steer err s = s.onTb fun tb => { tb with
        cslew := max (-500000) (min 500000 (Int.tdiv (-err * 10000) s.disc.cfg.slewConstant))
        cfreq := max (-5000000) (min 5000000 (tb.cfreq + Int.tdiv (-err * 10000) s.disc.cfg.freqConstant)) }) ∧
    (let u := min 4294967295 (err.natAbs * 100)
     steerAndJudge err s = setUncertainty (err.natAbs * 100) (steer err s) ∧
     (steerAndJudge err s).tb = { (steer err s).tb with uncertainty := u } ∧
     (u ≤ s.disc.cfg.refreshLimit → steerAndJudge err s = { steer err s with
       tb := { (steer err s).tb with uncertainty := u }
       disc := { (steer err s).disc with takenLow := false, aboveRefresh := false } })) ∧
    (let run := if err.natAbs ≤ s.disc.cfg.lockWindow ∧ -(s.disc.cfg.stepThreshold : Int) ≤ err then
        min 255 (s.disc.lockRun + 1) else 0
     let locks := 0 < run ∧ s.disc.cfg.lockCount ≤ run
     s.tb.state = .acquiring →
      (¬locks → moveLockRun err s = s.onDisc fun d => { d with lockRun := run }) ∧
      (locks → moveLockRun err s = { s with
        tb := { s.tb with state := .locked, entry := s.tb.now }
        disc := { s.disc with lockRun := 0, unlockRun := 0 }
        ports := s.ports.map fun r => { r with notices := r.notices ||| 0x10 } })) ∧
    (let run := if s.disc.cfg.unlockWindow < err.natAbs then min 255 (s.disc.unlockRun + 1) else 0
     s.tb.state = .locked →
      (run < 3 → moveUnlockRun err s = s.onDisc fun d => { d with unlockRun := run }) ∧
      (3 ≤ run → moveUnlockRun err s = { s with
        tb := { s.tb with state := .acquiring, entry := s.tb.now }
        disc := { s.disc with lockRun := 0, unlockRun := 0 }
        ports := s.ports.map fun r => { r with notices := r.notices ||| 0x10 } })) ∧
    (s.pw.tosc.faulted = true → learnBin s = s) ∧
    (∀ (i : Nat) b, s.pw.tosc.faulted = false → (i : Int) = max 0 (min 15 ((s.pw.tosc.value + 400) / 50)) →
      s.disc.bins[i]? = some b → learnBin s = s.onDisc fun d => { d with
        bins := d.bins.set i
          { value := if b.count = 0 then s.tb.cfreq else b.value + Int.tdiv (s.tb.cfreq - b.value) 8
            count := min 255 (b.count + 1) } }))

/-- MISSED_SECOND moves the expected time on by a second and counts; in ACQUIRING the lock run starts over (R39).

PPS_LOSS: the presence becomes ABSENT, a held P is discarded, and the matched PPS has no label to receive; LOCKED
goes to HOLDOVER with Cslew and Ctemp at 0, the reference bin value taken and the uncertainty from the last phase error;
ACQUIRING goes to ADRIFT; any other state stays (R39, R48).

DISCIPLINE_SECOND counts the absence, tells a loss and a scheduled window that are due, and in HOLDOVER grows the
uncertainty by Gbase, or 4 × Gbase without a valid bin, then enters ADRIFT above the limit, which asks for the ROUTINE
TIME notice, or sets Ctemp from the bin; a rise from at or below the refresh limit to above it makes a refresh request
(R39, R51, R52, R56, R57). The model's choices: the absence counts in every second, and how the repetition begins, ends
and meets a new limit (notes/assumptions/20.md), a new window interval is tested with the count from the next second on
(notes/assumptions/36.md), and a loss or a window that is due waits for its own row (notes/assumptions/11.md, 12.md).

REFRESH_REPEAT and GNSS_WINDOW_OPEN ask for GNSS for one window length: TIMEBASE's entry lasts to the later expiry,
or has none while the continuous request stands (R56, R57).

The uncertainty set: it saturates, and a rise from at or below the refresh limit in force to above it makes a refresh
request, which holds GNSS for one window length; any other set asks for nothing (R57). The model's choices: a reset's
uncertainty counts as at or below the limit, and the repetition begins with a rise and ends with a set at or below the limit
(notes/assumptions/20.md); a rise before the first level makes the request as well (notes/assumptions/47.md). -/
def Obligations.SecondsWithoutPpsAndHoldover : Prop :=
  (∀ s : State, s.pace.held = false → s.disc.present = true → s.disc.expected + 500000 < s.tb.now →
    exec .missedSecond s =
      .next { s with disc := { s.disc with
        expected := (s.disc.expected + 10000000) % (2 ^ 40 * 10000000)
        missedSeconds := min 65535 (s.disc.missedSeconds + 1)
        lockRun := if s.tb.state = .acquiring then 0 else s.disc.lockRun } }) ∧
  ((∀ s : State, s.pace.held = false → s.disc.present = true → s.disc.lossDue = true →
    exec .ppsLoss s = .next (settle (becomeAbsent s))) ∧
  ∀ s : State,
    let x := becomeAbsent s
    let absent : State := { s with disc := { s.disc with
      present := false, lossDue := false, heldP := none
      matched := s.disc.matched.map fun m => { m with awaitsLabel := false } } }
    let bin := (if s.pw.tosc.faulted then none else s.disc.bins[binOf s.pw.tosc.value]?).filter fun b => 8 ≤ b.count
    x = (match s.tb.state with
        | .locked => changeTimeState .holdover false (setUncertainty (s.disc.lastP.natAbs * 100) { absent with
            tb := { s.tb with cslew := 0, ctemp := 0 }
            disc := { absent.disc with bref := match bin with | none => s.tb.cfreq | some b => b.value } })
        | .acquiring => changeTimeState .adrift false absent
        | .free => absent
        | .holdover => absent
        | .adrift => absent) ∧
      x.disc.present = false ∧ x.disc.heldP = none ∧ x.disc.lossDue = false ∧
      x.disc.matched = s.disc.matched.map (fun m => { m with awaitsLabel := false }) ∧
      x.tb.now = s.tb.now ∧ x.tb.f = s.tb.f ∧ x.tb.cfreq = s.tb.cfreq ∧
      x.tb.state =
        (match s.tb.state with | .locked => .holdover | .acquiring => .adrift | other => other) ∧
      x.tb.entry =
        (match s.tb.state with | .locked => s.tb.now | .acquiring => s.tb.now | _ => s.tb.entry) ∧
      (s.tb.state = .locked → x.tb.cslew = 0 ∧ x.tb.ctemp = 0 ∧
        x.tb.uncertainty = min 4294967295 (s.disc.lastP.natAbs * 100) ∧
        x.disc.bref =
          (match (if s.pw.tosc.faulted then none else s.disc.bins[binOf s.pw.tosc.value]?) with
           | none => s.tb.cfreq
           | some b => if 8 ≤ b.count then b.value else s.tb.cfreq)) ∧
      (s.tb.state ≠ .locked → x.tb.cslew = s.tb.cslew ∧ x.tb.uncertainty = s.tb.uncertainty) ∧
      x.kept = s.kept) ∧
  (∀ s : State, s.pace.held = false → (s.pace.disciplineSeconds + 1) * 10000000 ≤ s.pace.cycles →
    let absence := min 255 (s.disc.absence + 1)
    let survival := s.pw.level = some .survival
    let count := if survival then s.disc.scheduleCount + 1 else s.disc.scheduleCount
    let counted : State := { s with
      pace := { s.pace with disciplineSeconds := s.pace.disciplineSeconds + 1 }
      disc := { s.disc with
        absence := absence, scheduleCount := count, sinceRefresh := s.disc.sinceRefresh + 1
        lossDue := s.disc.present && decide (s.disc.cfg.lossLimit ≤ absence)
        windowDue := s.disc.windowDue || decide (survival ∧ count % s.disc.cfg.windowInterval = 0) } }
    let bin := (if s.pw.tosc.faulted then none else s.disc.bins[binOf s.pw.tosc.value]?).filter fun b => 8 ≤ b.count
    let u := min 4294967295 (s.tb.uncertainty + (if bin.isSome then s.disc.cfg.gbase else 4 * s.disc.cfg.gbase))
    (s.tb.state ≠ .holdover → exec .disciplineSecond s = .next (settle counted)) ∧
    (s.tb.state = .holdover → ∃ x, exec .disciplineSecond s = .next (settle x) ∧
      x = (let growth := if bin.isSome then s.disc.cfg.gbase else 4 * s.disc.cfg.gbase
        let grown := setUncertainty (s.tb.uncertainty + growth) counted
        if s.disc.cfg.adriftLimit < u then changeTimeState .adrift false grown
        else { grown with tb := { grown.tb with
          ctemp := match bin with
            | none => 0
            | some b => max (-2000000) (min 2000000 (b.value - s.disc.bref)) } }) ∧
      x.kept = counted.kept ∧
      x.tb = { s.tb with
        uncertainty := u
        state := if s.disc.cfg.adriftLimit < u then .adrift else .holdover
        entry := if s.disc.cfg.adriftLimit < u then s.tb.now else s.tb.entry
        ctemp := if s.disc.cfg.adriftLimit < u then 0
                 else match bin with
                   | none => 0
                   | some b => max (-2000000) (min 2000000 (b.value - s.disc.bref))
        routineRef := x.tb.routineRef, urgentRef := x.tb.urgentRef } ∧
      x.disc.takenLow = false ∧
      (let rises := s.disc.cfg.refreshLimit < u ∧
          (s.disc.takenLow = true ∨ s.tb.uncertainty ≤ s.disc.cfg.refreshLimit)
       (rises → 0 < s.disc.cfg.windowLength →
          x.disc.aboveRefresh = true ∧ x.disc.sinceRefresh = 0 ∧
          x.disc.refresh = some (s.pace.seconds + s.disc.cfg.windowLength) ∧
          (x.pw.loads.gnss.asks.timebase = .standing ↔ s.disc.continuous = true)) ∧
        (¬rises → x.disc.refresh = s.disc.refresh ∧ x.disc.sinceRefresh = s.disc.sinceRefresh + 1 ∧
          (x.disc.aboveRefresh = true ↔ s.disc.aboveRefresh = true ∧ s.disc.cfg.refreshLimit < u))))) ∧
  (∀ s : State, s.pace.held = false → 0 < s.disc.cfg.windowLength →
    let expiry := s.pace.seconds + s.disc.cfg.windowLength
    let ask (other : Option Nat) : Ask := if s.disc.continuous then .standing else .until (max expiry (other.getD 0))
    (s.disc.aboveRefresh = true → s.disc.cfg.refreshLimit < s.tb.uncertainty →
      s.disc.cfg.windowInterval ≤ s.disc.sinceRefresh →
      exec .refreshRepeat s =
        .next (settle ((s.onDisc fun d => { d with refresh := some expiry, sinceRefresh := 0 }).onLoad .gnss fun x =>
          { x with asks := { x.asks with timebase := ask s.disc.window } }))) ∧
    (s.disc.windowDue = true →
      exec .gnssWindowOpen s =
        .next (settle ((s.onDisc fun d => { d with window := some expiry, windowDue := false }).onLoad .gnss fun x =>
          { x with asks := { x.asks with timebase := ask s.disc.refresh } })))) ∧
  (∀ (n : Nat) (s : State),
    let u := min 4294967295 n
    let limit := s.disc.cfg.refreshLimit
    let rises : Prop := limit < u ∧ (s.disc.takenLow = true ∨ s.tb.uncertainty ≤ limit)
    let expiry := s.pace.seconds + s.disc.cfg.windowLength
    let judged (above : Bool) : State := { s with
      tb := { s.tb with uncertainty := u }, disc := { s.disc with takenLow := false, aboveRefresh := above } }
    (u ≤ limit → setUncertainty n s = judged false) ∧
    (limit < u → ¬rises → setUncertainty n s = judged s.disc.aboveRefresh) ∧
    (rises → 0 < s.disc.cfg.windowLength → setUncertainty n s =
      ((judged true).onDisc fun d => { d with refresh := some expiry, sinceRefresh := 0 }).onLoad .gnss fun x =>
        { x with asks := { x.asks with timebase :=
          if s.disc.continuous then .standing else .until (max expiry (s.disc.window.getD 0)) } }))

/-- Label bytes: an assembly begins with 0xB5, any other byte outside one is ignored, and the second to the seventh byte
are collected (R40).

LABEL_RECEIVED: a wrong sum, a label without a fix and one that no awaiting PPS of the last 0.9 s matches are counted;
a matched one sets time in FREE and is compared with station time in any other state (R40 to R43). -/
def Obligations.LabelsAreCollectedAndChecked : Prop :=
  (∀ (b : Byte) (s : State), s.pace.held = false →
    (s.disc.label = [] → b = 0xB5 → exec (.labelByteReceived b) s = .next (settle (s.onDisc fun d => { d with label := [b] }))) ∧
    (s.disc.label = [] → b ≠ 0xB5 → exec (.labelByteReceived b) s = .next (settle s)) ∧
    (s.disc.label ≠ [] → s.disc.label.length < 7 →
      exec (.labelByteReceived b) s = .next (settle (s.onDisc fun d => { d with label := d.label ++ [b] })))) ∧
  (∀ (last : Byte) (s : State), s.pace.held = false → s.disc.label.length = 7 →
    let full := s.disc.label ++ [last]
    let sum : Byte := (full.drop 1).take 6 |>.foldl (· + ·) 0
    let done : Discipline := { s.disc with label := [] }
    let label := natOf ((full.drop 1).take 5)
    let matches' (m : MatchedPps) : Prop :=
      s.disc.present = true ∧ m.awaitsLabel = true ∧ s.tb.now ≤ m.capture + m.stepped + 9000000
    (last ≠ sum → exec (.labelReceived last) s =
      .next (settle { s with disc := { done with badChecks := min 65535 (s.disc.badChecks + 1) } })) ∧
    (last = sum → (full.getD 6 0).getLsbD 0 = false → exec (.labelReceived last) s =
      .next (settle { s with disc := { done with noFix := min 65535 (s.disc.noFix + 1) } })) ∧
    (last = sum → (full.getD 6 0).getLsbD 0 = true → (∀ m, s.disc.matched = some m → ¬matches' m) →
      exec (.labelReceived last) s =
        .next (settle { s with disc := { done with unmatched := min 65535 (s.disc.unmatched + 1) } })) ∧
    (∀ m, last = sum → (full.getD 6 0).getLsbD 0 = true → s.disc.matched = some m → matches' m →
      let good : State := { s with disc := { done with
        goodLabels := min 65535 (s.disc.goodLabels + 1), matched := some { m with awaitsLabel := false } } }
      exec (.labelReceived last) s =
        .next (settle (if s.tb.state = .free then setFromLabel label m good else compareLabel label m good))))

/-- The first label in FREE: station time becomes the labelled second plus the time since the PPS edge, forward or back;
only a forward move counts as a step; the state is ACQUIRING with uncertainty 0, and the next PPS is expected one second
after the labelled one (R10, R43). That the elapsed time is taken without the forward steps made since the PPS is the
model's choice (notes/assumptions/25.md).

A label outside FREE is compared with the station second nearest its PPS edge: an equal one clears the conflicts and,
in HOLDOVER or ADRIFT, returns to ACQUIRING; a first or second unequal one is counted, and none is while the conflict
latch is set; a third asks for the URGENT TIME notice, and where it lies behind station time enters ADRIFT with the latch
set, while one ahead of it steps station time forward by the whole seconds between, with Cslew set to 0, and leaves the
station in ACQUIRING. At the return a held P steers and sets the uncertainty, is discarded, and starts the lock run at 1
where it counts toward locking, at 0 otherwise; without one nothing steers (R3, R14, R42, R49). The model's choices: the
conflict's step counts as a discipline step of R3 (notes/assumptions/34.md), and a held P stays at a label that disagrees
(notes/assumptions/48.md). -/
def Obligations.GoodLabelsSetOrConfirmTime : Prop :=
  (∀ (label : Nat) (m : MatchedPps) (s : State), s.tb.state = .free → label < 2 ^ 40 →
    m.capture + m.stepped ≤ s.tb.now → s.tb.now ≤ m.capture + m.stepped + 9000000 →
    let new := label * 10000000 + (s.tb.now - (m.capture + m.stepped))
    let t := setFromLabel label m s
    t.tb.now = new ∧ t.tb.state = .acquiring ∧ t.tb.entry = new ∧ t.tb.uncertainty = 0 ∧ t.tb.cslew = 0 ∧
      t.tb.f = s.tb.f ∧ t.tb.cfreq = s.tb.cfreq ∧ t.tb.ctemp = s.tb.ctemp ∧
      t.tb.stepCount = (if s.tb.now < new then (s.tb.stepCount + 1) % 65536 else s.tb.stepCount) ∧
      t.tb.lastStep = (if s.tb.now < new then new - s.tb.now else s.tb.lastStep) ∧
      t.disc.expected = (label * 10000000 + 10000000) % (2 ^ 40 * 10000000) ∧ t.disc.lastP = 0 ∧
      t.disc.conflicts = 0 ∧ t.disc.conflictLatch = false ∧ t.nt = s.nt ∧ t.pending = s.pending ∧ t.pace = s.pace ∧
      t.store = s.store) ∧
  (∀ (label : Nat) (m : MatchedPps) (s : State), s.tb.state ≠ .free →
    let edge := m.capture + m.stepped
    let second := edge / 10000000 + (if edge % 10000000 < 5000000 then 0 else 1)
    let t := compareLabel label m s
    let cleared (x : State) : State := { x with disc := { x.disc with conflicts := 0, conflictLatch := false } }
    let returns (x : State) : State :=
      let acquiring := changeTimeState .acquiring false x
      match x.disc.heldP with
      | none => acquiring
      | some err =>
        let steered := steerAndJudge err acquiring
        let run := if err.natAbs ≤ x.disc.cfg.lockWindow ∧ -(x.disc.cfg.stepThreshold : Int) ≤ err then 1 else 0
        { steered with disc := { steered.disc with heldP := none, lockRun := run } }
    let agrees (x : State) : State := if s.tb.state = .holdover ∨ s.tb.state = .adrift then returns (cleared x) else cleared x
    let urgent := timeNotice true { s with disc := { s.disc with conflicts := 0 } }
    (label = second → t = agrees s) ∧
    (label < second → s.disc.conflictLatch = false → 2 ≤ s.disc.conflicts →
      t = (changeTimeState .adrift true urgent).onDisc fun d => { d with conflictLatch := true }) ∧
    (second < label → s.disc.conflictLatch = false → 2 ≤ s.disc.conflicts →
      let moved := forwardStep ((label - second) * 10000000) urgent
      let stepped : State := { moved with tb := { moved.tb with cslew := 0 }, disc := { moved.disc with lockRun := 0 } }
      t = if s.tb.state = .locked then changeTimeState .acquiring false (agrees stepped) else agrees stepped) ∧
    (label = second → t.disc.conflicts = 0 ∧ t.disc.conflictLatch = false ∧
      t.tb.state = (match s.tb.state with | .holdover => .acquiring | .adrift => .acquiring | other => other)) ∧
    (label ≠ second → s.disc.conflictLatch = true → t = s) ∧
    (label ≠ second → s.disc.conflictLatch = false → s.disc.conflicts < 2 →
      t = s.onDisc fun d => { d with conflicts := d.conflicts + 1 }) ∧
    (label < second → s.disc.conflictLatch = false → 2 ≤ s.disc.conflicts →
      t.tb.state = .adrift ∧ t.disc.conflictLatch = true ∧ t.disc.conflicts = 0 ∧ t.tb.now = s.tb.now ∧
        t.tb.stepCount = s.tb.stepCount) ∧
    (second < label → s.disc.conflictLatch = false → 2 ≤ s.disc.conflicts → s.disc.heldP = none →
      s.tb.now + (label - second) * 10000000 < 2 ^ 40 * 10000000 →
      t.tb.now = s.tb.now + (label - second) * 10000000 ∧ t.tb.stepCount = (s.tb.stepCount + 1) % 65536 ∧
        t.tb.lastStep = (label - second) * 10000000 ∧ t.tb.cslew = 0 ∧ t.tb.cfreq = s.tb.cfreq ∧
        t.disc.conflicts = 0 ∧ t.disc.conflictLatch = false ∧ t.tb.state = .acquiring))

/-- GET_DISCIPLINE returns the Discipline Unit's state in 37 bytes and changes nothing (R59).

GET_RING returns the state of the unit in 39 bytes and changes nothing (R69). That the rate sent is the recorded one
while its change is pending is the model's choice (notes/assumptions/49.md).

GET_DETECTOR returns the settings and the Detector's state in 50 bytes and changes nothing (R98). That the vote sum is
that of the last frame worked is the model's choice (notes/assumptions/38.md).

LIST_EVENTS lists the records above the port's cursor in ascending sequence, up to 16; GET_EVENT_TABLE,
GET_LINK_SETTINGS, GET_NOTICE_TABLE and GET_POWER read their blocks and change nothing (R111, R113, R131, R152, R172). That
the last sequence consumed is sent as 4,294,967,295 when the next is 1 beside a record is the model's choice
(notes/assumptions/25.md). -/
def Obligations.ReadsOfTheUnits : Prop :=
  (ReadCommand .getDiscipline fun _ s =>
    let d := s.disc
    let runs (e : Option Nat) : Bool := match e with | none => false | some x => decide (s.pace.seconds < x)
    flagsByte [d.present, d.conflictLatch, d.heldP.isSome, runs d.refresh, runs d.window] ++ be 1 d.absence ++
      be 1 d.lockRun ++ be 1 d.unlockRun ++ be 1 d.conflicts ++ beInt 4 d.lastP ++
      (if d.present then timeBytes d.expected else zeros 8) ++ beInt 4 d.bref ++ be 4 d.validPps ++ be 2 d.invalidPps ++
      be 2 d.missedSeconds ++ be 2 d.goodLabels ++ be 2 d.badChecks ++ be 2 d.noFix ++ be 2 d.unmatched) ∧
  (ReadCommand .getRing fun _ s =>
    let a := s.acq
    be 1 (match a.state with | .stopped => 0 | .settling => 1 | .running => 2) ++
      be 1 (match a.inFlight with | none => 0 | some f => if f.reading then 2 else 1) ++
      be 1 (match a.cfg.rate with | .r50 => 0 | .r100 => 1 | .r200 => 2) ++
      be 1 (match s.ccu.ch4.waiting with
        | none => 255
        | some w => if w.period = 200000 then 0 else if w.period = 100000 then 1 else if w.period = 50000 then 2 else 255) ++
      be 2 a.ring.length ++ be 4 ((a.ring.head?.map fun f => f.seq).getD 0) ++
      be 4 ((a.ring.getLast?.map fun f => f.seq).getD 0) ++ be 4 a.nextSeq ++ be 4 a.cursor ++ be 4 a.overrun ++
      be 1 a.holds.length ++ be 4 (lowestMark a.holds) ++ be 4 a.missing ++ be 2 a.stray ++ be 2 a.aborted) ∧
  (ReadCommand .getDetector fun _ s =>
    let d := s.det
    be 1 (match s.acq.cfg.rate with | .r50 => 0 | .r100 => 1 | .r200 => 2) ++ be 1 d.cfg.holdoffTime ++
      be 2 d.cfg.maxDuration ++ be 1 d.cfg.guard ++ be 1 d.cfg.window ++ be 1 d.cfg.threshold ++ be 4 d.cfg.t2 ++
      be 4 d.cfg.t3 ++ be 1 (match d.cfg.priority with | .routine => 0 | .urgent => 1 | .alarm => 2) ++
      (match d.episode with
       | .none => zeros 9
       | .opened seq => be 1 1 ++ be 4 seq ++ be 1 d.cls ++ be 1 d.vote ++ be 1 d.votePeak ++ be 1 (min 255 d.gapRun)
       | .lost => be 1 2 ++ zeros 4 ++ be 1 d.cls ++ be 1 d.vote ++ be 1 d.votePeak ++ be 1 (min 255 d.gapRun)) ++
      optTimeBytes d.lastEdge ++ be 1 (if d.quiet then 1 else 0) ++
      ([d.channels.c1, d.channels.c2, d.channels.c3, d.channels.c4, d.channels.c5, d.channels.c6].flatMap fun c =>
        be 1 (match c.state with | .off => 0 | .warmup => 1 | .quiet => 2 | .triggered => 3 | .holdoff => 4)) ++
      be 4 d.triggers ++ be 4 d.suspects ++ be 2 d.gapActions) ∧
  ((∀ p tag (s : State), Admits p .read s →
    ∃ all rs : List Record, exec (.listEvents p tag []) s = .next (s.answered p tag .ok
        (be 4 (s.ev.cursors.get p) ++ be 4 s.ev.lost ++ be 1 s.ev.lostPending ++
          be 4 (if s.ev.nextSeq = 1 ∧ s.ev.records ≠ [] then 4294967295 else s.ev.nextSeq - 1) ++
          be 1 rs.length ++ rs.flatMap fun r => be 4 r.seq ++ be 1 (if r.closed then 1 else 0) ++ be 1 r.revision)) ∧
      rs = all.take 16 ∧ all.Perm (s.ev.records.filter fun r => s.ev.cursors.get p < r.seq) ∧
      all.Pairwise fun x y => x.seq ≤ y.seq) ∧
  ReadCommand .getEventTable (fun _ s => be 1 (if s.ev.unreadProtection then 1 else 0)) ∧
  ReadCommand .getLinkSettings (fun _ s =>
    let c := s.link.cfg
    be 1 c.rateCode ++ be 2 c.keyLead ++ be 2 c.warmup ++ be 1 c.ackWindow ++ be 2 c.rest ++ be 2 c.listenLength ++
      be 2 c.listenInterval ++ be 2 c.address ++ flagsByte [c.enableStatus, c.enableCeiling, c.enableWake, c.enableQuiet] ++
      (List.range 8).map fun i => s.link.groups.extractLsb' (8 * i) 8) ∧
  ReadCommand .getNoticeTable (fun _ s =>
    let entry (e : Option StackEntry) : List Byte := match e with
      | none => zeros 4
      | some x => be 1 x.slot ++ be 1 x.nextSegment ++ be 1 x.cls.code ++ be 1 x.by'
    ((List.range 12).flatMap fun n => be 1 (slotAt n s).state.code) ++ be 1 s.nt.stack.length ++ entry s.nt.stack[0]? ++
      entry s.nt.stack[1]? ++ be 1 s.nt.tagCounter ++ be 2 s.nt.unqueued ++ be 2 s.nt.energyHolds ++
      be 2 s.nt.displacements ++ be 2 s.nt.mergedPolls ++ be 2 s.nt.unmatchedPolls ++ be 1 s.nt.cfg.base ++
      be 1 s.nt.cfg.retryAlarm ++ be 1 s.nt.cfg.retryUrgent ++ be 1 s.nt.cfg.retryRoutine) ∧
  ReadCommand .getPower (fun _ s =>
    let pw := s.pw
    be 1 (match pw.level with | none => 255 | some l => l.code) ++ be 1 pw.ceiling.code ++
      flagsByte [pw.unverified, pw.fullHold, pw.chgEn, pw.coldInhibit, pw.lastGasp.isSome, pw.sourceHeating] ++
      be 2 pw.soc ++ be 4 pw.q ++ be 4 pw.cd ++ beInt 2 pw.vb.value ++ beInt 2 pw.ib.value ++ beInt 2 pw.tb.value ++
      beInt 2 pw.tv.value ++ beInt 2 pw.tosc.value ++ beInt 2 pw.vs.value ++
      flagsByte [pw.vb.faulted, pw.ib.faulted, pw.tb.faulted, pw.tv.faulted, pw.tosc.faulted, pw.vs.faulted] ++
      be 2 pw.dwell ++ flagsByte [pw.loads.sensor.on, pw.loads.gnss.on, pw.loads.recorder.on, pw.loads.telemetry.on,
        pw.loads.radio.on, pw.loads.aux.on]))

/-- SET_DISCIPLINE writes the thirteen settings when each is in its range and the relations hold, and discards a label in
assembly when the label rate changes; otherwise it is OUT_OF_RANGE (R58).

READ_TEMP_BINS and LOAD_TEMP_BINS read and write a run of 1 to 8 bins from the pointer, or from bin 0 at a restart,
and move the pointer past it modulo 16; a restart byte above 1, another number of bins or a value outside ±5,000,000 is
OUT_OF_RANGE, with the table and the pointer unchanged (R55). -/
def Obligations.DisciplineSettingsAndBins : Prop :=
  (∀ p tag (c : DisciplineCfg) (s : State), Admits p .configure s →
    c.lossLimit < 2 ^ 8 → c.stepThreshold < 2 ^ 32 → c.slewConstant < 2 ^ 32 → c.freqConstant < 2 ^ 32 →
    c.lockCount < 2 ^ 8 → c.lockWindow < 2 ^ 32 → c.unlockWindow < 2 ^ 32 → c.gbase < 2 ^ 32 →
    c.adriftLimit < 2 ^ 32 → c.refreshLimit < 2 ^ 32 → c.windowLength < 2 ^ 32 → c.windowInterval < 2 ^ 32 →
    c.labelRate < 2 ^ 8 →
    let args := be 1 c.lossLimit ++ be 4 c.stepThreshold ++ be 4 c.slewConstant ++ be 4 c.freqConstant ++
      be 1 c.lockCount ++ be 4 c.lockWindow ++ be 4 c.unlockWindow ++ be 4 c.gbase ++ be 4 c.adriftLimit ++
      be 4 c.refreshLimit ++ be 4 c.windowLength ++ be 4 c.windowInterval ++ be 1 c.labelRate
    let ok := (1 ≤ c.lossLimit ∧ c.lossLimit ≤ 16) ∧ (100 ≤ c.stepThreshold ∧ c.stepThreshold ≤ 1000000) ∧
      (1 ≤ c.slewConstant ∧ c.slewConstant ≤ 64) ∧ (16 ≤ c.freqConstant ∧ c.freqConstant ≤ 4096) ∧ 2 ≤ c.lockCount ∧
      (1 ≤ c.lockWindow ∧ c.lockWindow ≤ 10000) ∧ (c.lockWindow ≤ c.unlockWindow ∧ c.unlockWindow ≤ 100000) ∧
      (1 ≤ c.gbase ∧ c.gbase ≤ 1000) ∧ (1000 ≤ c.adriftLimit ∧ c.adriftLimit ≤ 4000000000) ∧
      (1000 ≤ c.refreshLimit ∧ c.refreshLimit < c.adriftLimit) ∧
      (60 ≤ c.windowLength ∧ c.windowLength ≤ 7200 ∧ c.windowLength < c.windowInterval) ∧
      (600 ≤ c.windowInterval ∧ c.windowInterval ≤ 86400) ∧ c.labelRate ≤ 3
    (ok → exec (.setDiscipline p tag args) s =
      .next ((settle ((s.taking p tag).onDisc fun d =>
        { d with cfg := c, label := if c.labelRate = d.cfg.labelRate then d.label else [] })).replied p tag [])) ∧
    (¬ok → exec (.setDiscipline p tag args) s = .next (s.answered p tag .outOfRange []))) ∧
  ((∀ p tag (restart n : Byte) (s : State), Admits p .read s → 1 < restart.toNat ∨ n.toNat = 0 ∨ 8 < n.toNat →
    exec (.readTempBins p tag [restart, n]) s = .next (s.answered p tag .outOfRange [])) ∧
  (∀ p tag (restart : Byte) (entries : List TempBin) (s : State), Admits p .configure s →
    (∀ b ∈ entries, -2 ^ 31 ≤ b.value ∧ b.value < 2 ^ 31 ∧ b.count < 256) →
    1 < restart.toNat ∨ entries.length = 0 ∨ 8 < entries.length ∨ (∃ b ∈ entries, b.value < -5000000 ∨ 5000000 < b.value) →
    exec (.loadTempBins p tag (restart :: entries.flatMap fun b => beInt 4 b.value ++ be 1 b.count)) s =
      .next (s.answered p tag .outOfRange [])) ∧
  ∀ p tag (restart n : Byte) (s : State), restart.toNat ≤ 1 → 1 ≤ n.toNat → n.toNat ≤ 8 →
    let start := if restart = 1 then 0 else s.disc.pointer
    let next := (start + n.toNat) % 16
    (Admits p .read s →
      exec (.readTempBins p tag [restart, n]) s =
        .next ((s.onDisc fun d => { d with pointer := next }).answered p tag .ok
          (((List.range n.toNat).flatMap fun i =>
              let b := s.disc.bins.getD ((start + i) % 16) { value := 0, count := 0 }
              beInt 4 b.value ++ be 1 b.count) ++ be 1 next))) ∧
    (∀ entries : List TempBin, Admits p .configure s → entries.length = n.toNat →
      (∀ b ∈ entries, -5000000 ≤ b.value ∧ b.value ≤ 5000000 ∧ b.count < 256) →
      let args := restart :: entries.flatMap fun b => beInt 4 b.value ++ be 1 b.count
      ∃ t, exec (.loadTempBins p tag args) s = .next t ∧
        t = (s.onDisc fun d => { d with pointer := next, bins := t.disc.bins }).answered p tag .ok (be 1 next) ∧
        (s.disc.bins.length = 16 → ∀ i, t.disc.bins[i]? =
          if i < 16 ∧ (i + 16 - start % 16) % 16 < n.toNat then entries[(i + 16 - start % 16) % 16]? else s.disc.bins[i]?)))

/-! ### Samples (chapter 4) -/

/-- SETTLE_COMPLETE starts channel 4 at the rate's period for the next whole second, enters RUNNING, and every channel of
the Detector that is not OFF begins its warm-up (R23, R61, R95). That a channel keeps the rest of its holdoff count is
the model's choice (notes/assumptions/50.md).

DATA_READY_CAPTURE: a capture between the timestamp and the deadline of a frame that awaits it begins the frame read;
any other is counted as stray. The capture record of channel 1 is read at once (R18, R20, R63).

FRAME_READ_COMPLETE stores the six samples of the frame in flight, and DATA_READY_DEADLINE stores the frame MISSING
and counts it: the frame takes its sequence, flags and pending marks, becomes the ring's newest, and is handed to the
Detector (R63, R64, R65, R66, R67). That 2^31 or more skipped strobes consume their sequences as fewer do is the model's
choice (notes/assumptions/54.md).

A frame that enters a full ring removes the oldest. Removing one the cursor has not passed is an overrun: it is
counted, the cursor moves to the frame now oldest, the holds whose mark is at or before the removed frame break, and the
others stay but for those whose close frame the cursor has now passed; removing one the cursor has passed costs the drain
nothing (R67, R71, R72). That R65's comparison decides what the cursor has passed, also after 2^31 or more skipped
strobes, is the model's choice (notes/assumptions/54.md). -/
def Obligations.StreamsReadAndStoreFrames : Prop :=
  (∀ s : State, s.pace.held = false → s.acq.state = .settling → s.acq.settleDue = true →
    exec .settleComplete s =
      .next { s with
        ccu := { s.ccu with ch4 := { s.ccu.ch4 with
          mode := .repeating, phase := 0, waiting := none, next := (s.tb.now / 10000000 + 1) * 10000000
          period := match s.acq.cfg.rate with | .r50 => 200000 | .r100 => 100000 | .r200 => 50000 } }
        acq := { s.acq with state := .running, settleDue := false }
        det := { s.det with
          gapRun := 0
          channels := s.det.channels.map fun _ c => if c.state = .off then c else { c with state := .warmup, warm := 0 } } }) ∧
  (∀ s : State, s.pace.held = false →
    let captured := s.onCcu fun c => { c with ch1 := { last := some s.tb.now, unread := false, overwrites := 0 } }
    (∀ fl, s.acq.inFlight = some fl → fl.reading = false → fl.timestamp ≤ s.tb.now → s.tb.now ≤ fl.deadline →
      exec .dataReadyCapture s =
        .next { captured with acq := { s.acq with inFlight := some { fl with reading := true } } }) ∧
    ((∀ fl, s.acq.inFlight = some fl → fl.reading = true ∨ s.tb.now < fl.timestamp ∨ fl.deadline < s.tb.now) →
      exec .dataReadyCapture s =
        .next { captured with acq := { s.acq with stray := min 65535 (s.acq.stray + 1) } })) ∧
  (∀ fl (s : State), s.pace.held = false → s.acq.inFlight = some fl →
    (∀ x, fl.reading = true →
      let frame := storedFrame fl (some x) s
      ∃ t, exec (.frameReadComplete x) s = .next t ∧
        (s.acq.ring.length < 8192 →
          t = (afterStoring frame s).onAcq fun a => { a with ring := s.acq.ring ++ [frame] }) ∧
        (8192 ≤ s.acq.ring.length → t.acq.ring = s.acq.ring.tail ++ [frame] ∧ t.det = (afterStoring frame s).det ∧
          t.acq.nextSeq = (frame.seq + 1) % 2 ^ 32)) ∧
    (fl.reading = false → fl.deadline < s.tb.now →
      let frame := storedFrame fl none s
      ∃ t, exec .dataReadyDeadline s = .next t ∧ t.acq.missing = (s.acq.missing + 1) % 2 ^ 32 ∧
        (s.acq.ring.length < 8192 →
          t = (afterStoring frame s).onAcq fun a =>
            { a with ring := s.acq.ring ++ [frame], missing := (s.acq.missing + 1) % 2 ^ 32 }) ∧
        (8192 ≤ s.acq.ring.length → t.acq.ring = s.acq.ring.tail ++ [frame] ∧ t.det = (afterStoring frame s).det))) ∧
  (∀ f oldest next rest (s : State), s.acq.ring = oldest :: next :: rest → 8192 ≤ s.acq.ring.length →
    let t := enterRing f s
    t.acq.ring = next :: rest ++ [f] ∧
    ((oldest.seq + (2 ^ 32 - s.acq.cursor % 2 ^ 32)) % 2 ^ 32 < 2 ^ 31 →
      t.acq.overrun = min 4294967295 (s.acq.overrun + 1) ∧ t.acq.cursor = next.seq ∧
      t.acq.holds = s.acq.holds.filter (fun e => !seqAtOrAfter oldest.seq e.mark &&
        match e.close with | none => true | some c => !seqAfter next.seq c) ∧
      (∀ e ∈ s.acq.holds, seqAtOrAfter oldest.seq e.mark = true →
        ∀ r ∈ t.ev.records, r.seq = e.event → r.ringLost = true)) ∧
    (2 ^ 31 ≤ (oldest.seq + (2 ^ 32 - s.acq.cursor % 2 ^ 32)) % 2 ^ 32 →
      t = s.onAcq fun a => { a with ring := next :: rest ++ [f] }))

/-- DRAIN_SAMPLES returns the overrun count and up to n frames from the cursor on, oldest first, moves the cursor past
the last one, sets the count to 0, and releases the holds whose close frame the cursor has passed; an n outside 1 to 8 is
OUT_OF_RANGE (R68, R72). What lies at or after the cursor is decided by R65's comparison, also after 2^31 or more skipped
strobes: the model's choice (notes/assumptions/54.md). -/
def Obligations.DrainReturnsFramesFromTheCursor : Prop :=
  ∀ p tag (n : Byte) (s : State), Admits p .drain s →
    let frames := (s.acq.ring.filter fun f => seqAtOrAfter f.seq s.acq.cursor).take n.toNat
    let cursor := match frames.getLast? with | none => s.acq.cursor | some f => (f.seq + 1) % 2 ^ 32
    let bytes (f : Frame) : List Byte :=
      be 4 f.seq ++ timeBytes f.timestamp ++
        flagsByte [f.samples.isNone, f.clipped, f.stepGap.isSome, f.marker, f.heaterEdge] ++
        (match f.samples with
         | none => zeros 18
         | some x => [x.s1, x.s2, x.s3, x.s4, x.s5, x.s6].flatMap fun v => be 3 v.toNat)
    (1 ≤ n.toNat → n.toNat ≤ 8 →
      exec (.drainSamples p tag [n]) s =
        .next ((s.onAcq fun a => { a with
          cursor := cursor, overrun := 0
          holds := s.acq.holds.filter fun e => match e.close with | none => true | some c => !seqAfter cursor c }).answered
          p tag .ok (be 4 s.acq.overrun ++ frames.flatMap bytes))) ∧
    (n.toNat = 0 ∨ 8 < n.toNat → exec (.drainSamples p tag [n]) s = .next (s.answered p tag .outOfRange []))

/-! ### The Detector and the Event Table (chapters 5 and 6) -/

/-- DETECTOR_FRAME takes the oldest frame handed over and does its whole work; DURATION_LIMIT, WARMUP_END and HOLDOFF_END
are that same step where the frame ends a trigger for its duration, a warm-up or a holdoff (R79, R82, R84, R85;
notes/assumptions/9.md). -/
def Obligations.DetectorFramesAreWorkedInOrder : Prop :=
  ∀ f rest (s : State), s.pace.held = false → s.det.waiting = f :: rest →
    let step := settle (workFrame f (s.onDet fun d => { d with waiting := rest }))
    exec .detectorFrame s = .next step ∧
    (∀ ch x, 1 ≤ ch → ch ≤ 6 → f.samples = some x → f.stepGap = none → s.det.gapRun ≤ 4 →
      let c := s.det.channels.get ch
      let p := s.det.params.get ch
      (c.state = .warmup → 2 ^ p.kl ≤ c.warm + 1 → exec (.warmupEnd ch) s = .next step) ∧
      (c.state = .holdoff → c.holdoff = 1 → exec (.holdoffEnd ch) s = .next step) ∧
      (∀ at' seq, c.state = .triggered → c.trigger = some (at', seq) →
        let d := sampleOf x ch - c.m / 256
        let sta := c.sta + ((min 8388607 d.natAbs : Nat) * 256 - c.sta) / (2 ^ p.ks : Nat)
        max c.lta (p.lmin * 256) * p.rd ≤ sta * 16 →
        s.det.cfg.maxDuration * s.acq.cfg.rate.perSec < (f.seq + (2 ^ 32 - seq % 2 ^ 32)) % 2 ^ 32 →
        exec (.durationLimit ch) s = .next step))

/-- The steps of a frame's work. Gap accounting adds the skipped strobes, and 1 for a MISSING frame, to the gap run;
above 4, or at a frame whose STEP_GAP count is 0, a gap action ends every trigger, puts every channel that is not OFF
into WARMUP with its count at 0, flags an OPEN episode, is counted and empties the run, and the broken time scale
discards a heater edge later than the frame; a frame with samples then empties the run. Each channel takes its own
sample, the new triggers are counted, and a participant that ends takes its reason and its peaks. The vote sum adds the
weights of the channels counted within the window of the earliest one, the lower number first where two are equal; below
the threshold nothing is declared. The closing check and the quiet request follow (R79, R80, R83, R86, R87, R89, R91,
R94). The model's choices: the sum is held for GET_DETECTOR (notes/assumptions/38.md), the channels join by number
(notes/assumptions/37.md), and a channel put into WARMUP keeps the rest of its holdoff count (notes/assumptions/50.md). -/
def Obligations.FramesFormGapsAndVotes : Prop :=
  (∀ (frame : Frame) (d : Detector),
    let run := d.gapRun + frame.stepGap.getD 0 + (if frame.samples = none then 1 else 0)
    (frame.stepGap ≠ some 0 → run ≤ 4 →
      gapAccounting frame d = { d with gapRun := if frame.samples = none then run else 0 }) ∧
    (frame.stepGap = some 0 ∨ 4 < run →
      gapAccounting frame d = { d with
        gapRun := 0, gapActions := min 65535 (d.gapActions + 1)
        gapFlag := match d.episode with | .opened _ => true | .none => d.gapFlag | .lost => d.gapFlag
        lastEdge := match d.lastEdge with
          | none => none
          | some e => if frame.stepGap = some 0 ∧ frame.timestamp < e then none else some e
        channels := d.channels.map fun _ c => if c.state = .off then c else { c with state := .warmup, warm := 0 }
        participants := d.participants.map fun p =>
          let c := d.channels.get p.channel
          if 1 ≤ p.channel ∧ p.channel ≤ 6 ∧ c.state = .triggered ∧ p.reason = none then
            { p with reason := some .gap, peakD := max p.peakD c.peakD, peakRatio := max p.peakRatio c.peakRatio }
          else p })) ∧
  (∀ d : Detector,
    ((∀ ch, ¬Counted d ch) → voteSum d = 0) ∧
    (∀ first, EarliestCounted d first → voteSum d =
      ([1, 2, 3, 4, 5, 6].map fun ch =>
        if (d.channels.get ch).state = .triggered ∧ (d.channels.get ch).suspect = false ∧
            triggerTime d ch ≤ triggerTime d first + d.cfg.window * 1000000 then (d.params.get ch).weight
        else 0).sum)) ∧
  (∀ frame joiners (s : State), s.det.episode = .none →
    (∀ ch, ¬Counted s.det ch) ∨ voteSum s.det < s.det.cfg.threshold → voteAndUpdate frame joiners s = s) ∧
  (∀ frame (s : State),
    let d := gapAccounting frame s.det
    let ended (x : State) : State := formQuiet (closeIfDone frame.timestamp frame.seq x)
    (frame.samples = none →
      workFrame frame s = ended (voteAndUpdate frame [] { s with det := { d with vote := voteSum d } })) ∧
    (∀ x, frame.samples = some x →
      let work (ch : Nat) : Channel × ChannelNews :=
        channelWork frame (sampleOf x ch) s.acq.cfg.rate.perSec d.cfg d.lastEdge (d.params.get ch) (d.channels.get ch)
      let triggered := [1, 2, 3, 4, 5, 6].filter fun ch => (work ch).2 == .triggered
      let new : Detector := { d with
        channels := ⟨(work 1).1, (work 2).1, (work 3).1, (work 4).1, (work 5).1, (work 6).1⟩
        triggers := (d.triggers + triggered.length) % 2 ^ 32
        suspects := (d.suspects + (triggered.filter fun ch => (work ch).1.suspect).length) % 2 ^ 32
        participants := d.participants.map fun p =>
          match (work p.channel).2, p.reason with
          | .ended r, none => { p with
              reason := some r, peakD := max p.peakD (work p.channel).1.peakD
              peakRatio := max p.peakRatio (work p.channel).1.peakRatio }
          | _, _ => p }
      workFrame frame s = ended (voteAndUpdate frame triggered { s with det := { new with vote := voteSum new } })))

/-- The channel arithmetic of one frame (R81 to R86): the offset, STA and LTA follow their shifts; QUIET triggers at the
trigger ratio, TRIGGERED holds its LTA and detriggers below the detrigger ratio or beyond the maximum duration, WARMUP
and HOLDOFF count down to QUIET, and OFF takes nothing. -/
def Obligations.ChannelsFollowTheirAverages : Prop :=
  ∀ (frame : Frame) (x : Int) (rate : Nat) (cfg : DetectorCfg) (edge : Option Time) (p : ChannelCfg) (c : Channel),
    let d := x - c.m / 256
    let m := c.m + d * 256 / (2 ^ p.h : Nat)
    let e := min 8388607 d.natAbs
    let sta := c.sta + ((e : Int) * 256 - c.sta) / (2 ^ p.ks : Nat)
    let floor : Int := max c.lta (p.lmin * 256)
    let lta := c.lta + ((e : Int) * 256 - c.lta) / (2 ^ p.kl : Nat)
    let ratio := if floor = 0 then 65535 else (min 65535 (sta * 16 / floor)).toNat
    let out := channelWork frame x rate cfg edge p c
    (c.state = .off → out = (c, .nothing)) ∧
    (c.state = .warmup → out = ({ c with
      m := m, sta := sta, lta := lta, warm := c.warm + 1
      state := if 2 ^ p.kl ≤ c.warm + 1 then .quiet else .warmup }, .nothing)) ∧
    (c.state = .quiet → sta * 16 < floor * p.rt → out = ({ c with m := m, sta := sta, lta := lta }, .nothing)) ∧
    (c.state = .quiet → floor * p.rt ≤ sta * 16 → out = ({ c with
      m := m, sta := sta, state := .triggered, trigger := some (frame.timestamp, frame.seq), peakD := e
      peakRatio := ratio
      suspect := match edge with
        | none => false
        | some t => decide (0 < cfg.guard ∧ frame.timestamp ≤ t + cfg.guard * 1000000) }, .triggered)) ∧
    (c.state = .triggered → sta * 16 < floor * p.rd → out = ({ c with
      m := m, sta := sta, lta := lta, state := .holdoff, holdoff := cfg.holdoffTime * rate }, .ended .ratio)) ∧
    (∀ at' seq, c.state = .triggered → c.trigger = some (at', seq) → floor * p.rd ≤ sta * 16 →
      let peaked : Channel := { c with m := m, sta := sta, peakD := max c.peakD e, peakRatio := max c.peakRatio ratio }
      let since := (frame.seq + (2 ^ 32 - seq % 2 ^ 32)) % 2 ^ 32
      (since ≤ cfg.maxDuration * rate → out = (peaked, .nothing)) ∧
      (cfg.maxDuration * rate < since →
        out = ({ peaked with state := .holdoff, holdoff := cfg.holdoffTime * rate }, .ended .duration))) ∧
    (c.state = .holdoff → 1 ≤ c.holdoff → out = ({ c with
      m := m, sta := sta, lta := lta, holdoff := c.holdoff - 1
      state := if c.holdoff = 1 then .quiet else .holdoff }, .nothing))

/-- An episode that goes on. A channel that triggers joins at the end of the list with its offset, or, already in it, gets
its reason cleared and its larger peaks. The class comes from the largest peak of the participants that are not suspect,
and only rises, as the vote peak does; CLIPPED is kept. While OPEN the record takes all this in one update; a rise tells
EVENT_CLASS, at 2 or more asks for the recorder wake and the hold, and at 3 escalates; a LOST episode asks for the wake
alone. A hold is entered with its mark unless the event has one; of four that stand the one of lowest mark, then of lowest
event, gives way and its record takes RING_LOST. A change of the quiet request is reported, and at its end
each held heater takes the level its schedule calls for (R70, R89, R90, R92 to R94, R104, R109, R169, R180,
R182). -/
def Obligations.EpisodesJoinAndRise : Prop :=
  (∀ ch (d : Detector),
    let c := d.channels.get ch
    ((∀ p ∈ d.participants, p.channel ≠ ch) → joinEpisode ch d = { d with participants := d.participants ++
      [{ channel := ch, offset := min 65535 (framesAfter d d.onsetFrame ch), peakD := c.peakD, peakRatio := c.peakRatio
         reason := none, suspect := c.suspect }] }) ∧
    ((∃ p ∈ d.participants, p.channel = ch) → joinEpisode ch d = { d with participants := d.participants.map fun p =>
      if p.channel = ch then { p with
        reason := none, peakD := max p.peakD c.peakD, peakRatio := max p.peakRatio c.peakRatio
        suspect := p.suspect && c.suspect } else p })) ∧
  (∀ d : Detector,
    let reaches (n : Nat) : Prop := ∃ p ∈ d.participants, p.suspect = false ∧
      n ≤ (if p.reason = none then max p.peakD (d.channels.get p.channel).peakD else p.peakD)
    (reaches d.cfg.t3 → classNow d = 3) ∧ (¬reaches d.cfg.t3 → reaches d.cfg.t2 → classNow d = 2) ∧
    (¬reaches d.cfg.t3 → ¬reaches d.cfg.t2 → classNow d = 1)) ∧
  (∀ frame joiners (s : State),
    let joined := joiners.foldl (fun d ch => joinEpisode ch d) s.det
    let cls := max s.det.cls (classNow joined)
    let new : Detector := { joined with
      cls := cls, votePeak := max s.det.votePeak (voteSum s.det), clippedFlag := s.det.clippedFlag || frame.clipped }
    let wake (x : State) : State := x.onLoad .recorder fun r =>
      { r with asks := { r.asks with detector := .until (s.pace.seconds + s.pw.act.eventWake) } }
    (s.det.episode = .lost → voteAndUpdate frame joiners s =
      if s.det.cls < cls ∧ 2 ≤ cls then wake { s with det := new } else { s with det := new }) ∧
    (∀ seq, s.det.episode = .opened seq →
      let updated : State := { s with
        det := new
        ev := { s.ev with records := s.ev.records.map fun r =>
          let x : Record := { r with
            participants := new.participants, cls := max r.cls cls, votePeak := new.votePeak
            clipped := r.clipped || new.clippedFlag, gap := r.gap || new.gapFlag }
          if r.closed ∨ x = r then r else { x with revision := (r.revision + 1) % 256 } } }
      let strong := if 2 ≤ cls then holdRequest seq s.det.onsetFrame (wake updated) else updated
      let told := { strong with ports := s.ports.map fun r => { r with notices := r.notices ||| 0x4 } }
      voteAndUpdate frame joiners s =
        if s.det.cls < cls then (if cls = 3 then escalate seq told else told) else updated)) ∧
  (∀ event onset (s : State),
    let mark := (onset + (2 ^ 32 - (s.acq.cfg.preEvent * s.acq.cfg.rate.perSec) % 2 ^ 32)) % 2 ^ 32
    ((∃ e ∈ s.acq.holds, e.event = event) → holdRequest event onset s = s) ∧
    (∀ oldest rest, (∀ e ∈ s.acq.holds, e.event ≠ event) → s.acq.holds.length < 4 → s.acq.ring = oldest :: rest →
      holdRequest event onset s = s.onAcq fun a => { a with holds := a.holds ++ [{
        event := event, close := none
        mark := if (∃ f ∈ a.ring, f.seq = onset) ∧ (mark + (2 ^ 32 - oldest.seq % 2 ^ 32)) % 2 ^ 32 < 2 ^ 31 then mark
          else oldest.seq }] }) ∧
    (∀ oldest rest out, (∀ e ∈ s.acq.holds, e.event ≠ event) → 4 ≤ s.acq.holds.length → s.acq.ring = oldest :: rest →
      out ∈ s.acq.holds →
      (∀ e ∈ s.acq.holds, e ≠ out →
        (let d := (e.mark + (2 ^ 32 - out.mark % 2 ^ 32)) % 2 ^ 32; 0 < d ∧ d < 2 ^ 31) ∨
          (e.mark = out.mark ∧ out.event < e.event)) →
      holdRequest event onset s = { s with
        ev := { s.ev with records := s.ev.records.map fun r =>
          if r.seq ≠ out.event ∨ r.ringLost then r
          else if r.closed then { r with ringLost := true }
          else { r with ringLost := true, revision := (r.revision + 1) % 256 } }
        acq := { s.acq with holds := s.acq.holds.filter (fun e => e != out) ++ [{
          event := event, close := none
          mark := if (∃ f ∈ s.acq.ring, f.seq = onset) ∧ (mark + (2 ^ 32 - oldest.seq % 2 ^ 32)) % 2 ^ 32 < 2 ^ 31 then mark
            else oldest.seq }] } })) ∧
  (∀ s : State,
    let wanted : Prop := (∃ seq, s.det.episode = .opened seq) ∨
      ∃ ch, 1 ≤ ch ∧ ch ≤ 6 ∧ (s.det.channels.get ch).state = .triggered
    let report (q : Bool) : State :=
      { s with det := { s.det with quiet := q }, ht := { s.ht with quiet := q } }
    let holds (h : Heater) (x : State) : State :=
      if (x.ht.units.get h).deferral = .none then
        { x with
          ccu := { x.ccu with heaters := x.ccu.heaters.update h fun c => { c with hold := true } }
          ht := { x.ht with units := x.ht.units.update h fun u => { u with deferral := .holding } } }
      else x
    let ends (h : Heater) (x : State) : State :=
      let free : State := { x with
        ccu := { x.ccu with heaters := x.ccu.heaters.update h fun c => { c with hold := false } }
        ht := { x.ht with units := x.ht.units.update h fun u => { u with deferral := .none } } }
      if (x.ccu.heaters.get h).hold then driveOutput h ((x.ccu.heaters.get h).level s.tb.now) s.tb.now false free else free
    ((wanted ↔ s.det.quiet = true) → formQuiet s = s) ∧
    (wanted → s.det.quiet = false → formQuiet s = holds .ho (holds .hb (report true))) ∧
    (¬wanted → s.det.quiet = true → formQuiet s = ends .ho (ends .hb (report false))))

/-- A declaration: without an episode, a vote sum at or above the threshold declares with the earliest counted trigger as
its onset, and with the TRIGGERED channels that triggered at or after it as participants. It consumes a sequence of the
Event Table: with room the record is placed, in a full table in place of the record of lowest sequence that qualifies, and its
QUAKE_DECLARED notice is asked for, which takes the lowest EMPTY slot and pins the record, or meets NO_SLOT; without room
the declaration is lost and counted, and no notice is asked for. The class is that of the participants, and at 2 or more the
recorder wake follows, and for a placed record the hold (R87, R88, R92, R93, R100, R102, R103, R107, R108).

An episode closes when no participant is still TRIGGERED: the OPEN record becomes CLOSED with its close time and one
more increment of its revision, the episode is none, and a QUAKE_SUMMARY at ROUTINE is asked for, which takes the lowest
EMPTY slot and pins the record, or meets NO_SLOT; while one is TRIGGERED nothing closes. A LOST episode ends
alike, without a record or a notice (R91, R92, R103, R106 to R109). -/
def Obligations.EventsAreDeclaredAndClosed : Prop :=
  (∀ (frame : Frame) (first : Nat) (joiners : List Nat) (s : State), s.det.episode = .none →
    EarliestCounted s.det first → s.det.cfg.threshold ≤ voteSum s.det → s.nt.slots.length = 12 →
    let t := voteAndUpdate frame joiners s
    let onset := ((s.det.channels.get first).trigger.getD (0, 0))
    let cls : NoticeClass := if t.det.cls = 3 then .alarm else s.det.cfg.priority
    let tag := (s.nt.tagCounter + 1) % 256
    t.ev.nextSeq = (if s.ev.nextSeq < 2 ^ 32 - 1 then s.ev.nextSeq + 1 else 1) ∧
    t.det.onsetTime = onset.1 ∧ t.det.onsetFrame = onset.2 ∧ t.det.channels = s.det.channels ∧
    t.det.votePeak = voteSum s.det ∧ t.det.clippedFlag = frame.clipped ∧ t.det.gapFlag = false ∧
    (∃ chs : List Nat,
      chs.Perm ([1, 2, 3, 4, 5, 6].filter fun ch =>
        (s.det.channels.get ch).state == .triggered && decide (framesAfter s.det onset.2 ch < 2 ^ 31)) ∧
      (chs.Pairwise fun a b => framesAfter s.det onset.2 a < framesAfter s.det onset.2 b ∨
        (framesAfter s.det onset.2 a = framesAfter s.det onset.2 b ∧ a < b)) ∧
      t.det.participants = chs.map fun ch =>
        { channel := ch, offset := min 65535 (framesAfter s.det onset.2 ch), reason := none
          peakD := (s.det.channels.get ch).peakD, peakRatio := (s.det.channels.get ch).peakRatio
          suspect := (s.det.channels.get ch).suspect }) ∧
    t.det.cls = classNow t.det ∧
    (let made : Record :=
      { seq := s.ev.nextSeq, closed := false, revision := 0, onset := onset.1, declared := frame.timestamp, close := none
        timeState := s.tb.state, uncertainty := s.tb.uncertainty
        onsetFrame := if ∃ f ∈ s.acq.ring, f.seq = onset.2 then some onset.2 else none
        cls := t.det.cls, votePeak := voteSum s.det, participants := t.det.participants, heaterSwitched := false
        levelChanged := false, gap := false, ringLost := false, clipped := frame.clipped, lostBefore := s.ev.lostPending
        declaredOutcome := .none, updateOutcome := .none, summaryOutcome := .none, pins := 0 }
    let wake (x : State) : State := x.onLoad .recorder fun r =>
      { r with asks := { r.asks with detector := .until (s.pace.seconds + s.pw.act.eventWake) } }
    let episode (e : Episode) (x : State) : State := { x with det := { x.det with
      onsetTime := onset.1, onsetFrame := onset.2, participants := t.det.participants, votePeak := voteSum s.det
      clippedFlag := frame.clipped, gapFlag := false, cls := t.det.cls, episode := e } }
    let next := if s.ev.nextSeq < 2 ^ 32 - 1 then s.ev.nextSeq + 1 else 1
    let placed (left : List Record) : Prop :=
      let asked := (requestNotice
        { kind := .quakeDeclared, cls := cls, origin := .detector, event := some s.ev.nextSeq, reason := .levelEntry }
        (episode (.opened s.ev.nextSeq) { s with
          ev := { s.ev with records := left ++ [made], nextSeq := next, lostPending := 0 }
          ports := s.ports.map fun r => { r with notices := r.notices ||| 1 } })).1
      t = if 2 ≤ t.det.cls then holdRequest s.ev.nextSeq onset.2 (wake asked) else asked
    let given (r : Record) : Prop := r.closed = true ∧ r.pins = 0 ∧
      (s.ev.unreadProtection = true → ∀ q, drainHolder s = some q → r.seq ≤ s.ev.cursors.get q)
    (s.ev.records.length < 32 → placed s.ev.records) ∧
    (∀ out ∈ s.ev.records, 32 ≤ s.ev.records.length → given out →
      (∀ r ∈ s.ev.records, given r → out.seq ≤ r.seq) → placed (s.ev.records.filter fun r => r.seq != out.seq)) ∧
    (32 ≤ s.ev.records.length → (∀ r ∈ s.ev.records, ¬given r) →
      let lost := episode .lost { s with ev := { s.ev with
        nextSeq := next, lost := (s.ev.lost + 1) % 2 ^ 32, lostPending := min 255 (s.ev.lostPending + 1) } }
      t = if 2 ≤ t.det.cls then wake lost else lost)) ∧
    (s.ev.records.length < 32 → t.det.episode = .opened s.ev.nextSeq ∧ t.ev.lostPending = 0 ∧ t.ev.lost = s.ev.lost ∧
      (∀ q, (t.ports.get q).notices.getLsbD 0 = true) ∧
      ∃ r ∈ t.ev.records, r.seq = s.ev.nextSeq ∧ r.closed = false ∧ r.onset = onset.1 ∧
        r.declared = frame.timestamp ∧ r.timeState = s.tb.state ∧ r.uncertainty = s.tb.uncertainty ∧
        r.lostBefore = s.ev.lostPending ∧ r.cls = t.det.cls ∧ r.votePeak = voteSum s.det ∧
        r.participants = t.det.participants ∧
        (∀ n, n < 12 → (slotAt n s).state = .empty → (∀ m, m < n → (slotAt m s).state ≠ .empty) →
          r.declaredOutcome = .pending ∧ r.pins = 1 ∧ t.nt.tagCounter = tag ∧ slotAt n t = { Slot.clear with
            state := .waiting, kind := .quakeDeclared, cls := cls, origin := .detector, event := some s.ev.nextSeq
            preemptible := true, tag := tag, queued := s.tb.now }) ∧
        ((∀ m, m < 12 → (slotAt m s).state ≠ .empty) →
          (cls = .alarm → ∀ m, m < 12 → (slotAt m s).state = .waiting → (slotAt m s).cls = .routine →
            (slotAt m s).responder = true) →
          r.declaredOutcome = .notQueued ∧ r.pins = 0 ∧ t.nt.slots = s.nt.slots ∧
            t.nt.unqueued = min 65535 (s.nt.unqueued + 1))) ∧
    (32 ≤ s.ev.records.length → (∀ r ∈ s.ev.records, r.closed = false ∨ 0 < r.pins ∨
        (s.ev.unreadProtection = true ∧ ∃ q, (s.ports.get q).rights.drain = true ∧ drainHolder s = some q ∧
          s.ev.cursors.get q < r.seq)) →
      t.det.episode = .lost ∧ t.ev.records = s.ev.records ∧ t.ev.lost = (s.ev.lost + 1) % 2 ^ 32 ∧
        t.ev.lostPending = min 255 (s.ev.lostPending + 1) ∧ t.nt = s.nt)) ∧
  ((∀ (at' : Time) (n seq : Nat) (s : State), s.det.episode = .opened seq → s.nt.slots.length = 12 →
    ((∃ p ∈ s.det.participants, p.reason = none) → closeIfDone at' n s = s) ∧
    ((∀ p ∈ s.det.participants, p.reason ≠ none) →
      let t := closeIfDone at' n s
      t.det.episode = .none ∧ t.det.participants = [] ∧ t.det.channels = s.det.channels ∧
      (∀ q, (t.ports.get q).notices.getLsbD 1 = true) ∧
      t.ev.records.map (fun r => (r.seq, r.closed, r.close, r.revision)) =
        (s.ev.records.map fun r =>
          if r.seq = seq then (r.seq, true, some at', (r.revision + 1) % 256)
          else (r.seq, r.closed, r.close, r.revision)) ∧
      (∀ k, k < 12 → (slotAt k s).state = .empty → (∀ m, m < k → (slotAt m s).state ≠ .empty) →
        let tag := (s.nt.tagCounter + 1) % 256
        t.nt.tagCounter = tag ∧ slotAt k t = { Slot.clear with
          state := .waiting, kind := .quakeSummary, cls := .routine, origin := .detector, event := some seq
          preemptible := true, tag := tag, queued := s.tb.now } ∧
        t.ev.records.map (fun r => (r.seq, r.summaryOutcome, r.pins)) = s.ev.records.map fun r =>
          if r.seq = seq then (r.seq, .pending, r.pins + 1) else (r.seq, r.summaryOutcome, r.pins)) ∧
      ((∀ m, m < 12 → (slotAt m s).state ≠ .empty) →
        t.nt = { s.nt with unqueued := min 65535 (s.nt.unqueued + 1) } ∧
        t.ev.records.map (fun r => (r.seq, r.summaryOutcome, r.pins)) = s.ev.records.map fun r =>
          if r.seq = seq then (r.seq, .notQueued, r.pins) else (r.seq, r.summaryOutcome, r.pins)))) ∧
  (∀ (at' : Time) (n : Nat) (s : State), s.det.episode = .lost →
    ((∃ p ∈ s.det.participants, p.reason = none) → closeIfDone at' n s = s) ∧
    ((∀ p ∈ s.det.participants, p.reason ≠ none) → closeIfDone at' n s = { s with det := { s.det with
      episode := .none, participants := [], onsetTime := 0, onsetFrame := 0, cls := 0, votePeak := 0, gapFlag := false
      clippedFlag := false } })))

/-- SET_ACQUISITION writes the settle time and the pre-event time within their ranges; SET_DETECTOR writes the sample
rate and the Detector's settings within theirs, and a change of rate waits as channel 4's pending period for the next
whole second and starts every channel over; SET_DETECTOR_CHANNEL replaces one channel's parameters and puts it to work by
them, in WARMUP with its count at 0 or OFF with its counters held, ends its trigger with the participant's final peaks,
and leaves the rest of the Detector as it was; after either the OPEN record takes the update of the participants, the
class, the vote peak and the CLIPPED and GAP flags, its revision moving when one of these changes, an episode whose
participants have all detriggered closes at once and the quiet request is formed; GET_DETECTOR_CHANNEL reads a channel
(R74, R75, R77, R78, R91, R94, R97, R98, R104). That a channel keeps the rest of its holdoff count is the model's choice
(notes/assumptions/50.md). -/
def Obligations.DetectorSettingsAreWritten : Prop :=
  (∀ p tag (settleTime : Nat) (pre : Byte) (s : State), Admits p .configure s → settleTime < 65536 →
    let args := be 2 settleTime ++ [pre]
    (settleTime ≤ 600 → pre.toNat ≤ 30 →
      exec (.setAcquisition p tag args) s =
        .next ((s.onAcq fun a => { a with cfg := { a.cfg with settleTime := settleTime, preEvent := pre.toNat } }).answered
          p tag .ok [])) ∧
    (600 < settleTime ∨ 30 < pre.toNat →
      exec (.setAcquisition p tag args) s = .next (s.answered p tag .outOfRange []))) ∧
  (∀ p tag (rateCode priority : Byte) (c : DetectorCfg) (s : State), Admits p .configure s →
    c.holdoffTime < 2 ^ 8 → c.maxDuration < 2 ^ 16 → c.guard < 2 ^ 8 → c.window < 2 ^ 8 → c.threshold < 2 ^ 8 →
    c.t2 < 2 ^ 32 → c.t3 < 2 ^ 32 → priority.toNat = (match c.priority with | .routine => 0 | .urgent => 1 | .alarm => 2) →
    let args := [rateCode] ++ be 1 c.holdoffTime ++ be 2 c.maxDuration ++ be 1 c.guard ++ be 1 c.window ++
      be 1 c.threshold ++ be 4 c.t2 ++ be 4 c.t3 ++ [priority]
    let ok := rateCode.toNat ≤ 2 ∧ (1 ≤ c.holdoffTime ∧ c.holdoffTime ≤ 30) ∧
      (5 ≤ c.maxDuration ∧ c.maxDuration ≤ 600) ∧ c.guard ≤ 100 ∧ (1 ≤ c.window ∧ c.window ≤ 100) ∧
      (1 ≤ c.threshold ∧ c.threshold ≤ 18) ∧ (1 ≤ c.t2 ∧ c.t2 ≤ 8388606) ∧ (c.t2 < c.t3 ∧ c.t3 ≤ 8388607)
    let rate : SampleRate := if rateCode = 0 then .r50 else if rateCode = 1 then .r100 else .r200
    let period := if rateCode = 0 then 200000 else if rateCode = 1 then 100000 else 50000
    (ok → rate = s.acq.cfg.rate →
      exec (.setDetector p tag args) s =
        .next ((settle ((s.taking p tag).onDet fun d => { d with cfg := c })).replied p tag [])) ∧
    (ok → rate ≠ s.acq.cfg.rate → s.acq.state = .running → s.ccu.ch4.mode ≠ .off →
      exec (.setDetector p tag args) s =
        .next ((settle (detectorRateChange { s.taking p tag with
          det := { s.det with cfg := c }
          acq := { s.acq with cfg := { s.acq.cfg with rate := rate } }
          ccu := { s.ccu with ch4 := { s.ccu.ch4 with waiting := some {
            period := period, phase := 0, loadTime := some ((s.tb.now / 10000000 + 1) * 10000000) } } } })).replied
          p tag [])) ∧
    (ok → rate ≠ s.acq.cfg.rate → s.acq.state ≠ .running →
      exec (.setDetector p tag args) s =
        .next ((settle (detectorRateChange { s.taking p tag with
          det := { s.det with cfg := c }
          acq := { s.acq with cfg := { s.acq.cfg with rate := rate } } })).replied p tag [])) ∧
    (¬ok → exec (.setDetector p tag args) s = .next (s.answered p tag .outOfRange []))) ∧
  (∀ p tag (front : List Byte) (priority : Byte) (s : State), Admits p .configure s → front.length = 15 →
    2 < priority.toNat → exec (.setDetector p tag (front ++ [priority])) s = .next (s.answered p tag .outOfRange [])) ∧
  (∀ p tag (ch enabled critical : Byte) (c : ChannelCfg) (s : State), Admits p .configure s →
    c.weight < 2 ^ 8 → c.h < 2 ^ 8 → c.ks < 2 ^ 8 → c.kl < 2 ^ 8 → c.rt < 2 ^ 8 → c.rd < 2 ^ 8 → c.lmin < 2 ^ 16 →
    c.enabled = (enabled == 1) → c.critical = (critical == 1) →
    let args := [ch, enabled] ++ be 1 c.weight ++ be 1 c.h ++ be 1 c.ks ++ be 1 c.kl ++ be 1 c.rt ++ be 1 c.rd ++
      be 2 c.lmin ++ [critical]
    let ok := (1 ≤ ch.toNat ∧ ch.toNat ≤ 6) ∧ enabled.toNat ≤ 1 ∧ critical.toNat ≤ 1 ∧ c.weight ≤ 3 ∧
      (4 ≤ c.h ∧ c.h ≤ 12) ∧ (1 ≤ c.ks ∧ c.ks ≤ 8) ∧ (6 ≤ c.kl ∧ c.kl ≤ 14) ∧ c.ks + 3 ≤ c.kl ∧ 20 ≤ c.rt ∧
      (16 ≤ c.rd ∧ c.rd < c.rt)
    (ok → ∃ x : Detector, exec (.setDetectorChannel p tag args) s =
        .next ((settle (afterChannelChange ((s.taking p tag).onDet fun _ => x))).replied p tag []) ∧
      x = { s.det with
        params := x.params, channels := x.channels
        participants := s.det.participants.map fun r =>
          let old := s.det.channels.get ch.toNat
          if old.state = .triggered ∧ r.channel = ch.toNat ∧ r.reason = none then
            { r with reason := some .reconfigured, peakD := max r.peakD old.peakD, peakRatio := max r.peakRatio old.peakRatio }
          else r } ∧
      x.params = s.det.params.update ch.toNat (fun _ => c) ∧
      x.channels = s.det.channels.update ch.toNat (fun old =>
        if c.enabled ∧ (c.critical ∨ (s.pw.level ≠ some .critical ∧ s.pw.level ≠ some .dormant)) then
          { old with state := .warmup, warm := 0 }
        else { old with state := .off }) ∧
      (x.participants.map fun r => (r.channel, r.reason)) = s.det.participants.map fun r =>
        (r.channel,
          if (s.det.channels.get ch.toNat).state = .triggered ∧ r.channel = ch.toNat ∧ r.reason = none then
            some .reconfigured
          else r.reason)) ∧
    (¬ok → exec (.setDetectorChannel p tag args) s = .next (s.answered p tag .outOfRange []))) ∧
  (∀ s : State, (∀ p ∈ s.det.participants, 1 ≤ p.channel ∧ p.channel ≤ 6) →
    detectorRateChange s = afterChannelChange { s with det := { s.det with
      channels := s.det.channels.map fun _ c => if c.state = .off then c else { c with state := .warmup, warm := 0 }
      participants := s.det.participants.map fun p =>
        let c := s.det.channels.get p.channel
        if c.state = .triggered ∧ p.reason = none then
          { p with reason := some .reconfigured, peakD := max p.peakD c.peakD, peakRatio := max p.peakRatio c.peakRatio }
        else p
      gapFlag := s.det.gapFlag || match s.det.episode with | .opened _ => true | .none => false | .lost => false } }) ∧
  (∀ s : State, afterChannelChange s = formQuiet (closeIfDone s.tb.now s.det.lastHanded (handUpdate s))) ∧
  (∀ s : State,
    let taken (r : Record) : Record := { r with
      participants := s.det.participants, cls := max r.cls s.det.cls, votePeak := s.det.votePeak
      clipped := r.clipped || s.det.clippedFlag, gap := r.gap || s.det.gapFlag }
    (∀ seq, s.det.episode = .opened seq → handUpdate s = { s with ev := { s.ev with
      records := s.ev.records.map fun r =>
        if r.closed ∨ taken r = r then r else { taken r with revision := (r.revision + 1) % 256 } } }) ∧
    ((∀ seq, s.det.episode ≠ .opened seq) → handUpdate s = s)) ∧
  (∀ p tag (ch : Byte) (s : State), Admits p .read s →
    let c := s.det.params.get ch.toNat
    let x := s.det.channels.get ch.toNat
    exec (.getDetectorChannel p tag [ch]) s =
      .next (if 1 ≤ ch.toNat ∧ ch.toNat ≤ 6 then
          s.answered p tag .ok
            ([ch] ++ be 1 (if c.enabled then 1 else 0) ++ be 1 c.weight ++ be 1 c.h ++ be 1 c.ks ++ be 1 c.kl ++
              be 1 c.rt ++ be 1 c.rd ++ be 2 c.lmin ++ be 1 (if c.critical then 1 else 0) ++
              be 1 (match x.state with | .off => 0 | .warmup => 1 | .quiet => 2 | .triggered => 3 | .holdoff => 4) ++
              be 1 (if x.suspect then 1 else 0) ++ beInt 4 x.m ++ beInt 4 x.sta ++ beInt 4 x.lta ++ be 2 x.warm ++
              (match x.trigger with | none => zeros 12 | some (t, f) => timeBytes t ++ be 4 f) ++ be 4 x.peakD ++
              be 2 x.peakRatio ++ be 2 x.holdoff)
        else s.answered p tag .outOfRange []))

/-- GET_EVENT reads a record or finds none; ACK_EVENTS moves the port's cursor to the least of its argument and the
highest CLOSED sequence below the OPEN record, never back; SET_EVENT_TABLE writes unread protection (R107, R110, R112,
R113, section 6.7). -/
def Obligations.EventTableCommands : Prop :=
  (∀ p tag (seq : Nat) (s : State), Admits p .read s → seq < 2 ^ 32 →
    ((∀ r ∈ s.ev.records, r.seq ≠ seq) →
      exec (.getEvent p tag (be 4 seq)) s = .next (s.answered p tag .notFound [])) ∧
    (∀ r, s.ev.records.find? (fun x => x.seq == seq) = some r →
      exec (.getEvent p tag (be 4 seq)) s = .next (s.answered p tag .ok
        (be 4 r.seq ++ be 1 (if r.closed then 1 else 0) ++ be 1 r.revision ++ timeBytes r.onset ++ timeBytes r.declared ++
          (match r.close with | none => zeros 8 | some t => timeBytes t) ++
          be 1 (match r.timeState with | .free => 0 | .acquiring => 1 | .locked => 2 | .holdover => 3 | .adrift => 4) ++
          be 4 r.uncertainty ++ be 1 r.cls ++ be 1 r.votePeak ++
          flagsByte [r.heaterSwitched, r.levelChanged, r.gap, r.ringLost, r.clipped, r.onsetFrame.isSome] ++
          be 4 (r.onsetFrame.getD 0) ++ be 1 r.lostBefore ++ be 1 r.declaredOutcome.code ++ be 1 r.updateOutcome.code ++
          be 1 r.summaryOutcome.code ++ be 1 r.pins ++ be 1 r.participants.length ++
          r.participants.flatMap fun x => be 1 x.channel ++ be 2 x.offset ++ be 4 x.peakD ++ be 2 x.peakRatio ++
            be 1 (match x.reason with
              | none => 0 | some .ratio => 1 | some .duration => 2 | some .gap => 3 | some .sensorOff => 4
              | some .reconfigured => 5) ++
            be 1 (if x.suspect then 1 else 0))))) ∧
  (∀ p tag (arg : Nat) (s : State), Admits p .read s → arg < 2 ^ 32 →
    let allowed (r : Record) : Prop :=
      r.closed = true ∧ ∀ o, s.ev.records.find? (fun x => !x.closed) = some o → r.seq < o.seq
    ∃ limit new, exec (.ackEvents p tag (be 4 arg)) s =
        .next ((s.onEv fun ev => { ev with cursors := ev.cursors.update p fun _ => new }).answered p tag .ok
          (be 4 new)) ∧
      new = max (s.ev.cursors.get p) (min arg limit) ∧ (∀ r ∈ s.ev.records, allowed r → r.seq ≤ limit) ∧
      (limit = 0 ∨ ∃ r ∈ s.ev.records, allowed r ∧ r.seq = limit)) ∧
  (∀ p tag (b : Byte) (s : State), Admits p .configure s →
    (b.toNat ≤ 1 → exec (.setEventTable p tag [b]) s =
      .next ((s.onEv fun ev => { ev with unreadProtection := b == 1 }).answered p tag .ok [])) ∧
    (1 < b.toNat → exec (.setEventTable p tag [b]) s = .next (s.answered p tag .outOfRange [])))

/-! ### The alert link (chapter 7) -/

/-- The line and the transmitter: RADIO_WARM ends the warm-up, KEY_UP_LEAD_END puts the frame on air at the rate of its
key-up, and END_OF_AIR opens the ack window of a segment or a probe, aborts a segment whose abort waits, or takes a
REPLY from the queue (R115, R117, R121, R130, R140, R145). -/
def Obligations.TransmissionsRunToTheEndOfAir : Prop :=
  (∀ s : State, s.pace.held = false → s.pw.loads.radio.on = true → s.link.warm = false → s.link.warmAt ≤ s.pace.cycles →
    exec .radioWarm s = .next (settle (s.onLink fun l => { l with warm := true }))) ∧
  (∀ frame o leadEnd rate (s : State), s.pace.held = false → s.link.tx = .keying frame o leadEnd rate →
    leadEnd ≤ s.pace.cycles →
    exec .keyUpLeadEnd s = .next (s.onLink fun l => { l with tx := .onAir frame o s.pace.cycles rate })) ∧
  (∀ frame o start rate (s : State), s.pace.held = false → s.link.tx = .onAir frame o start rate →
    start * rate + frame.length * 10 * 10000000 ≤ s.pace.cycles * rate →
    let idle := s.onLink fun l => { l with tx := .idle }
    let window (tag index : Nat) : AckWindow :=
      { finish := s.tb.now + s.link.cfg.ackWindow * 10000000, tag := tag, index := index, origin := o, undecided := false }
    exec .endOfAir s =
      .next (settle (match o with
        | .segment n =>
          if (slotAt n s).abortPending then finishSlot n .aborted .aborted idle
          else (onSlot n (fun sl => { sl with state := .awaitAck }) idle).onLink fun l =>
            { l with window := some (window (slotAt n s).tag (slotAt n s).nextSegment) }
        | .probe => idle.onLink fun l => { l with window := some (window s.link.probeTag 0) }
        | .reply r => idle.onLink fun l =>
            { l with replies := if s.link.replies.head? = some r then s.link.replies.tail else s.link.replies })))

/-- TRANSMIT_OPPORTUNITY takes the oldest REPLY unless the link is SILENT, in SILENT only a due probe with a fresh tag,
and else the segment the slot table selects: an open notice it pushes goes onto the stack, the payload is built if it is
absent or to be rebuilt, an open notice that is rebuilt begins again under a fresh tag, and the frame carries the
segment's bytes; with nothing eligible the opportunity stands (R116, R117, R118, R137, R140, R144). That a probe stays due
from its key-up until its window is decided is the model's choice (notes/assumptions/30.md).

Without an open notice the slot table selects a candidate of the highest class, the lowest number first: a WAITING
slot whose class is permitted, whose energy floor is met, which in CRITICAL is ALARM, and whose class is above the top
stack entry's (R128, R138, R139, R171). -/
def Obligations.OpportunitiesSendTheBestNotice : Prop :=
  (∀ s : State, s.pace.held = false → s.link.state ≠ .off → s.pw.loads.radio.on = true → s.link.warm = true →
    s.link.tx = .idle → s.link.window = none → s.link.reception = none →
    let address := s.link.cfg.address
    (s.link.state = .silent → s.link.probeDue = false → exec .transmitOpportunity s = .next (settle s)) ∧
    (s.link.state = .silent → s.link.probeDue = true →
      let tag := (s.link.probeTag + 1) % 256
      exec .transmitOpportunity s =
        .next (settle (keyed .probe (outboundFrame address 0x02 0 1 tag []) (s.onLink fun l => { l with probeTag := tag })))) ∧
    (∀ r rest, s.link.state ≠ .silent → s.link.replies = r :: rest →
      exec .transmitOpportunity s =
        .next (settle (keyed (.reply r) (outboundFrame address 0x03 0 1 r.tag (be 1 r.code ++ be 1 r.result)) s))) ∧
    (s.link.state ≠ .silent → s.link.replies = [] → selectNotice s = none →
      exec .transmitOpportunity s = .next (settle s)) ∧
    (∀ n pushed, s.link.state ≠ .silent → s.link.replies = [] → selectNotice s = some (n, pushed) →
      let base := match pushed with | none => s | some o => pushNotice o n s
      let sl := slotAt n s
      let build := sl.payload = none ∨ sl.rebuild = true
      let payload := if build then buildPayload sl s else sl.payload.getD []
      let count := if build ∨ sl.segments = 0 then max 1 ((payload.length + 31) / 32) else sl.segments
      let afresh := sl.rebuild = true ∧ 0 < sl.nextSegment
      let tag := if afresh then (s.nt.tagCounter + 1) % 256 else sl.tag
      let segment := if afresh then 0 else sl.nextSegment
      exec .transmitOpportunity s =
        .next (settle (keyed (.segment n)
          (outboundFrame address 0x01 segment count tag ((payload.drop (32 * segment)).take 32))
          { base with nt := { base.nt with
            tagCounter := if afresh then tag else s.nt.tagCounter
            slots := base.nt.slots.modify n fun x => { x with
              state := .sending, payload := some payload, segments := count, rebuild := false, tag := tag
              nextSegment := segment, attempts := if afresh then 0 else sl.attempts } } })))) ∧
  (∀ s : State, (∀ n, ¬NoticeOpen n s) →
    (selectNotice s = none ↔ ∀ n, ¬MayStart n s) ∧
    (∀ n pushed, selectNotice s = some (n, pushed) → pushed = none ∧ MayStart n s ∧
      ∀ m, MayStart m s → (slotAt m s).cls.code < (slotAt n s).cls.code ∨
        ((slotAt m s).cls.code = (slotAt n s).cls.code ∧ n ≤ m)))

/-- LINK's request for RADIO stands while the receiver is asked for, a REPLY, a due probe or a startable segment waits, or
something is on air, in its window or being received; it is marked ALARM by what is in flight, and with nothing in flight
by the segment that would go or by a marked probe. The listen test asks for the receiver from a warm-up before each
multiple of the listen interval to a listen length after it, and arms channel 7 for the next of these points. A WAITING
slot that its class's energy floor comes to refuse is counted once as an energy hold (R115, R119, R125, R127, R138, R139,
R171). The model's choices: a reception keeps the request, and a REPLY is no attempt in flight
(notes/assumptions/15.md). -/
def Obligations.RadioIsAskedForAndListenedTo : Prop :=
  (∀ s : State,
    let l := s.link
    let wanted : Prop := l.listenAsk = true ∨ l.replies ≠ [] ∨ l.probeDue = true ∨ selectNotice s ≠ none ∨ l.tx ≠ .idle ∨
      l.window ≠ none ∨ l.reception ≠ none
    let carried (o : AirOrigin) : Option AirOrigin :=
      match o with | .segment n => some (.segment n) | .probe => some .probe | .reply _ => none
    let attempt : Option AirOrigin := match l.tx with
      | .idle => l.window.map fun w => w.origin
      | .keying _ o _ _ => carried o
      | .onAir _ o _ _ => carried o
    let mark : Prop :=
      (∃ n, attempt = some (.segment n) ∧ (slotAt n s).cls = .alarm) ∨ (attempt = some .probe ∧ l.probeAlarm = true) ∨
      (attempt = none ∧ ((∃ n pushed, selectNotice s = some (n, pushed) ∧ (slotAt n s).cls = .alarm) ∨
        (l.probeDue = true ∧ l.probeAlarm = true)))
    ∃ alarm : Bool, (alarm = true ↔ wanted ∧ mark) ∧ ∃ ask : Ask, (wanted → ask = .standing) ∧ (¬wanted → ask = .absent) ∧
      formRadioRequest s =
        (s.onLoad .radio fun x => { x with asks := { x.asks with link := ask } }).onPw fun pw =>
          { pw with linkAlarm := alarm }) ∧
  (∀ s : State,
    let interval := s.link.cfg.listenInterval * 10000000
    let length := s.link.cfg.listenLength * 10000000
    let warmup := s.link.cfg.warmup * 1000000
    length + warmup < interval →
    let point (at' : Nat) : Prop := ∃ k, at' = k * interval + length ∨ at' + warmup = k * interval
    ∃ ask next, listenPoint s = { s with
        link := { s.link with listenAsk := ask }
        ccu := { s.ccu with ch7 := { s.ccu.ch7 with
          mode := .oneShot, period := 1, phase := 0, next := next, waiting := none } } } ∧
      (ask = true ↔ ∃ k, k * interval ≤ s.tb.now + warmup ∧ s.tb.now < k * interval + length) ∧
      s.tb.now < next ∧ point next ∧ ∀ at', s.tb.now < at' → point at' → next ≤ at') ∧
  (∀ s : State, s.nt.slots.length = 12 → s.nt.energyHolds ≤ 65535 →
    let floor (c : NoticeClass) : Nat :=
      match c with | .alarm => 0 | .urgent => s.pw.act.urgentFloor | .routine => s.pw.act.routineFloor
    let refused (sl : Slot) : Bool := sl.state == .waiting && decide (s.pw.soc < floor sl.cls)
    let newly (sl : Slot) : Bool := refused sl && (sl.view == .notWaiting || sl.view == .allowed)
    let t := countEnergyHolds s
    t = { s with nt := { s.nt with
      slots := t.nt.slots
      energyHolds := min 65535 (s.nt.energyHolds + (s.nt.slots.filter newly).length) } } ∧
    t.nt.slots.length = 12 ∧
    ∀ n, n < 12 → let sl := slotAt n s
      ∃ v, slotAt n t = { sl with view := v } ∧
        (sl.state ≠ .waiting → v = .notWaiting) ∧
        (refused sl = true → v = if sl.view = .otherwiseRefused then .otherwiseRefused else .floorHeld) ∧
        (sl.state = .waiting → refused sl = false → StartAllowed n s → v = .allowed) ∧
        (sl.state = .waiting → refused sl = false → ¬StartAllowed n s → v = .otherwiseRefused))

/-- The counts of link trouble and the state they give: a bad frame adds 1 to REC and to the frame errors, a good frame
takes 1 from REC, a failed segment adds 8 to SEC and an acknowledged one takes 1; SEC at 192 makes the health SILENT, SEC
or REC at 96 makes it STRAINED, and else it is CLEAR, but SILENT is left only by an acknowledged probe. The link state is
the health, or OFF in DORMANT and while no level is set, formed at every change of the health and of the level; each
change of it adds LINK_STATE to the set of every port and makes each port's worst state the more severe one (R123 to
R126). -/
def Obligations.LinkHealthFollowsItsCounts : Prop :=
  ∀ s : State,
    let stateOf (health : LinkState) : LinkState := match s.pw.level with
      | none => .off | some .dormant => .off
      | some .full => health | some .reduced => health | some .survival => health | some .critical => health
    let rank (x : LinkState) : Nat := match x with | .clear => 0 | .strained => 1 | .silent => 2 | .off => 3
    let shown (new : LinkState) (t : State) : Prop :=
      t.link.state = new ∧
      (∀ p, t.link.worst.get p =
        if new = s.link.state ∨ rank new ≤ rank (s.link.worst.get p) then s.link.worst.get p else new) ∧
      t.ports = if new = s.link.state then s.ports else s.ports.map fun r => { r with notices := r.notices ||| 0x80 }
    (∀ new, shown new (setLinkState new s) ∧ setLinkState new s = { s with
      link := { s.link with state := new, worst := (setLinkState new s).link.worst }
      ports := (setLinkState new s).ports }) ∧
    formLinkState s = setLinkState (stateOf s.link.health) s ∧ shown (stateOf s.link.health) (linkLevel s) ∧
    (s.link.state = stateOf s.link.health →
      ∀ t ∈ [countBadFrame s, countGoodFrame s, countSendFailure s, countSendSuccess s, probeAcked s],
        shown (stateOf t.link.health) t) ∧
    let healthFor (sec rec' : Nat) : LinkState :=
      if s.link.health = .silent ∨ 192 ≤ sec then .silent else if 96 ≤ sec ∨ 96 ≤ rec' then .strained else .clear
    (let t := countBadFrame s
     t.link.recvErr = min 255 (s.link.recvErr + 1) ∧ t.link.sendErr = s.link.sendErr ∧
      t.link.frameErrors = (s.link.frameErrors + 1) % 65536 ∧
      t.link.health = healthFor s.link.sendErr (min 255 (s.link.recvErr + 1))) ∧
    (let t := countGoodFrame s
     t.link.recvErr = s.link.recvErr - 1 ∧ t.link.sendErr = s.link.sendErr ∧ t.link.frameErrors = s.link.frameErrors ∧
      t.link.health = healthFor s.link.sendErr (s.link.recvErr - 1)) ∧
    (let t := countSendFailure s
     t.link.sendErr = min 255 (s.link.sendErr + 8) ∧ t.link.recvErr = s.link.recvErr ∧
      t.link.health = healthFor (min 255 (s.link.sendErr + 8)) s.link.recvErr ∧
      (s.link.health ≠ .silent → 192 ≤ s.link.sendErr + 8 → t.link.replies = [] ∧ t.link.probeDue = false ∧
        t.link.earlyUsed = false ∧ t.link.restExpiry = some (s.pace.seconds + s.link.restPeriod) ∧
        t.link.repliesDropped = min 65535 (s.link.repliesDropped + s.link.replies.length))) ∧
    (let t := countSendSuccess s
     t.link.sendErr = s.link.sendErr - 1 ∧ t.link.recvErr = s.link.recvErr ∧
      t.link.health = healthFor (s.link.sendErr - 1) s.link.recvErr) ∧
    (let t := probeAcked s
     t.link.sendErr = 0 ∧ t.link.recvErr = 0 ∧ t.link.health = .clear ∧ t.link.restPeriod = s.link.cfg.rest ∧
      t.link.restExpiry = none ∧ t.link.probeDue = false ∧ t.link.earlyUsed = false) ∧
    (probeFailed s).link =
      { s.link with
        restPeriod := min 14400 (2 * s.link.restPeriod), probeDue := false, probeAlarm := false, earlyUsed := false
        restExpiry := some (s.pace.seconds + min 14400 (2 * s.link.restPeriod)) }

/-- ACK_WINDOW_END, ACK_RECEIVED and NACK_RECEIVED: the end of a window is a timeout unless a reception of the window is
in progress, for which the decision waits; an accepted ACK or NACK of the window's tag and index from within it decides
it, and any other is counted stale. The decision closes the window and acts: a segment's slot takes its outcome and the
send count moves, a probe is acknowledged or has failed; a reception that ends without deciding a window that waited is its
timeout (R119 to R123, R125).

Receptions: a start-of-frame capture while the controller listens begins one, ending one in progress as bad; the
bytes that follow are collected; 200 ms with no byte, a wrong sync, a length above 32 or a wrong check end it as a bad
frame; a good frame that is not for the station or not of good form is dropped and counted; a POLL is handed to the
responders and a PAUSE sets or ends the pause. The controller listens while RADIO is ON and warm, the transmitter IDLE,
and the schedule asks or an ack window is open (R18, R20, R119, R120, R128, R149). The model's choices: a row whose bytes
do not end the reception yet stands for their arrival (notes/assumptions/13.md), a good frame is counted before its
effect (notes/assumptions/16.md), a capture taken while the controller does not listen leaves a reception in progress
(notes/assumptions/39.md), an ack window that waits on a reception counts as open (notes/assumptions/55.md), and a frame
is judged by the address, groups and enables at its end (notes/assumptions/40.md). -/
def Obligations.ReceptionsAndAckWindows : Prop :=
  ((∀ w (s : State), s.pace.held = false → s.link.window = some w → w.undecided = false → w.finish ≤ s.tb.now →
    exec .ackWindowEnd s =
      .next (settle (if (s.link.reception.map fun r => r.inWindow) = some true then
          s.onLink fun l => { l with window := some { w with undecided := true } }
        else windowDecided w false s))) ∧
  (∀ s : State, settleWindow s = match s.link.window with
    | none => s
    | some w => if w.undecided then windowDecided w false s else s) ∧
  (∀ acked f r (s : State), s.pace.held = false → s.link.reception = some r → r.bytes <+: inboundFrame f → f.payload = [] →
    Accepted s.link f → f.kind = (if acked then 0x11 else 0x12) →
    let c : List Byte → Instr := if acked then .ackReceived else .nackReceived
    let heard := countGoodFrame (closeReception s)
    let matches' (w : AckWindow) : Prop := r.inWindow = true ∧ w.tag = f.tag ∧ w.index = f.index
    (∀ w, heard.link.window = some w → matches' w →
      exec (c (inboundFrame f)) s = .next (settle (settleWindow (windowDecided w acked heard)))) ∧
    ((∀ w, heard.link.window = some w → ¬matches' w) →
      exec (c (inboundFrame f)) s =
        .next (settle (settleWindow (heard.onLink fun l => { l with stale := min 65535 (l.stale + 1) })))))) ∧
  ((∀ s : State, s.pace.held = false →
    let captured := s.onCcu fun c => { c with ch2 := { last := some s.tb.now, unread := false, overwrites := 0 } }
    let began (x : State) : State := x.onLink fun l => { l with reception := some {
      capture := s.tb.now, lastByte := s.pace.cycles, bytes := []
      inWindow := match s.link.window with
        | none => false
        | some w => !w.undecided && decide (s.tb.now ≤ w.finish) } }
    (listening s = true ↔ s.pw.loads.radio.on = true ∧ s.link.warm = true ∧ s.link.tx = .idle ∧
      (s.link.listenAsk = true ∨ s.link.window ≠ none)) ∧
    (listening s = false → exec .startOfFrameCapture s = .next (settle captured)) ∧
    (listening s = true → s.link.reception = none → exec .startOfFrameCapture s = .next (settle (began captured))) ∧
    (listening s = true → s.link.reception ≠ none →
      exec .startOfFrameCapture s = .next (settle (began (badFrame captured))))) ∧
  (∀ r (s : State), s.pace.held = false → s.link.reception = some r →
    (r.lastByte + 2000000 ≤ s.pace.cycles → exec .receptionTimeout s = .next (settle (badFrame s))) ∧
    (s.pace.cycles < r.lastByte + 2000000 → exec .receptionTimeout s = .next s) ∧
    (∀ bytes : List Byte, r.bytes <+: bytes → r.bytes.length < bytes.length →
      bytes.length < 2 ∨ (bytes.take 2 = [0x7E, 0xC3] ∧ (bytes.length < 8 ∨
        ((bytes.getD 7 0).toNat ≤ 32 ∧ bytes.length < 10 + (bytes.getD 7 0).toNat))) →
      ∀ row ∈ ([.badFrame, .frameNotAccepted, .ackReceived, .nackReceived, .pollReceived, .pauseReceived, .remoteStatus,
          .remoteCeiling, .remoteWake, .remoteQuiet, .remoteBadCommand] : List (List Byte → Instr)),
        exec (row bytes) s = .next (s.onLink fun l =>
          { l with reception := some { r with bytes := bytes, lastByte := s.pace.cycles } })) ∧
    (∀ bytes : List Byte, r.bytes <+: bytes →
      (2 ≤ bytes.length ∧ bytes.take 2 ≠ [0x7E, 0xC3]) ∨
      (8 ≤ bytes.length ∧ bytes.take 2 = [0x7E, 0xC3] ∧ 32 < (bytes.getD 7 0).toNat) ∨
      (∃ covered check, bytes = [0x7E, 0xC3] ++ covered ++ check ∧ covered.length = 6 + (bytes.getD 7 0).toNat ∧
        (bytes.getD 7 0).toNat ≤ 32 ∧ check.length = 2 ∧ check ≠ be 2 (checkOf covered).toNat) →
      exec (.badFrame bytes) s = .next (settle (badFrame s))) ∧
    (∀ f, r.bytes <+: inboundFrame f →
      f.address < 2 ^ 16 → f.index < 8 → f.kind < 256 → f.tag < 256 → f.payload.length ≤ 32 →
      let heard := countGoodFrame (closeReception s)
      (¬ForStation s.link f → exec (.frameNotAccepted (inboundFrame f)) s =
        .next (settle (settleWindow (heard.onLink fun l => { l with unaccepted := min 65535 (l.unaccepted + 1) })))) ∧
      (ForStation s.link f → f.kind ∉ [0x11, 0x12, 0x13, 0x14, 0x15] ∨ (f.kind = 0x11 ∧ f.payload ≠ []) ∨
          (f.kind = 0x12 ∧ f.payload ≠ []) ∨ (f.kind = 0x13 ∧ f.payload.length ≠ 2) ∨
          (f.kind = 0x14 ∧ f.payload.length ≠ 2) ∨ (f.kind = 0x15 ∧ f.payload = []) →
        exec (.frameNotAccepted (inboundFrame f)) s =
          .next (settle (settleWindow (heard.onLink fun l => { l with malformed := min 65535 (l.malformed + 1) })))) ∧
      (ForStation s.link f → f.kind = 0x13 → f.payload.length = 2 →
        exec (.pollReceived (inboundFrame f)) s = .next (settle (settleWindow (pollSlots (natOf f.payload) heard)))) ∧
      (ForStation s.link f → f.kind = 0x14 → f.payload.length = 2 →
        exec (.pauseReceived (inboundFrame f)) s =
          .next (settle (settleWindow (heard.onLink fun l => { l with
            pause := if natOf f.payload = 0 then none else some (s.pace.cycles + natOf f.payload * 1000000) })))))))

/-- The outcome of an attempt at its slot: ACKED moves to the next segment with its attempts at 0, or ends the notice
DELIVERED; FAILED counts the attempt and backs off base × 2^(attempts − 1) s, at most 64 s, in oscillator cycles, or at
the retry limit of its class ends it FAILED; POWER_CUT puts the slot back to WAITING, or ABORTED where an abort waits
(R141 to R143).

A POLL finds the lowest responder whose masked topic matches: an ARMED one becomes WAITING with the next tag, one at
work merges the poll, and a poll that none matches is counted (R133, R149). -/
def Obligations.AttemptsAndPollsMoveTheirSlot : Prop :=
  (∀ n (s : State), n < s.nt.slots.length →
    let sl := slotAt n s
    let limit := match sl.cls with
      | .alarm => s.nt.cfg.retryAlarm | .urgent => s.nt.cfg.retryUrgent | .routine => s.nt.cfg.retryRoutine
    let attempts := min 15 (sl.attempts + 1)
    (sl.nextSegment + 1 < sl.segments → slotAt n (slotAcked n s) =
      { sl with state := .waiting, view := .notWaiting, attempts := 0, nextSegment := sl.nextSegment + 1 }) ∧
    (sl.segments ≤ sl.nextSegment + 1 →
      slotAcked n s = endNotice n true (onSlot n (fun x => { x with attempts := 0 }) s)) ∧
    (attempts < limit → slotFailed n s =
      onSlot n (fun x => { x with
        attempts := attempts, state := .backoff
        backoff := s.pace.cycles + min 64 (s.nt.cfg.base * 2 ^ (attempts - 1)) * 10000000 }) s) ∧
    (limit ≤ attempts → slotFailed n s = endNotice n false (onSlot n (fun x => { x with attempts := attempts }) s)) ∧
    (sl.abortPending = false → slotAt n (slotPowerCut n s) = { sl with state := .waiting, view := .notWaiting }) ∧
    (sl.abortPending = true → slotPowerCut n s = finishSlot n .aborted .aborted s)) ∧
  (∀ topic n (s : State), n < s.nt.slots.length → n < 12 →
    let answers (m : Nat) : Prop :=
      (slotAt m s).responder = true ∧ (slotAt m s).state ≠ .empty ∧ (slotAt m s).state.final = false ∧
        topic &&& (slotAt m s).mask = (slotAt m s).topic &&& (slotAt m s).mask
    ((∀ m, m < 12 → ¬answers m) → pollSlots topic s = s.onNt fun nt =>
      { nt with unmatchedPolls := min 65535 (nt.unmatchedPolls + 1) }) ∧
    (answers n → (∀ m, m < n → ¬answers m) → (slotAt n s).state ≠ .armed →
      pollSlots topic s = s.onNt fun nt => { nt with mergedPolls := min 65535 (nt.mergedPolls + 1) }) ∧
    (answers n → (∀ m, m < n → ¬answers m) → (slotAt n s).state = .armed →
      let tag := (s.nt.tagCounter + 1) % 256
      (pollSlots topic s).nt.tagCounter = tag ∧ slotAt n (pollSlots topic s) =
        { slotAt n s with state := .waiting, view := .notWaiting, tag := tag, queued := s.tb.now }))

/-- Remote commands: one whose enable is off is counted and answered DISABLED; STATUS asks for a ROUTINE STATUS notice,
CEILING sets the ceiling, WAKE adds REMOTE to RECORDER or TELEMETRY for its minutes and QUIET sets or ends the quiet,
each answered DONE (or REFUSED where STATUS meets no slot). A ceiling below the level lowers the level to it at once, but
in DORMANT and in the last-gasp wait it is only recorded. Bad content is answered REFUSED and does nothing; an individual
command's REPLY joins the queue of four or is dropped and counted (R128 to R130, R163). That DISABLED goes before REFUSED
for a disabled command with bad arguments, and that the frame is counted before its effect, are the model's choices
(notes/assumptions/16.md), and so are that a row whose bytes do not end the reception yet stands for their arrival
(notes/assumptions/13.md) and that a frame is judged by the address, groups and enables at its end
(notes/assumptions/40.md). -/
def Obligations.RemoteCommandsActAndReply : Prop :=
  ∀ f r (s : State), s.pace.held = false → s.link.reception = some r → r.bytes <+: inboundFrame f → Accepted s.link f →
    f.kind = 0x15 →
    let heard := countGoodFrame (closeReception s)
    let reply (result : Nat) (x : State) : State :=
      if f.group then x
      else if x.link.replies.length < 4 then x.onLink fun l =>
        { l with replies := l.replies ++ [{ tag := f.tag, code := (f.payload.getD 0 0).toNat, result := result,
                                            taken := s.pace.seconds }] }
      else x.onLink fun l => { l with repliesDropped := min 65535 (l.repliesDropped + 1) }
    let disabled := reply 1 (heard.onLink fun l => { l with disabled := min 65535 (l.disabled + 1) })
    let ends (x : State) : Host.Outcome State Fault Refusal := .next (settle (settleWindow x))
    let c := s.link.cfg
    (f.payload.head? = some 1 → c.enableStatus = false → exec (.remoteStatus (inboundFrame f)) s = ends disabled) ∧
    (f.payload = [1] → c.enableStatus = true →
      let asked := requestNotice
        { kind := .status, cls := .routine, origin := .link, event := none, reason := .levelEntry } heard
      exec (.remoteStatus (inboundFrame f)) s = ends (reply (if asked.2.isSome then 0 else 2) asked.1)) ∧
    (f.payload.head? = some 2 → c.enableCeiling = false → exec (.remoteCeiling (inboundFrame f)) s = ends disabled) ∧
    (∀ code : Byte, f.payload = [2, code] → c.enableCeiling = true → code.toNat ≤ 3 →
      exec (.remoteCeiling (inboundFrame f)) s = ends (reply 0 (setCeilingTo
        (if code = 0 then .full else if code = 1 then .reduced else if code = 2 then .survival else .critical) heard))) ∧
    (∀ (l : Level) (x : State),
      let capped := x.onPw fun pw => { pw with ceiling := l }
      setCeilingTo l x = match x.pw.level with
        | none => capped
        | some now =>
          if now ≠ .dormant ∧ x.pw.lastGasp = none ∧ now.code < l.code then changeLevel l true capped else capped) ∧
    (f.payload.head? = some 3 → c.enableWake = false → exec (.remoteWake (inboundFrame f)) s = ends disabled) ∧
    (∀ load minutes : Byte, f.payload = [3, load, minutes] → c.enableWake = true → load = 2 ∨ load = 3 → minutes ≠ 0 →
      exec (.remoteWake (inboundFrame f)) s = ends (reply 0 (heard.onLoad (if load = 2 then .recorder else .telemetry)
        fun x => { x with asks := { x.asks with remote := .until (s.pace.seconds + minutes.toNat * 60) } }))) ∧
    (f.payload.head? = some 4 → c.enableQuiet = false → exec (.remoteQuiet (inboundFrame f)) s = ends disabled) ∧
    (∀ minutes : Byte, f.payload = [4, minutes] → c.enableQuiet = true →
      exec (.remoteQuiet (inboundFrame f)) s = ends (reply 0 (heard.onLink fun l =>
        { l with quiet := if minutes = 0 then none else some (s.pace.seconds + minutes.toNat * 60) }))) ∧
    ((∀ code args, f.payload = code :: args →
        (code = 1 → c.enableStatus = true ∧ args ≠ []) ∧
        (code = 2 → c.enableCeiling = true ∧ ∀ l : Byte, args = [l] → 3 < l.toNat) ∧
        (code = 3 → c.enableWake = true ∧ ∀ l m : Byte, args = [l, m] → (l ≠ 2 ∧ l ≠ 3) ∨ m = 0) ∧
        (code = 4 → c.enableQuiet = true ∧ args.length ≠ 1)) →
      exec (.remoteBadCommand (inboundFrame f)) s = ends (reply 2 heard))

/-- The expiries of the link and the slots: a rest expiry in SILENT makes an unmarked probe due, a pause and a quiet end,
replies 60 s old are dropped and counted, and a slot whose backoff ends is WAITING again, which for an ALARM in SILENT
may use the early probe (R125, R128, R130, R138, R142). That a reply in transmission is dropped and counted as well is
the model's choice (notes/assumptions/51.md). -/
def Obligations.LinkExpiriesAct : Prop :=
  ∀ s : State, s.pace.held = false →
    (∀ e, s.link.health = .silent → s.link.probeDue = false → s.link.restExpiry = some e → e ≤ s.pace.seconds →
      exec .restExpiry s = .next (settle (s.onLink fun l => { l with probeDue := true, probeAlarm := false }))) ∧
    (∀ e, s.link.pause = some e → e ≤ s.pace.cycles →
      exec .pauseExpiry s = .next (settle (s.onLink fun l => { l with pause := none }))) ∧
    (∀ e, s.link.quiet = some e → e ≤ s.pace.seconds →
      exec .quietExpiry s = .next (settle (s.onLink fun l => { l with quiet := none }))) ∧
    (∀ r ∈ s.link.replies, r.taken + 60 ≤ s.pace.seconds →
      exec .replyExpiry s = .next (settle (s.onLink fun l => { l with
        replies := l.replies.filter fun x => !decide (x.taken + 60 ≤ s.pace.seconds)
        repliesDropped := min 65535 (l.repliesDropped +
          (l.replies.filter fun x => decide (x.taken + 60 ≤ s.pace.seconds)).length) }))) ∧
    (∀ n, (slotAt n s).state = .backoff → (slotAt n s).backoff ≤ s.pace.cycles →
      let waiting := onSlot n (fun sl => { sl with state := .waiting, view := .notWaiting }) s
      exec (.backoffExpiry n) s =
        .next (settle (if (slotAt n s).cls = .alarm ∧ s.link.health = .silent ∧ s.link.earlyUsed = false then
            waiting.onLink fun l => { l with probeDue := true, probeAlarm := true, earlyUsed := true }
          else waiting)))

/-- GET_LINK reads the link, with the bit that says that the controller listens (RADIO ON and warm, the transmitter IDLE,
the schedule asking or a window open), and lets the port's worst state begin again from the present one; SET_LINK writes
its settings in range, ends a reception at a new rate and makes the listen test at a new schedule; SET_GROUPS replaces
the group table. How a part of a pause quantum counts is left open (R119, R126, R127, R131; notes/assumptions/4.md). The
model's choices: the listen test is made only where the length or the interval changes, a reception is discarded only at
a new rate, and its waiting window is then decided (notes/assumptions/17.md); a frame whose reception is in progress is
judged by the new address and enables at its end (notes/assumptions/40.md); an ack window that waits on a reception
counts as open in bits 4 and 6 (notes/assumptions/55.md). -/
def Obligations.LinkCommands : Prop :=
  (∀ p tag (s : State), Admits p .read s →
    let l := s.link
    let left (e : Option Nat) : Nat := match e with | none => 0 | some x => x - s.pace.seconds
    let code (x : LinkState) : Nat := match x with | .off => 0 | .clear => 1 | .strained => 2 | .silent => 3
    (listening s = true ↔ s.pw.loads.radio.on = true ∧ s.link.warm = true ∧ s.link.tx = .idle ∧
      (s.link.listenAsk = true ∨ s.link.window ≠ none)) ∧
    exec (.getLink p tag []) s =
      .next ((s.onLink fun l => { l with worst := l.worst.update p fun _ => l.state }).answered p tag .ok
        (be 1 (code l.state) ++ be 1 (code (l.worst.get p)) ++ be 1 l.sendErr ++ be 1 l.recvErr ++ be 2 l.frameErrors ++
          flagsByte [l.pause.isSome, l.quiet.isSome, l.probeDue, l.earlyUsed, l.window.isSome, l.tx != .idle, listening s] ++
          be 2 l.restPeriod ++ be 2 (left l.restExpiry) ++ be 2 (pauseLeft s.pace.cycles l.pause) ++ be 2 (left l.quiet) ++
          be 2 l.unaccepted ++ be 2 l.malformed ++ be 2 l.stale ++ be 2 l.disabled ++ be 2 l.repliesDropped))) ∧
  (∀ p tag (enables : Byte) (c : LinkCfg) (s : State), Admits p .configure s →
    c.rateCode < 2 ^ 8 → c.keyLead < 2 ^ 16 → c.warmup < 2 ^ 16 → c.ackWindow < 2 ^ 8 → c.rest < 2 ^ 16 →
    c.listenLength < 2 ^ 16 → c.listenInterval < 2 ^ 16 → c.address < 2 ^ 16 →
    [c.enableStatus, c.enableCeiling, c.enableWake, c.enableQuiet] = (List.range 4).map enables.getLsbD →
    let args := be 1 c.rateCode ++ be 2 c.keyLead ++ be 2 c.warmup ++ be 1 c.ackWindow ++ be 2 c.rest ++
      be 2 c.listenLength ++ be 2 c.listenInterval ++ be 2 c.address ++ [enables]
    let ok := enables.toNat < 16 ∧ c.rateCode ≤ 3 ∧ c.keyLead ≤ 500 ∧ c.warmup ≤ 300 ∧
      (1 ≤ c.ackWindow ∧ c.ackWindow ≤ 60) ∧ (60 ≤ c.rest ∧ c.rest ≤ 14400) ∧
      (1 ≤ c.listenLength ∧ c.listenLength ≤ 600) ∧ (30 ≤ c.listenInterval ∧ c.listenInterval ≤ 3600) ∧
      c.listenLength * 10 + c.warmup < c.listenInterval * 10
    let written := (s.taking p tag).onLink fun l => { l with cfg := c }
    let heard := if c.rateCode ≠ s.link.cfg.rateCode ∧ s.link.reception ≠ none then settleWindow (closeReception written)
      else written
    let newListen := c.listenLength ≠ s.link.cfg.listenLength ∨ c.listenInterval ≠ s.link.cfg.listenInterval
    (ok → exec (.setLink p tag args) s =
      .next ((settle (if newListen ∧ heard.pw.level = some .survival then listenPoint heard else heard)).replied p tag [])) ∧
    (¬ok → exec (.setLink p tag args) s = .next (s.answered p tag .outOfRange []))) ∧
  (∀ p tag (args : List Byte) (s : State), Admits p .configure s → args.length = 8 →
    ∃ g : BitVec 64, exec (.setGroups p tag args) s =
        .next ((s.onLink fun l => { l with groups := g }).answered p tag .ok []) ∧
      ∀ e, e < 64 → g.getLsbD e = (args.getD (e / 8) 0).getLsbD (e % 8))

/-! ### Notices (chapter 8) -/

/-- A request from an internal origin takes the lowest EMPTY slot with the next tag, pins its record and writes PENDING; with
no EMPTY slot an ALARM request displaces the oldest WAITING ROUTINE one-shot notice, and any other meets NO_SLOT, which
is counted and written as NOT_QUEUED (R133, R134). That the counter of unqueued requests moves for every internal request,
also one that is not the Detector's, is the model's choice (notes/assumptions/30.md).

The end of a notice: its outcome and time are recorded, the stack entries that name it as their preempting slot act
(ThePreemptionStackMoves), a port's slot keeps its final state and notifies its port, a displaced one is emptied with
SLOT_DISPLACED, a quake notice writes its outcome and unpins its record, and the Timebase and the Power Controller clear
their references, with which a last-gasp wait ends (R108, R144, R145, R146, R165, R171). That abort pending clears is the
model's choice (notes/assumptions/41.md). -/
def Obligations.InternalNoticesBeginAndEnd : Prop :=
  (∀ (a : NoticeAsk) (s : State), s.nt.slots.length = 12 →
    let t := requestNotice a s
    let tag := (s.nt.tagCounter + 1) % 256
    let filled : Slot :=
      { Slot.clear with
        state := .waiting, kind := a.kind, cls := a.cls, origin := a.origin, event := a.event, reason := a.reason
        preemptible := true, tag := tag, queued := s.tb.now }
    let withOutcome (o : AlertOutcome) (more : Nat) (r : Record) : Record :=
      let x := { r.withOutcome a.kind o with pins := r.pins + more }
      if r.closed ∨ { x with pins := r.pins } = r then x else { x with revision := (r.revision + 1) % 256 }
    let early := a.cls = .alarm ∧ s.link.health = .silent ∧ s.link.earlyUsed = false
    let displaceable (m : Nat) : Prop :=
      m < 12 ∧ (slotAt m s).responder = false ∧ (slotAt m s).state = .waiting ∧ (slotAt m s).cls = .routine
    (∀ n, n < 12 → (slotAt n s).state = .empty → (∀ m, m < n → (slotAt m s).state ≠ .empty) →
      t.2 = some n ∧ t.1 = { s with
        nt := { s.nt with slots := s.nt.slots.set n filled, tagCounter := tag }
        ev := { s.ev with
          records := s.ev.records.map fun r => if some r.seq = a.event then withOutcome .pending 1 r else r }
        link := if early then { s.link with probeDue := true, probeAlarm := true, earlyUsed := true } else s.link }) ∧
    ((∀ m, m < 12 → (slotAt m s).state ≠ .empty) → (a.cls = .alarm → ∀ m, ¬displaceable m) →
      t.2 = none ∧ t.1 = { s with
        nt := { s.nt with unqueued := min 65535 (s.nt.unqueued + 1) }
        ev := { s.ev with
          records := s.ev.records.map fun r => if some r.seq = a.event then withOutcome .notQueued 0 r else r } }) ∧
    (∀ v, (∀ m, m < 12 → (slotAt m s).state ≠ .empty) → a.cls = .alarm → displaceable v →
      (∀ m, displaceable m → (slotAt v s).queued < (slotAt m s).queued ∨ ((slotAt v s).queued = (slotAt m s).queued ∧ v ≤ m)) →
      t.2 = some v ∧ (slotAt v t.1).kind = a.kind ∧ (slotAt v t.1).event = a.event ∧ (slotAt v t.1).state = .waiting ∧
        t.1.nt.displacements = min 65535 (s.nt.displacements + 1) ∧ t.1.nt.unqueued = s.nt.unqueued ∧
        ∀ p, (slotAt v s).origin = .port p → (t.1.ports.get p).notices.getLsbD 6 = true)) ∧
  (∀ n st out (s : State), n < s.nt.slots.length → (∀ e ∈ s.nt.stack, e.slot ≠ n) →
    let sl := slotAt n s
    let t := finishSlot n st out s
    let ended := { sl with state := st, outcome := out, completed := s.tb.now, abortPending := false }
    let popped := endPreempting n { s with nt := { s.nt with slots := s.nt.slots.set n ended } }
    ((∀ e ∈ s.nt.stack, e.by' ≠ n) → t.nt.stack = s.nt.stack ∧ t.link = s.link ∧ ∀ m, m ≠ n → slotAt m t = slotAt m s) ∧
    t.nt.stack = popped.nt.stack ∧ t.link = popped.link ∧ t.nt.tagCounter = s.nt.tagCounter ∧
    (∀ m, m ≠ n → slotAt m t = slotAt m popped) ∧
    (∀ p, sl.origin = .port p → out ≠ .displaced → slotAt n t = ended ∧ t.ports.get p =
      { s.ports.get p with notices := (s.ports.get p).notices ||| 0x020 }) ∧
    (∀ p, sl.origin = .port p → out = .displaced → slotAt n t = Slot.clear ∧ t.ports.get p =
      { s.ports.get p with notices := (s.ports.get p).notices ||| 0x040 }) ∧
    ((∀ p, sl.origin ≠ .port p) → slotAt n t = Slot.clear ∧ t.ports = s.ports) ∧
    (∀ e, sl.origin = .detector → sl.event = some e → t.ev.records = s.ev.records.map fun r =>
      let x := { r.withOutcome sl.kind (match out with
        | .none => .none | .delivered => .delivered | .failed => .failed | .aborted => .failed | .displaced => .displaced)
        with pins := r.pins - 1 }
      if r.seq ≠ e then r
      else if r.closed ∨ { x with pins := r.pins } = r then x
      else { x with revision := (r.revision + 1) % 256 }) ∧
    (sl.origin = .timebase → t.tb = { s.tb with
      routineRef := if s.tb.routineRef = some n then none else s.tb.routineRef
      urgentRef := if s.tb.urgentRef = some n then none else s.tb.urgentRef }) ∧
    (sl.origin = .power → t.pw = { s.pw with
      survivalRef := if s.pw.survivalRef = some n then none else s.pw.survivalRef
      criticalRef := if s.pw.criticalRef = some n then none else s.pw.criticalRef
      coldRef := if s.pw.coldRef = some n then none else s.pw.coldRef
      gaspRef := if s.pw.gaspRef = some n then none else s.pw.gaspRef
      gaspEnded := s.pw.gaspEnded || decide (s.pw.lastGasp ≠ none ∧ s.pw.gaspRef = some n) }))

/-- The preemption stack. Of the open notices the one of lowest class, then of lowest number, is the one that goes on. With
an open notice an opportunity selects a candidate of a higher class, the best one, and pushes the open notice, where that
waits or backs off and is preemptible, or waits and may not start; else it selects the open notice itself where that waits
and may start. A push makes it PREEMPTED without its backoff and puts it on top of the stack. When a notice ends, an entry
that it preempted takes the slot of the entry above, or another open notice, in its place, or is popped and its slot waits
again. A responder that ends returns to ARMED, tells its port, and loses a built STATUS payload; a one-shot notice ends in
its final state (R125, R128, R137 to R139, R144, R146, R150, R171). The model's choices: the order of two open notices and
the guard that an entry's class lies above the one below (notes/assumptions/46.md), and what a responder's end clears
(notes/assumptions/24.md). -/
def Obligations.ThePreemptionStackMoves : Prop :=
  let again (n : Nat) (x : State) : State :=
    let w := onSlot n (fun sl => { sl with state := .waiting, view := .notWaiting }) x
    if (slotAt n x).cls = .alarm ∧ x.link.health = .silent ∧ x.link.earlyUsed = false then
      w.onLink fun l => { l with probeDue := true, probeAlarm := true, earlyUsed := true }
    else w
  let withStack (st : List StackEntry) (x : State) : State := x.onNt fun nt => { nt with stack := st }
  (∀ s : State,
    (openNotice s = none ↔ ∀ n, ¬NoticeOpen n s) ∧
    (∀ o, openNotice s = some o → NoticeOpen o s ∧ ∀ n, NoticeOpen n s → (slotAt o s).cls.code < (slotAt n s).cls.code ∨
      ((slotAt o s).cls = (slotAt n s).cls ∧ o ≤ n)) ∧
    (∀ o, openNotice s = some o →
      let sl := slotAt o s
      let higher (n : Nat) : Prop := MayStart n s ∧ sl.cls.code < (slotAt n s).cls.code
      let goesOn := sl.state = .waiting ∧ StartAllowed o s
      let mayPush := AboveStack sl.cls s ∧ (sl.state = .waiting ∨ sl.state = .backoff) ∧
        (sl.preemptible = true ∨ (sl.state = .waiting ∧ ¬StartAllowed o s))
      (∀ n, mayPush → higher n → (∀ m, higher m → (slotAt m s).cls.code < (slotAt n s).cls.code ∨
          ((slotAt m s).cls = (slotAt n s).cls ∧ n ≤ m)) → selectNotice s = some (n, some o)) ∧
      ((mayPush → ∀ n, ¬higher n) → goesOn → selectNotice s = some (o, none)) ∧
      ((mayPush → ∀ n, ¬higher n) → ¬goesOn → selectNotice s = none))) ∧
  (∀ o n (s : State), o < s.nt.slots.length →
    let sl := slotAt o s
    pushNotice o n s = s.onNt fun nt => { nt with
      slots := nt.slots.set o { sl with state := .preempted, backoff := 0 }
      stack := nt.stack ++ [{ slot := o, nextSegment := sl.nextSegment, cls := sl.cls, by' := n }] }) ∧
  (∀ n (s : State),
    ((∀ e ∈ s.nt.stack, e.by' ≠ n) → endPreempting n s = s) ∧
    (∀ below e, s.nt.stack = below ++ [e] → below.length ≤ 1 → e.by' = n → (∀ b ∈ below, b.by' ≠ n) →
      endPreempting n s = match openNotice s with
        | some o => withStack (below ++ [{ e with by' := o }]) s
        | none => again e.slot (withStack below s)) ∧
    (∀ b e, s.nt.stack = [b, e] → b.by' = n → e.by' ≠ n →
      endPreempting n s = withStack [{ b with by' := e.slot }, e] s) ∧
    (∀ b e, s.nt.stack = [b, e] → b.by' = n → e.by' = n →
      endPreempting n s = match openNotice s with
        | some o => withStack [{ b with by' := e.slot }, { e with by' := o }] s
        | none =>
          let popped := again e.slot (withStack [b] s)
          match openNotice popped with
          | some o => withStack [{ b with by' := o }] popped
          | none => again b.slot (withStack [] popped))) ∧
  (∀ n delivered (s : State), n < s.nt.slots.length →
    let sl := slotAt n s
    let out : SlotOutcome := if delivered then .delivered else .failed
    (sl.responder = false → endNotice n delivered s = finishSlot n (if delivered then .delivered else .failed) out s) ∧
    (sl.responder = true → endNotice n delivered s = endPreempting n
      { s with
        nt := { s.nt with slots := s.nt.slots.set n { sl with
          state := .armed, outcome := out, completed := s.tb.now, tag := 0, nextSegment := 0, attempts := 0, segments := 0
          abortPending := false, payload := if sl.kind = .status then none else sl.payload } }
        ports := match sl.origin with
          | .port p => s.ports.update p fun r => { r with notices := r.notices ||| 0x20 }
          | _ => s.ports }))

/-- The payload of a notice, built from the state at its start: a quake notice's from its record, POWER's from the level,
the charge, VB and TB, TIME's from the time state, the uncertainty and the time, STATUS's from level, charge, time state,
last sequence and link, and TEXT's as the port gave it. An event that reaches class 3 raises its QUAKE_DECLARED notice to
ALARM, to be rebuilt, where that waits or backs off, and else asks for a QUAKE_UPDATE at ALARM (R125, R133, R137, R140,
R151). That the last sequence is 4,294,967,295 when the next is 1 beside a record is the model's choice
(notes/assumptions/25.md). -/
def Obligations.PayloadsAreBuiltAndEscalated : Prop :=
  (∀ (sl : Slot) (s : State),
    let level : Nat := match s.pw.level with
      | none => 255 | some .full => 0 | some .reduced => 1 | some .survival => 2 | some .critical => 3 | some .dormant => 4
    let quake (code : Nat) (r : Record) : List Byte :=
      be 1 code ++ be 4 r.seq ++ be 1 r.revision ++ timeBytes r.onset ++
        (match r.close with | none => zeros 8 | some c => timeBytes c) ++ be 1 r.timeState.code ++ be 4 r.uncertainty ++
        be 1 r.cls ++ be 1 r.votePeak ++
        flagsByte [r.heaterSwitched, r.levelChanged, r.gap, r.ringLost, r.clipped, r.onsetFrame.isSome] ++
        be 1 r.participants.length ++ r.participants.flatMap fun p => be 1 p.channel ++ be 3 p.peakD
    (∀ e before r after, sl.event = some e → s.ev.records = before ++ r :: after → r.seq = e →
      (∀ x ∈ before, x.seq ≠ e) →
      (sl.kind = .quakeDeclared → buildPayload sl s = quake 1 r) ∧
      (sl.kind = .quakeUpdate → buildPayload sl s = quake 2 r) ∧
      (sl.kind = .quakeSummary → buildPayload sl s = quake 3 r)) ∧
    (sl.kind = .power → buildPayload sl s =
      be 1 4 ++ be 1 (match sl.reason with | .levelEntry => 0 | .lastGasp => 1 | .coldHold => 2) ++ be 1 level ++
        be 2 s.pw.soc ++ beInt 2 s.pw.vb.value ++ beInt 2 s.pw.tb.value) ∧
    (sl.kind = .time → buildPayload sl s =
      be 1 5 ++ be 1 s.tb.state.code ++ be 4 s.tb.uncertainty ++ timeBytes s.tb.now) ∧
    (sl.kind = .status → buildPayload sl s =
      be 1 6 ++ be 1 level ++ be 2 s.pw.soc ++ be 1 s.tb.state.code ++
        be 4 (if s.ev.nextSeq = 1 ∧ s.ev.records ≠ [] then 4294967295 else s.ev.nextSeq - 1) ++
        be 1 (match s.link.state with | .off => 0 | .clear => 1 | .strained => 2 | .silent => 3)) ∧
    (∀ bytes, sl.kind = .text → sl.payload = some bytes → buildPayload sl s = bytes)) ∧
  (∀ event (s : State),
    let names (n : Nat) : Prop := n < 12 ∧ (slotAt n s).kind = .quakeDeclared ∧ (slotAt n s).event = some event ∧
      (slotAt n s).state ≠ .empty
    let asked := (requestNotice
      { kind := .quakeUpdate, cls := .alarm, origin := .detector, event := some event, reason := .levelEntry } s).1
    ((∀ n, ¬names n) → escalate event s = asked) ∧
    (∀ n, names n → (∀ m, m < n → ¬names m) →
      ((slotAt n s).state ≠ .waiting → (slotAt n s).state ≠ .backoff → escalate event s = asked) ∧
      ((slotAt n s).state = .waiting ∨ (slotAt n s).state = .backoff →
        let raised := onSlot n (fun sl => { sl with
          cls := .alarm, rebuild := true, backoff := 0, state := .waiting, view := .notWaiting }) s
        escalate event s =
          if s.link.health = .silent ∧ s.link.earlyUsed = false then
            raised.onLink fun l => { l with probeDue := true, probeAlarm := true, earlyUsed := true }
          else raised)))

/-- QUEUE_NOTICE fills the named or the lowest EMPTY slot with the port's bytes, HELD or WAITING with the next tag; a slot
that is not EMPTY is BUSY, and values outside their ranges are refused; with 255, no EMPTY slot and nothing that may be
displaced it meets NO_SLOT, and an ALARM one displaces the WAITING ROUTINE one-shot notice of the oldest queued time, the
lower number first, which ends DISPLACED and is counted (R134, R135).

APPEND_NOTICE adds bytes to a HELD slot of the port's own, up to 128 in all, and RELEASE_NOTICE lets it wait with the
next tag; both tell a number above 11, an EMPTY slot, a slot of another origin and one that is not HELD apart (R136). -/
def Obligations.PortNoticesAreComposed : Prop :=
  (∀ p tag (named code flags : Byte) (payload : List Byte) (s : State), Admits p .control s → payload.length ≤ 61 →
    s.nt.slots.length = 12 →
    let args := [named, code, flags] ++ payload
    let ok := code.toNat ≤ 2 ∧ (named.toNat ≤ 11 ∨ named = 255) ∧ flags.toNat ≤ 3
    let cls : NoticeClass := if code = 0 then .routine else if code = 1 then .urgent else .alarm
    let held : Slot :=
      { Slot.clear with
        state := .held, kind := .text, cls := cls, origin := .port p, preemptible := flags.getLsbD 0, payload := some payload }
    let next := (s.nt.tagCounter + 1) % 256
    (¬ok → exec (.queueNotice p tag args) s = .next (s.answered p tag .outOfRange [])) ∧
    (ok → named.toNat ≤ 11 → (slotAt named.toNat s).state ≠ .empty →
      exec (.queueNotice p tag args) s = .next (s.answered p tag .busy [])) ∧
    (ok → named = 255 → (∀ m, m < 12 → (slotAt m s).state ≠ .empty) →
      (cls = .alarm → ∀ m, m < 12 → (slotAt m s).state = .waiting → (slotAt m s).cls = .routine →
        (slotAt m s).responder = true) →
      exec (.queueNotice p tag args) s = .next (s.answered p tag .noSlot [])) ∧
    (∀ n, ok → n < 12 → (slotAt n s).state = .empty →
      n = named.toNat ∨ (named = 255 ∧ ∀ m, m < n → (slotAt m s).state ≠ .empty) →
      (flags.getLsbD 1 = true → exec (.queueNotice p tag args) s =
        .next ((settle ((s.taking p tag).onNt fun nt => { nt with slots := nt.slots.set n held })).replied p tag
          (be 1 n ++ [0]))) ∧
      (flags.getLsbD 1 = false → exec (.queueNotice p tag args) s =
        .next ((settle { s.taking p tag with
          nt := { s.nt with
            slots := s.nt.slots.set n { held with state := .waiting, tag := next, queued := s.tb.now }
            tagCounter := next }
          link := if cls = .alarm ∧ s.link.health = .silent ∧ s.link.earlyUsed = false then
              { s.link with probeDue := true, probeAlarm := true, earlyUsed := true }
            else s.link }).replied p tag (be 1 n ++ be 1 next)))) ∧
    (let displaceable (m : Nat) : Prop :=
      m < 12 ∧ (slotAt m s).responder = false ∧ (slotAt m s).state = .waiting ∧ (slotAt m s).cls = .routine
     ∀ v, ok → named = 255 → cls = .alarm → (∀ m, m < 12 → (slotAt m s).state ≠ .empty) → displaceable v →
      (∀ m, displaceable m → (slotAt v s).queued < (slotAt m s).queued ∨
        ((slotAt v s).queued = (slotAt m s).queued ∧ v ≤ m)) →
      let out := finishSlot v .displaced .displaced (s.taking p tag)
      let counted := { out.nt with displacements := min 65535 (s.nt.displacements + 1) }
      (flags.getLsbD 1 = true → exec (.queueNotice p tag args) s =
        .next ((settle { out with nt := { counted with slots := out.nt.slots.set v held } }).replied p tag
          (be 1 v ++ [0]))) ∧
      (flags.getLsbD 1 = false → exec (.queueNotice p tag args) s =
        .next ((settle { out with
          nt := { counted with
            slots := out.nt.slots.set v { held with state := .waiting, tag := next, queued := s.tb.now }
            tagCounter := next }
          link := if out.link.health = .silent ∧ out.link.earlyUsed = false then
              { out.link with probeDue := true, probeAlarm := true, earlyUsed := true }
            else out.link }).replied p tag (be 1 v ++ be 1 next))))) ∧
  (∀ p tag (slot : Byte) (s : State), Admits p .control s → s.nt.slots.length = 12 →
    let n := slot.toNat
    let sl := slotAt n s
    let refused (st : Status) : Prop :=
      (11 < n ∧ st = .outOfRange) ∨ (n ≤ 11 ∧ sl.state = .empty ∧ st = .notFound) ∨
      (n ≤ 11 ∧ sl.state ≠ .empty ∧ sl.origin ≠ .port p ∧ st = .denied) ∨
      (n ≤ 11 ∧ sl.state ≠ .empty ∧ sl.state ≠ .held ∧ sl.origin = .port p ∧ st = .busy)
    let next := (s.nt.tagCounter + 1) % 256
    (∀ st, refused st → exec (.releaseNotice p tag [slot]) s = .next (s.answered p tag st [])) ∧
    (∀ st bytes, refused st → bytes ≠ [] → bytes.length ≤ 63 →
      exec (.appendNotice p tag (slot :: bytes)) s = .next (s.answered p tag st [])) ∧
    (∀ old bytes, n ≤ 11 → sl.state = .held → sl.origin = .port p → sl.payload = some old → bytes ≠ [] → bytes.length ≤ 63 →
      (old.length + bytes.length ≤ 128 → exec (.appendNotice p tag (slot :: bytes)) s =
        .next ((s.onNt fun nt => { nt with slots := nt.slots.set n { sl with payload := some (old ++ bytes) } }).answered p tag
          .ok (be 1 (old.length + bytes.length)))) ∧
      (128 < old.length + bytes.length → exec (.appendNotice p tag (slot :: bytes)) s =
        .next (s.answered p tag .outOfRange []))) ∧
    (n ≤ 11 → sl.state = .held → sl.origin = .port p →
      exec (.releaseNotice p tag [slot]) s =
        .next ((settle { s.taking p tag with
          nt := { s.nt with
            slots := s.nt.slots.set n { sl with state := .waiting, tag := next, queued := s.tb.now, view := .notWaiting }
            tagCounter := next }
          link := if sl.cls = .alarm ∧ s.link.health = .silent ∧ s.link.earlyUsed = false then
              { s.link with probeDue := true, probeAlarm := true, earlyUsed := true }
            else s.link }).replied p tag (be 1 next))))

/-- ABORT_NOTICE by the slot's state, FREE_SLOT of a HELD or final slot of the port's own, and their refusals; the abort of
a PREEMPTED slot removes its stack entry, and an entry below takes over its preempting slot (R144, R145, R147). That the
reply names the slot's state before the state is formed again, and an internal slot's after its return to EMPTY, is the
model's choice (notes/assumptions/27.md). -/
def Obligations.SlotsAreAbortedAndFreed : Prop :=
  ∀ p tag (slot : Byte) (s : State), Admits p .control s → s.nt.slots.length = 12 →
    let n := slot.toNat
    let sl := slotAt n s
    let s0 := s.taking p tag
    let mine := ∀ q, sl.origin = .port q → q = p
    let final := sl.state = .delivered ∨ sl.state = .failed ∨ sl.state = .aborted ∨ sl.state = .displaced
    (11 < n → exec (.abortNotice p tag [slot]) s = .next (s.answered p tag .outOfRange []) ∧
      exec (.freeSlot p tag [slot]) s = .next (s.answered p tag .outOfRange [])) ∧
    (n ≤ 11 → sl.state = .empty → exec (.abortNotice p tag [slot]) s = .next (s.answered p tag .notFound []) ∧
      exec (.freeSlot p tag [slot]) s = .next (s.answered p tag .notFound [])) ∧
    (n ≤ 11 → sl.state ≠ .empty → ¬mine → exec (.abortNotice p tag [slot]) s = .next (s.answered p tag .denied [])) ∧
    (n ≤ 11 → mine → sl.state = .held ∨ sl.state = .armed ∨ sl.state = .waiting ∨ sl.state = .backoff →
      let x := finishSlot n .aborted .aborted s0
      exec (.abortNotice p tag [slot]) s = .next ((settle x).replied p tag (be 1 (slotAt n x).state.code))) ∧
    (n ≤ 11 → mine → sl.state = .sending →
      exec (.abortNotice p tag [slot]) s =
        .next ((settle (s0.onNt fun nt => { nt with slots := nt.slots.set n { sl with abortPending := true } })).replied p tag
          [4])) ∧
    (n ≤ 11 → mine → sl.state = .awaitAck →
      let x := finishSlot n .aborted .aborted (s0.onLink fun l =>
        { l with window := if (l.window.map fun w => w.origin) = some (.segment n) then none else l.window })
      exec (.abortNotice p tag [slot]) s = .next ((settle x).replied p tag (be 1 (slotAt n x).state.code))) ∧
    (n ≤ 11 → mine → sl.state = .preempted → (∀ e ∈ s.nt.stack, e.slot ≠ n) →
      let x := finishSlot n .aborted .aborted s0
      exec (.abortNotice p tag [slot]) s = .next ((settle x).replied p tag (be 1 (slotAt n x).state.code))) ∧
    (∀ e, n ≤ 11 → mine → sl.state = .preempted → s.nt.stack = [e] → e.slot = n →
      let x := finishSlot n .aborted .aborted (s0.onNt fun nt => { nt with stack := [] })
      exec (.abortNotice p tag [slot]) s = .next ((settle x).replied p tag (be 1 (slotAt n x).state.code))) ∧
    (∀ e above, n ≤ 11 → mine → sl.state = .preempted → s.nt.stack = [e, above] → e.slot = n →
      let x := finishSlot n .aborted .aborted (s0.onNt fun nt => { nt with stack := [above] })
      exec (.abortNotice p tag [slot]) s = .next ((settle x).replied p tag (be 1 (slotAt n x).state.code))) ∧
    (∀ below e, n ≤ 11 → mine → sl.state = .preempted → s.nt.stack = [below, e] → below.slot ≠ n → e.slot = n →
      let x := finishSlot n .aborted .aborted (s0.onNt fun nt => { nt with stack := [{ below with by' := e.by' }] })
      exec (.abortNotice p tag [slot]) s = .next ((settle x).replied p tag (be 1 (slotAt n x).state.code))) ∧
    (n ≤ 11 → mine → final →
      exec (.abortNotice p tag [slot]) s = .next ((settle s0).replied p tag (be 1 sl.state.code))) ∧
    (n ≤ 11 → sl.state ≠ .empty → sl.origin ≠ .port p →
      exec (.freeSlot p tag [slot]) s = .next (s.answered p tag .denied [])) ∧
    (n ≤ 11 → sl.state ≠ .empty → sl.origin = .port p → sl.state ≠ .held → ¬final →
      exec (.freeSlot p tag [slot]) s = .next (s.answered p tag .busy [])) ∧
    (n ≤ 11 → sl.origin = .port p → sl.state = .held ∨ final → sl.event = none →
      exec (.freeSlot p tag [slot]) s =
        .next ((settle (s0.onNt fun nt => { nt with slots := nt.slots.set n Slot.clear })).replied p tag []))

/-- SET_RESPONDER arms an EMPTY slot or an ARMED one of the port's own with a topic, a mask and a STATUS or TEXT answer;
SET_NOTICES writes the backoff base and the retry limits within their ranges; GET_SLOT reads a slot and sends zeros for
an EMPTY one (R148, R152, R153). That a responder armed again keeps its last times and outcome, and that the origin is judged
before the state, are the model's choices (notes/assumptions/24.md, 42.md). -/
def Obligations.RespondersAndNoticeSettings : Prop :=
  (∀ p tag (slot topicHi topicLo maskHi maskLo kind code flags : Byte) (text : List Byte) (s : State), Admits p .control s →
    s.nt.slots.length = 12 → text.length ≤ 55 →
    let n := slot.toNat
    let sl := slotAt n s
    let args := [slot, topicHi, topicLo, maskHi, maskLo, kind, code, flags] ++ text
    let ok := n ≤ 11 ∧ ((kind = 6 ∧ text = []) ∨ kind = 7) ∧ code.toNat ≤ 2 ∧ flags.toNat ≤ 1
    let armed : Slot :=
      { Slot.clear with
        responder := true, state := .armed, kind := if kind = 6 then .status else .text
        cls := if code = 0 then .routine else if code = 1 then .urgent else .alarm
        origin := .port p, topic := topicHi.toNat * 256 + topicLo.toNat, mask := maskHi.toNat * 256 + maskLo.toNat
        preemptible := flags == 1, payload := if kind = 6 then none else some text, queued := sl.queued
        completed := sl.completed, outcome := sl.outcome }
    (¬ok → exec (.setResponder p tag args) s = .next (s.answered p tag .outOfRange [])) ∧
    (ok → sl.state = .empty ∨ (sl.state = .armed ∧ sl.origin = .port p) →
      exec (.setResponder p tag args) s =
        .next ((settle ((s.taking p tag).onNt fun nt => { nt with slots := nt.slots.set n armed })).replied p tag [])) ∧
    (ok → sl.state ≠ .empty → sl.origin ≠ .port p →
      exec (.setResponder p tag args) s = .next (s.answered p tag .denied [])) ∧
    (ok → sl.state ≠ .empty → sl.state ≠ .armed → sl.origin = .port p →
      exec (.setResponder p tag args) s = .next (s.answered p tag .busy []))) ∧
  (∀ p tag (base a u r : Byte) (s : State), Admits p .configure s →
    let args := [base, a, u, r]
    let ok := (1 ≤ base.toNat ∧ base.toNat ≤ 64) ∧ (1 ≤ a.toNat ∧ a.toNat ≤ 15) ∧ (1 ≤ u.toNat ∧ u.toNat ≤ 15) ∧
      (1 ≤ r.toNat ∧ r.toNat ≤ 15)
    (ok → exec (.setNotices p tag args) s =
      .next ((s.onNt fun nt =>
        { nt with cfg := ⟨base.toNat, a.toNat, u.toNat, r.toNat⟩ }).answered p tag .ok [])) ∧
    (¬ok → exec (.setNotices p tag args) s = .next (s.answered p tag .outOfRange []))) ∧
  (∀ p tag (slot : Byte) (s : State), Admits p .read s →
    let sl := slotAt slot.toNat s
    exec (.getSlot p tag [slot]) s =
      .next (if 11 < slot.toNat then s.answered p tag .outOfRange []
        else if sl.state = .empty then s.answered p tag .ok (slot :: zeros 36)
        else s.answered p tag .ok
          ([slot] ++ be 1 (if sl.responder then 1 else 0) ++ be 1 sl.state.code ++ be 1 sl.kind.code ++ be 1 sl.cls.code ++
            be 1 (match sl.origin with
              | .detector => 0 | .power => 1 | .timebase => 2 | .link => 3
              | .port .a => 4 | .port .b => 5 | .port .c => 6) ++
            flagsByte [sl.preemptible, sl.abortPending, sl.rebuild, sl.event.isSome] ++ be 4 (sl.event.getD 0) ++
            be 2 sl.topic ++ be 2 sl.mask ++ be 1 sl.tag ++ be 1 sl.segments ++ be 1 sl.nextSegment ++ be 1 sl.attempts ++
            be 1 (sl.payload.getD []).length ++ timeBytes sl.queued ++ timeBytes sl.completed ++ be 1 sl.outcome.code)))

/-! ### Power (chapter 9) -/

/-- An accounting second takes the six readings, updates Q from IB, recalibrates it, derates the capacity, forms SoC and
CHG_EN, tells the Heater Controller, and moves its counts; FULL_RECALIBRATION and EMPTY_RECALIBRATION are the seconds at
which the full count reaches 60 and the empty count stands at 10 (R155 to R160, R165, R166, R168;
notes/assumptions/9.md). The model's choices: the min-off count of a load counts also while it is ON
(notes/assumptions/18.md), and UNVERIFIED clears in the second in which the empty count reaches 10 also where IB is FAULTED
(notes/assumptions/45.md). -/
def Obligations.SecondsKeepTheChargeAccount : Prop :=
  ∀ (r : Readings) (s : State), s.pace.held = false → (s.pace.seconds + 1) * 10000000 ≤ s.pace.cycles →
    let pw := s.pw
    let cfg := s.pw.cfg
    let taken (lo hi v : Int) (m : Measure) : Measure :=
      if lo ≤ v ∧ v ≤ hi then { value := v, bad := 0, faulted := false, everGood := true }
      else { m with
        bad := min 60 (m.bad + 1)
        faulted := m.faulted || decide (60 ≤ min 60 (m.bad + 1)) || !m.everGood }
    let vb := taken 5000 20000 r.vb pw.vb
    let ib := taken (-30000) 30000 r.ib pw.ib
    let tb := taken (-550) 1000 r.tb pw.tb
    let tv := taken (-550) 1000 r.tv pw.tv
    let vs := taken 0 40000 r.vs pw.vs
    let full := if pw.chgEn ∧ ¬vb.faulted ∧ ¬ib.faulted ∧ cfg.vfull ≤ vb.value ∧ 0 ≤ ib.value ∧ ib.value ≤ cfg.itaper
      then min 60 (pw.fullCount + 1) else 0
    let empty := if ¬vb.faulted ∧ vb.value ≤ cfg.vempty then min 10 (pw.emptyCount + 1) else 0
    let change : Int := if 0 < ib.value then ib.value * cfg.accept / 256 else ib.value
    let charged := if ib.faulted then pw.q else (max 0 (min ((cfg.cap * 36000 : Nat) : Int) ((pw.q : Int) + change))).toNat
    let q := if 10 ≤ empty then 0 else if 60 ≤ full then cfg.cap * 36000 else charged
    let d : Int :=
      if tb.faulted ∨ tb.value ≤ -400 then 128
      else if tb.value < -200 then 128 + (tb.value + 400) * 38 / 200
      else if tb.value < 0 then 166 + (tb.value + 200) * 52 / 200
      else if tb.value < 200 then 218 + tb.value * 38 / 200
      else 256
    let cd := cfg.cap * 36000 * d.toNat / 256
    let soc := min 1000 (q * 1000 / cd)
    let fullHold := (60 ≤ full ∨ pw.fullHold) ∧ 950 ≤ soc
    let source := ¬vs.faulted ∧ cfg.sourcePresent ≤ vs.value ∧ ¬tb.faulted ∧ ¬fullHold
    let dormant := pw.level = some .dormant
    ∃ x, exec (.accountingSecond r) s = .next (settle x) ∧
      (60 ≤ full → exec (.fullRecalibration r) s = .next (settle x)) ∧
      (10 ≤ empty → exec (.emptyRecalibration r) s = .next (settle x)) ∧
      x.pending = s.pending ∧ x.tb.now = s.tb.now ∧ x.pace.seconds = s.pace.seconds + 1 ∧ x.pw.cfg = cfg ∧ x.pw.act = cfg ∧
      x.pw.vb = vb ∧ x.pw.ib = ib ∧ x.pw.tb = tb ∧ x.pw.tv = tv ∧ x.pw.vs = vs ∧
      x.pw.tosc = taken (-550) 1000 r.tosc pw.tosc ∧
      x.pw.q = q ∧ (x.pw.unverified = true ↔ (pw.unverified = true ∨ ib.faulted = true) ∧ full < 60 ∧
        (empty < 10 ∨ 10 ≤ pw.emptyCount)) ∧
      x.pw.fullCount = full % 60 ∧ x.pw.emptyCount = empty ∧ (x.pw.fullHold = true ↔ fullHold) ∧
      x.pw.cd = cd ∧ x.pw.soc = soc ∧
      (x.pw.chgEn = true ↔ source ∧ cfg.chargeMin ≤ tb.value ∧ tb.value ≤ cfg.chargeMax) ∧
      (x.pw.coldInhibit = true ↔ source ∧ tb.value < cfg.chargeMin) ∧
      (x.pw.sourceHeating = true ↔ source ∧ tb.value < cfg.chargeMin ∧ cfg.vcutoff ≤ vb.value) ∧
      x.ht.sourceHeating = x.pw.sourceHeating ∧ x.ht.tbFaulted = tb.faulted ∧ x.ht.tvFaulted = tv.faulted ∧
      (¬dormant → x.pw.cutoffCount = if ¬vb.faulted ∧ vb.value < cfg.vcutoff then min 10 (pw.cutoffCount + 1) else 0) ∧
      (dormant → x.pw.cutoffCount = if vb.faulted then 0 else pw.cutoffCount) ∧
      (dormant → x.pw.restartCount =
        if ¬vb.faulted ∧ ¬ib.faulted ∧ ¬tb.faulted ∧ cfg.vrestart < vb.value ∧ 200 < soc then min 60 (pw.restartCount + 1)
        else 0) ∧
      x.pw.lastGasp = pw.lastGasp.map (fun g => { g with elapsed := min 60 (g.elapsed + 1) }) ∧
      ∀ l, (x.pw.loads.get l).minOff = min 65535 ((pw.loads.get l).minOff + 1)

/-- The level of an accounting second: the first one, the descent to the target at once, the ascent by one level after the
dwell under the ceiling, and the level held while VB is FAULTED, in the last-gasp wait and in DORMANT (R161, R162). -/
def Obligations.LevelsFollowChargeAndVoltage : Prop :=
  ∀ (r : Readings) (s : State), s.pace.held = false → (s.pace.seconds + 1) * 10000000 ≤ s.pace.cycles →
    ∃ x, exec (.accountingSecond r) s = .next (settle x) ∧
      let cfg := s.pw.cfg
      let dwell := min 65535 (s.pw.dwell + 1)
      let vb := x.pw.vb
      let soc := x.pw.soc
      let target : Level :=
        if soc < 150 ∨ vb.value < cfg.vcrit then .critical
        else if soc < 350 then .survival
        else if soc < 600 then .reduced
        else .full
      let rise (l higher : Level) (leave : Nat) : Prop :=
        s.pw.level = some l → s.pw.lastGasp = none → vb.faulted = false → target.code ≤ l.code →
        x.pw.level = some
          (if cfg.minDwell ≤ dwell ∧ leave < soc ∧ cfg.vcrit ≤ vb.value ∧ s.pw.ceiling.code ≤ higher.code then higher else l)
      (s.pw.level = none → x.pw.level = some
        (if vb.faulted then .critical else if s.pw.ceiling.code < target.code then target else s.pw.ceiling)) ∧
      (s.pw.level = some .dormant → x.pw.level = some .dormant) ∧
      (∀ l, s.pw.level = some l → s.pw.lastGasp ≠ none ∨ vb.faulted = true → x.pw.level = some l) ∧
      (∀ l, s.pw.level = some l → l ≠ .dormant → s.pw.lastGasp = none → vb.faulted = false → l.code < target.code →
        x.pw.level = some target) ∧
      (s.pw.level = some .full → target = .full → x.pw.level = some .full) ∧
      rise .reduced .full 650 ∧ rise .survival .reduced 400 ∧ rise .critical .survival 200 ∧
      x.pw.dwell = if x.pw.level = s.pw.level then dwell else 0

/-- A change of level reaches every block: the ports' notifications, the GNSS request, the link state and the listen
request, the Heater Controller's caps with a cut where one falls, the Detector's channels, LEVEL_CHANGED on the OPEN
record, and last the level-entry notice, which a live reference holds back. The first level also starts both heater
channels, HO half a period after HB, with duty 0 and no boundary yet and the duties of that second still to be computed,
and gives STATION its entries by the standing-load setting; no later level does. At the entry to CRITICAL or DORMANT each
channel outside the critical set turns OFF, a trigger there ends in its participant's entry with RECONFIGURED and the
final peaks, and the closing check and the quiet request follow; at the return the enabled ones enter WARMUP (R56, R91,
R96, R105, R124, R127, R164, R169, R171, R175, R177). That the reports come in this order and the level-entry notice
last, where R164 leaves the order open, also against a QUAKE_SUMMARY that the Detector's report requests, is the model's
choice (notes/assumptions/5.md, notes/assumptions/58.md), and so are that LEVEL_CHANGED comes before the loads are
formed, at the ports and on the OPEN record (notes/assumptions/52.md, notes/assumptions/53.md), that the caps cut before
SENSOR's turn-off at the entry to DORMANT (notes/assumptions/57.md), and that a channel put into WARMUP keeps the rest of
its holdoff count (notes/assumptions/50.md). -/
def Obligations.ChangesOfLevelReachEveryBlock : Prop :=
  let codeOf (l : Load) : Nat := match l with
    | .sensor => 0 | .gnss => 1 | .recorder => 2 | .telemetry => 3 | .radio => 4 | .aux => 5
  let startedCompare (h : Heater) (s : State) : Compare := { (s.ccu.heaters.get h).cmp with
    mode := .repeating, period := 160000000, waiting := none
    phase := match h with | .hb => 0 | .ho => 80000000
    next := match h with
      | .hb => (s.tb.now / 160000000 + 1) * 160000000
      | .ho => (s.tb.now + 80000000) / 160000000 * 160000000 + 80000000 }
  (∀ (new : Level) (notice : Bool) (s : State), s.pw.level ≠ some new →
    ∃ u, changeLevel new notice s =
        (if notice ∧ new = .survival then powerNotice .survivalEntry u
         else if notice ∧ new = .critical then powerNotice .criticalEntry u else u) ∧
      (let first (f : State → State) (x : State) : State := if s.pw.level = none then f x else x
       let entered : State := { s with pw := { s.pw with
         level := some new, dwell := 0, restartCount := 0
         cutoffCount := if s.pw.level = some .dormant then 0 else s.pw.cutoffCount } }
       let base := first startHeaters (linkLevel (disciplineLevel (some new) (first formStanding entered)))
       let caps (x : State) : State := formCaps (x.onHt fun h => { h with level := some new })
       let det (x : State) : State := detectorLevel s.pw.level (some new) x
       ∃ watchers ∈ [fun x => det (caps x), fun x => caps (det x)],
         u = notifyAll .levelChanged (watchers (flagLevelChanged base)) ∨
         u = notifyAll .levelChanged (flagLevelChanged (watchers base))) ∧
      (∀ l, (u.pw.loads.get l).asks.station =
        if s.pw.level ≠ none then (s.pw.loads.get l).asks.station
        else if s.pw.act.standing.getLsbD (codeOf l) then .standing else .absent) ∧
      u.pace.heaterSeconds = (if s.pw.level = none then s.pace.seconds - 1 else s.pace.heaterSeconds) ∧
      (s.pw.level ≠ none → ∀ h, (u.ccu.heaters.get h).cmp = (s.ccu.heaters.get h).cmp) ∧
      (s.pw.level = none → ∀ h,
        (u.ccu.heaters.get h).cmp = startedCompare h s ∧ (u.ccu.heaters.get h).duty = 0 ∧
        (u.ccu.heaters.get h).pendingDuty = none ∧ (u.ccu.heaters.get h).boundary = none ∧
        (u.ccu.heaters.get h).offMatch = none) ∧
      u.pw.level = some new ∧ u.pw.dwell = 0 ∧ u.pw.restartCount = 0 ∧
      (s.pw.level = some .dormant → u.pw.cutoffCount = 0) ∧
      (∀ p, (u.ports.get p).notices.getLsbD 3 = true) ∧
      (u.disc.continuous = true ↔ new = .full ∨ new = .reduced) ∧
      u.disc.window = (if new = .survival then some (s.pace.seconds + s.disc.cfg.windowLength) else none) ∧
      u.link.state = (if new = .dormant then .off else s.link.health) ∧
      u.link.listenAsk = (match new with
        | .full => true | .reduced => true | .survival => s.link.cfg.listensAt s.tb.now | .critical => false
        | .dormant => false) ∧
      u.ht.level = some new ∧
      (∀ h, let cap := if h = .hb ∧ s.ht.sourceHeating = true then s.ht.limits.sourceCap
              else (s.ht.limits.caps.get h).get new
        (u.ht.units.get h).cap = cap ∧
        (cap < (s.ht.units.get h).cap → cap ≤ 64 →
          (u.ht.units.get h).computed ≤ cap ∧ (u.ccu.heaters.get h).duty ≤ cap ∧
            ∀ d, (u.ccu.heaters.get h).pendingDuty = some d → d ≤ cap)) ∧
      (new = .critical ∨ new = .dormant → s.pw.level ≠ some .critical → s.pw.level ≠ some .dormant →
        ∀ ch, 1 ≤ ch → ch ≤ 6 → (s.det.params.get ch).critical = false → (u.det.channels.get ch).state = .off) ∧
      (new ≠ .critical → new ≠ .dormant → s.pw.level = some .critical ∨ s.pw.level = some .dormant →
        ∀ ch, 1 ≤ ch → ch ≤ 6 → (s.det.params.get ch).critical = false → (s.det.params.get ch).enabled = true →
          (s.det.channels.get ch).state = .off → (u.det.channels.get ch).state = .warmup) ∧
      ∀ rec' ∈ u.ev.records, rec'.closed = false → rec'.levelChanged = true) ∧
  (∀ s : State,
    let started (h : Heater) : Paired := { s.ccu.heaters.get h with
      cmp := startedCompare h s, duty := 0, pendingDuty := none, boundary := none, offMatch := none }
    startHeaters s = { s with
      pace := { s.pace with heaterSeconds := s.pace.seconds - 1 }
      ccu := { s.ccu with heaters := ⟨started .hb, started .ho⟩ } }) ∧
  (∀ s : State,
    formStanding s = { s with pw := { s.pw with loads := (formStanding s).pw.loads } } ∧
    ∀ l, (formStanding s).pw.loads.get l = { s.pw.loads.get l with asks := { (s.pw.loads.get l).asks with
      station := if s.pw.act.standing.getLsbD (codeOf l) then .standing else .absent } }) ∧
  (∀ old new (s : State), (∀ p ∈ s.det.participants, 1 ≤ p.channel ∧ p.channel ≤ 6) →
    let shed (l : Option Level) : Prop := l = some .critical ∨ l = some .dormant
    (shed new → ¬shed old → detectorLevel old new s = afterChannelChange { s with det := { s.det with
      channels := s.det.channels.map fun ch c => if (s.det.params.get ch).critical then c else { c with state := .off }
      participants := s.det.participants.map fun p =>
        let c := s.det.channels.get p.channel
        if (s.det.params.get p.channel).critical = false ∧ c.state = .triggered ∧ p.reason = none then
          { p with reason := some .reconfigured, peakD := max p.peakD c.peakD, peakRatio := max p.peakRatio c.peakRatio }
        else p } }) ∧
    (shed old → ¬shed new → detectorLevel old new s = { s with det := { s.det with
      channels := s.det.channels.map fun ch c =>
        if (s.det.params.get ch).critical = false ∧ (s.det.params.get ch).enabled = true ∧ c.state = .off then
          { c with state := .warmup, warm := 0 }
        else c } }) ∧
    ((shed old ↔ shed new) → detectorLevel old new s = s)) ∧
  (∀ s : State,
    (∀ c, s.pw.refOf c ≠ none → powerNotice c s = s) ∧
    (let t := requestNotice { kind := .power, cls := .routine, origin := .power, event := none, reason := .levelEntry } s
     s.pw.survivalRef = none → powerNotice .survivalEntry s = t.1.onPw fun pw => { pw with survivalRef := t.2 }) ∧
    (let t := requestNotice { kind := .power, cls := .urgent, origin := .power, event := none, reason := .levelEntry } s
     s.pw.criticalRef = none → powerNotice .criticalEntry s = t.1.onPw fun pw => { pw with criticalRef := t.2 }) ∧
    (let t := requestNotice { kind := .power, cls := .routine, origin := .power, event := none, reason := .coldHold } s
     s.pw.coldRef = none → powerNotice .coldHold s = t.1.onPw fun pw => { pw with coldRef := t.2 }))

/-- The last gasp: the tenth cutoff second requests an ALARM notice, unless the slot of an earlier one has not reached a
final state, which then serves, and takes the level to CRITICAL without a level-entry notice; a refusal, the final state
of the slot or the sixtieth second of the wait enters DORMANT with the automatic save, where every load is OFF, and the
slot's reference stays; the sixtieth restart second leads back to CRITICAL (R165, R166, R171, R193). The model's choices:
a refused last gasp goes to DORMANT in the same step without CRITICAL (notes/assumptions/19.md), and the start of the
save leaves STORE_INVALID as it stood (notes/assumptions/32.md). -/
def Obligations.LastGaspLeadsToDormant : Prop :=
  (∀ s : State, s.pace.held = false → 10 ≤ s.pw.cutoffCount → s.pw.lastGasp = none → s.pw.level ≠ some .dormant →
    let t := requestNotice { kind := .power, cls := .alarm, origin := .power, event := none, reason := .lastGasp } s
    let waits (n : Nat) (x : State) : State :=
      changeLevel .critical false { x with pw := { x.pw with lastGasp := some ⟨0⟩, gaspRef := some n } }
    exec .lastGaspStart s = .next (settle (match s.pw.gaspRef, t.2 with
      | some n, _ => waits n s
      | none, none => enterDormant t.1
      | none, some n => waits n t.1))) ∧
  (∀ g (s : State), s.pace.held = false → s.pw.lastGasp = some g → 60 ≤ g.elapsed →
    exec .lastGaspTimeout s = .next (settle (enterDormant s))) ∧
  (∀ s : State,
    let x := enterDormant s
    x.pw.level = some .dormant ∧ x.pw.lastGasp = none ∧ x.pw.gaspRef = s.pw.gaspRef ∧
    (s.store.save = none → x.store = { s.store with
      image := none, autoWaiting := false
      save := some { copy := imageOf x, finish := s.pace.cycles + 2500000, automatic := true, replyTo := none } }) ∧
    (s.store.save ≠ none → x.store = { s.store with autoWaiting := true }) ∧
    ∀ l, ((settle x).pw.loads.get l).on = false) ∧
  (∀ s : State,
    (s.pw.gaspEnded = true → endGasp s = enterDormant s ∧ (settle s).pw.level = some .dormant) ∧
    (s.pw.gaspEnded = false → endGasp s = s)) ∧
  (∀ s : State, s.pace.held = false → s.pw.level = some .dormant → 60 ≤ s.pw.restartCount →
    exec .dormantRestart s = .next (settle (changeLevel .critical true s)))

/-- A load's state formed again: ON when a counted requester asks and the min-off count has reached the setting, else
OFF; a change is counted, notified and told to the load's block. At a turn-on SENSOR begins to settle, or with a settle
time of 0 its stream starts at once, RADIO begins its warm-up, and GNSS, RECORDER, TELEMETRY and AUX change nothing. At a
turn-off SENSOR stops channel 4 and drops the frame in flight, a read under way counted as aborted, and the Detector ends
every trigger with SENSOR_OFF, puts its channels into WARMUP, marks an OPEN episode GAP and makes its closing check; GNSS
makes the receiver ABSENT as a PPS loss does; RADIO stops being warm and ends what is in flight, a segment on air or in
its window with POWER_CUT at its slot; RECORDER and TELEMETRY reset port A and B (R39, R61, R73, R95, R115, R117, R122,
R143, R167, R168, R170). The model's choices: a load whose count reached the setting at this second waits for
MIN_OFF_REACHED (notes/assumptions/21.md), LOAD_CHANGED comes before the reset of the port, so that its set ends empty
(notes/assumptions/31.md), a channel put into WARMUP keeps the rest of its holdoff count (notes/assumptions/50.md), and a
load that is ON under a longer setting than its count turns OFF (notes/assumptions/18.md). -/
def Obligations.LoadsFollowTheirRequests : Prop :=
  ∀ (l : Load) (s : State),
    let x := s.pw.loads.get l
    let counts (level : Level) (r : Requester) : Prop := match level with
      | .full => True
      | .reduced => l ≠ .aux ∧ (l = .telemetry → r ≠ .station)
      | .survival => l = .sensor ∨ l = .radio ∨ (l = .gnss ∧ r = .timebase) ∨
          (l = .recorder ∧ (r = .detector ∨ r = .remote)) ∨ (l = .telemetry ∧ r = .remote)
      | .critical => l = .sensor ∨ (l = .radio ∧ r = .link ∧ s.pw.linkAlarm = true)
      | .dormant => False
    let allowed := ∃ level r, s.pw.level = some level ∧ x.asks.get r ≠ .absent ∧ counts level r
    let ready := s.pw.act.minOff ≤ x.minOff
    let t := formLoad l s
    (allowedLoad l s = true ↔ allowed) ∧
    (allowed → ready → x.on = true ∨ x.onDue = true → t = s) ∧
    (allowed → ¬ready → x.on = false → t = s) ∧
    (¬allowed → x.on = false → t = s.onLoad l fun y => { y with onDue := false }) ∧
    (allowed → ready → x.on = false → x.onDue = false →
      t.pw.loads.get l = { x with on := true, onCount := (x.onCount + 1) % 65536 } ∧
      (∀ p, t.ports.get p = { s.ports.get p with notices := (s.ports.get p).notices ||| 0x100 }) ∧
      (l = .sensor → s.acq.cfg.settleTime ≠ 0 →
        t.acq = { s.acq with state := .settling, settleCount := 0, settleDue := false } ∧ t.ccu = s.ccu ∧ t.det = s.det) ∧
      (l = .sensor → s.acq.cfg.settleTime = 0 →
        t.acq = { s.acq with state := .running, settleCount := 0, settleDue := false } ∧
        t.ccu = { s.ccu with ch4 := { s.ccu.ch4 with
          mode := .repeating, phase := 0, waiting := none, next := (s.tb.now / 10000000 + 1) * 10000000
          period := match s.acq.cfg.rate with | .r50 => 200000 | .r100 => 100000 | .r200 => 50000 } } ∧
        t.det = { s.det with
          gapRun := 0
          channels := s.det.channels.map fun _ c => if c.state = .off then c else { c with state := .warmup, warm := 0 } }) ∧
      (l ≠ .sensor → t.acq = s.acq ∧ t.ccu = s.ccu ∧ t.det = s.det) ∧ (l ≠ .radio → t.link = s.link) ∧
      t.disc = s.disc ∧ t.tb = s.tb ∧ t.ev = s.ev ∧ t.nt = s.nt ∧ t.ht = s.ht ∧
      (l = .radio → t.link = { s.link with
        warm := s.link.cfg.warmup == 0, warmAt := s.pace.cycles + s.link.cfg.warmup * 1000000 })) ∧
    (¬(allowed ∧ ready) → x.on = true →
      (t.pw.loads.get l).on = false ∧ (t.pw.loads.get l).minOff = 0 ∧ (t.pw.loads.get l).onCount = x.onCount ∧
      (∀ p, if (l = .recorder ∧ p = .a) ∨ (l = .telemetry ∧ p = .b) then
          t.ports.get p = { s.ports.get p with transaction := .none, reply := .none, notices := 0 }
        else (t.ports.get p).notices.getLsbD 8 = true ∧ (t.ports.get p).reply = (s.ports.get p).reply) ∧
      let off : State := { (s.onLoad l fun y => { y with on := false, minOff := 0, onDue := false }) with
        ports := s.ports.map fun r => { r with notices := r.notices ||| 0x100 } }
      (l = .sensor → (∀ p ∈ s.det.participants, 1 ≤ p.channel ∧ p.channel ≤ 6) →
        t = afterChannelChange { off with
          ccu := { s.ccu with ch4 := { s.ccu.ch4 with mode := .off, next := 0, waiting := none } }
          acq := { s.acq with
            state := .stopped, settleCount := 0, settleDue := false, inFlight := none
            aborted := if s.acq.inFlight.any (fun f => f.reading) then min 65535 (s.acq.aborted + 1) else s.acq.aborted }
          det := { s.det with
            gapRun := 0
            gapFlag := s.det.gapFlag || match s.det.episode with | .opened _ => true | .none => false | .lost => false
            channels := s.det.channels.map fun _ c => if c.state = .off then c else { c with state := .warmup, warm := 0 }
            participants := s.det.participants.map fun p =>
              let c := s.det.channels.get p.channel
              if c.state = .triggered ∧ p.reason = none then
                { p with reason := some .sensorOff, peakD := max p.peakD c.peakD, peakRatio := max p.peakRatio c.peakRatio }
              else p } }) ∧
      (l = .sensor → t.acq.state = .stopped ∧ t.acq.inFlight = none ∧ t.ccu.ch4.mode = .off) ∧
      (l = .gnss →
        let lost := off.onDisc fun d => { d with absence := s.disc.cfg.lossLimit }
        t = (if s.disc.present then becomeAbsent lost else lost) ∧ t.disc.present = false) ∧
      (l = .radio →
        let carried : Option AirOrigin := match s.link.tx with
          | .idle => none | .keying _ o _ _ => some o | .onAir _ o _ _ => some o
        let cut (o : Option AirOrigin) (y : State) : State := match o with
          | some (.segment n) => slotPowerCut n y | some .probe => y | some (.reply _) => y | none => y
        t = cut (s.link.window.map fun w => w.origin) (cut carried (off.onLink fun k =>
            { k with warm := false, tx := .idle, window := none, reception := none })) ∧
        t.link.warm = false ∧ t.link.tx = .idle ∧ t.link.window = none ∧ t.link.reception = none) ∧
      (l = .recorder → t = off.onPort .a fun r => { r with transaction := .none, reply := .none, notices := 0 }) ∧
      (l = .telemetry → t = off.onPort .b fun r => { r with transaction := .none, reply := .none, notices := 0 }) ∧
      (l = .aux → t = off))

/-- REQUEST_LOAD and RELEASE_LOAD write the port's entry and answer the load's state, LOAD_REQUEST_EXPIRY removes an
expired entry, MIN_OFF_REACHED lets a waiting load turn ON, and GET_LOAD reads a load (R56, R167 to R169, R172). That
GET_LOAD sends bit 2 as 0 for every load but RADIO is the model's choice (notes/assumptions/43.md).

SET_CEILING replaces the ceiling and lowers a higher level to it at once, but not in DORMANT or in the last-gasp wait;
SET_POWER writes the settings whole within their ranges and relations, with Cap, the standing loads and the floors at
once and a change of Cap setting Q and UNVERIFIED (R157, R163, R169, R171, R173, R174; notes/assumptions/22.md). -/
def Obligations.LoadRequestsAndPowerSettings : Prop :=
  (let codeOf (l : Load) : Byte := match l with
    | .sensor => 0 | .gnss => 1 | .recorder => 2 | .telemetry => 3 | .radio => 4 | .aux => 5
  let mine (p : Port) : Requester := match p with | .a => .portA | .b => .portB | .c => .portC
  let state (l : Load) (x : State) : List Byte := flagsByte [(x.pw.loads.get l).on, allowedLoad l x]
  (∀ p tag l (hi lo : Byte) (s : State), Admits p .control s →
    let args := [codeOf l, hi, lo]
    let n := hi.toNat * 256 + lo.toNat
    let x := settle (setAsk l (mine p) (if n = 0 then .standing else .until (s.pace.seconds + n)) (s.taking p tag))
    exec (.requestLoad p tag args) s = .next (x.replied p tag (state l x))) ∧
  (∀ p tag l (s : State), Admits p .control s →
    let x := settle (setAsk l (mine p) .absent (s.taking p tag))
    exec (.releaseLoad p tag [codeOf l]) s = .next (x.replied p tag (state l x))) ∧
  (∀ p tag (code hi lo : Byte) (s : State), Admits p .control s → 5 < code.toNat →
    exec (.requestLoad p tag [code, hi, lo]) s = .next (s.answered p tag .outOfRange []) ∧
    exec (.releaseLoad p tag [code]) s = .next (s.answered p tag .outOfRange [])) ∧
  (∀ l r e (s : State), s.pace.held = false → (s.pw.loads.get l).asks.get r = .until e → e ≤ s.pace.seconds →
    ¬(l = .gnss ∧ r = .timebase) → exec (.loadRequestExpiry l r) s = .next (settle (setAsk l r .absent s))) ∧
  (∀ e (s : State), s.pace.held = false → s.pw.loads.gnss.asks.timebase = .until e → e ≤ s.pace.seconds →
    let left (o : Option Nat) : Option Nat := if o.any fun x => decide (s.pace.seconds < x) then o else none
    let window := left s.disc.window
    let refresh := left s.disc.refresh
    exec (.loadRequestExpiry .gnss .timebase) s =
      .next (settle (setAsk .gnss .timebase
        (if s.disc.continuous then .standing
         else if window = none ∧ refresh = none then .absent
         else .until (max (window.getD 0) (refresh.getD 0)))
        (s.onDisc fun d => { d with window := window, refresh := refresh })))) ∧
  (∀ l (s : State), s.pace.held = false → (s.pw.loads.get l).onDue = true →
    exec (.minOffReached l) s = .next (settle (s.onLoad l fun x => { x with onDue := false }))) ∧
  (∀ p tag l (s : State), Admits p .read s →
    let x := s.pw.loads.get l
    let who : List Requester := [.station, .detector, .timebase, .link, .portA, .portB, .portC, .remote]
    exec (.getLoad p tag [codeOf l]) s =
      .next (s.answered p tag .ok
        ([codeOf l] ++ flagsByte [x.on, allowedLoad l s, decide (l = .radio) && s.pw.linkAlarm] ++
          flagsByte (who.map fun r => x.asks.get r != .absent) ++ be 2 x.minOff ++ be 2 x.onCount ++
          who.flatMap fun r => be 2 (match x.asks.get r with
            | .absent => 0 | .standing => 0 | .until e => e - s.pace.seconds)))) ∧
  (∀ p tag (code : Byte) (s : State), Admits p .read s → 5 < code.toNat →
    exec (.getLoad p tag [code]) s = .next (s.answered p tag .outOfRange []))) ∧
  ((∀ p tag (code : Byte) (s : State), Admits p .control s →
    let l : Level := if code = 0 then .full else if code = 1 then .reduced else if code = 2 then .survival else .critical
    let x := (s.taking p tag).onPw fun pw => { pw with ceiling := l }
    (3 < code.toNat → exec (.setCeiling p tag [code]) s = .next (s.answered p tag .outOfRange [])) ∧
    (code.toNat ≤ 3 → exec (.setCeiling p tag [code]) s = .next
      ((settle (match s.pw.level with
        | none => x
        | some now => if now ≠ .dormant ∧ s.pw.lastGasp = none ∧ now.code < l.code then changeLevel l true x else x)).replied
        p tag []))) ∧
  (∀ p tag (c : PowerCfg) (s : State), Admits p .configure s →
    c.cap < 2 ^ 16 → c.accept < 2 ^ 16 → c.startSoc < 2 ^ 16 → c.vfull < 2 ^ 16 → c.itaper < 2 ^ 16 → c.vempty < 2 ^ 16 →
    c.vcrit < 2 ^ 16 → c.vcutoff < 2 ^ 16 → c.vrestart < 2 ^ 16 → c.sourcePresent < 2 ^ 16 →
    -2 ^ 15 ≤ c.chargeMin → c.chargeMin < 2 ^ 15 → -2 ^ 15 ≤ c.chargeMax → c.chargeMax < 2 ^ 15 →
    c.minDwell < 2 ^ 16 → c.eventWake < 2 ^ 16 → c.minOff < 2 ^ 16 → c.urgentFloor < 2 ^ 16 → c.routineFloor < 2 ^ 16 →
    let args := be 2 c.cap ++ be 2 c.accept ++ be 2 c.startSoc ++ be 2 c.vfull ++ be 2 c.itaper ++ be 2 c.vempty ++
      be 2 c.vcrit ++ be 2 c.vcutoff ++ be 2 c.vrestart ++ be 2 c.sourcePresent ++ beInt 2 c.chargeMin ++
      beInt 2 c.chargeMax ++ be 2 c.minDwell ++ be 2 c.eventWake ++ be 2 c.minOff ++ be 2 c.urgentFloor ++
      be 2 c.routineFloor ++ [c.standing]
    let ok := 1 ≤ c.cap ∧ (200 ≤ c.accept ∧ c.accept ≤ 256) ∧ c.startSoc ≤ 1000 ∧ (12000 ≤ c.vfull ∧ c.vfull ≤ 16000) ∧
      c.itaper ≤ 5000 ∧ (9000 ≤ c.vempty ∧ c.vempty ≤ 12500) ∧ (9500 ≤ c.vcrit ∧ c.vcrit ≤ 13000) ∧
      (9000 ≤ c.vcutoff ∧ c.vcutoff ≤ 12500) ∧ (10000 ≤ c.vrestart ∧ c.vrestart ≤ 14000) ∧
      (5000 ≤ c.sourcePresent ∧ c.sourcePresent ≤ 40000) ∧ (-400 ≤ c.chargeMin ∧ c.chargeMin ≤ 600) ∧
      (-400 ≤ c.chargeMax ∧ c.chargeMax ≤ 600) ∧ c.minDwell ≤ 3600 ∧ (60 ≤ c.eventWake ∧ c.eventWake ≤ 3600) ∧
      c.minOff ≤ 600 ∧ c.urgentFloor ≤ 1000 ∧ c.routineFloor ≤ 1000 ∧ c.vcutoff < c.vcrit ∧ c.vcrit < c.vrestart ∧
      c.vempty < c.vfull ∧ c.chargeMin < c.chargeMax ∧ c.urgentFloor ≤ c.routineFloor ∧ c.standing.getLsbD 0 = true ∧
      c.standing.getLsbD 6 = false ∧ c.standing.getLsbD 7 = false
    let written := (s.taking p tag).onPw fun pw => { pw with
      cfg := c
      act := { pw.act with
        cap := c.cap, standing := c.standing, urgentFloor := c.urgentFloor, routineFloor := c.routineFloor }
      q := if c.cap = pw.cfg.cap then pw.q else c.startSoc * (c.cap * 36000) / 1000
      unverified := pw.unverified || decide (c.cap ≠ pw.cfg.cap) }
    let station (x : State) (l : Load) (n : Nat) : State :=
      setAsk l .station (if c.standing.getLsbD n then .standing else .absent) x
    (¬ok → exec (.setPower p tag args) s = .next (s.answered p tag .outOfRange [])) ∧
    (ok → s.pw.level = none → exec (.setPower p tag args) s = .next ((settle written).replied p tag [])) ∧
    (ok → s.pw.level ≠ none → exec (.setPower p tag args) s =
      .next ((settle (station (station (station (station (station (station written .sensor 0) .gnss 1) .recorder 2)
        .telemetry 3) .radio 4) .aux 5)).replied p tag []))))

/-! ### Heaters (chapter 10) -/

/-- A heater second tests the vault, then computes each duty from its temperature, setpoint, band and cap and writes it as
pending; a deferral limit that is reached releases the hold, and the output takes the level of its schedule (R32, R176,
R178, R179, R181, R182). -/
def Obligations.HeaterSecondsComputeDuties : Prop :=
  (∀ s : State, s.pace.held = false → s.ccu.heaters.hb.cmp.mode ≠ .off → s.ccu.heaters.ho.cmp.mode ≠ .off →
    (s.pace.heaterSeconds + 1) * 10000000 ≤ s.pace.cycles → (∀ h, (thermostatOf h s).cap ≤ 64) →
    let u := s.ht
    let hot := if u.tvFaulted then u.overTemp
      else if u.overTemp then !decide (s.pw.tv.value < u.limits.vaultHigh - 20) else decide (u.limits.vaultHigh < s.pw.tv.value)
    let enters := hot && !u.overTemp
    let raw (setpoint t : Int) (band : Nat) : Nat := (max 0 (min 64 (64 * (setpoint - t) / band))).toNat
    let duty (h : Heater) : Nat := match h with
      | .hb => if hot ∨ u.tbFaulted then 0
          else min (raw (if u.sourceHeating then min 400 (s.pw.act.chargeMin + 20) else u.units.hb.cfg.setpoint) s.pw.tb.value
            u.units.hb.cfg.band) u.units.hb.cap
      | .ho => if hot then 0 else min (raw u.units.ho.cfg.setpoint s.pw.tosc.value u.units.ho.cfg.band) u.units.ho.cap
    ∃ t, exec .heaterSecond s = .next t ∧ t.ht.overTemp = hot ∧ t.pace.heaterSeconds = s.pace.heaterSeconds + 1 ∧
      (∀ h, (thermostatOf h t).computed = duty h ∧ (pairedOf h t).pendingDuty = some (duty h) ∧
        (pairedOf h t).duty = (if enters then 0 else (pairedOf h s).duty) ∧
        (pairedOf h t).output = (if enters then false else (pairedOf h s).output) ∧
        (pairedOf h t).cmp = (pairedOf h s).cmp ∧ (thermostatOf h t).cap = (thermostatOf h s).cap ∧
        (thermostatOf h t).deferral = (thermostatOf h s).deferral ∧ (pairedOf h t).hold = (pairedOf h s).hold) ∧
      (enters = false → { t with ccu := s.ccu, ht := s.ht, pace := s.pace } = s)) ∧
  (∀ h since (s : State), s.pace.held = false → (thermostatOf h s).deferral = .deferring since →
    since + (thermostatOf h s).cfg.limit * 10000000 ≤ s.pace.cycles →
    exec (.deferralLimitExpiry h) s =
      .next (driveOutput h ((pairedOf h s).level s.tb.now) s.tb.now s.ht.quiet
        { s with
          ccu := { s.ccu with heaters := s.ccu.heaters.update h fun c => { c with hold := false } }
          ht := { s.ht with units := s.ht.units.update h fun x => { x with deferral := .released } } }))

/-- SET_HEATER clamps and writes a heater's setpoint, band and limit, and a limit already reached runs out at once;
SET_HEATER_LIMITS writes caps that do not rise as the level falls, forms the caps in force again and cuts where one
falls; GET_HEATER and GET_HEATER_LIMITS read them (R177, R181, R183 to R185). -/
def Obligations.HeaterCommands : Prop :=
  let codeOf (h : Heater) : Byte := match h with | .hb => 0 | .ho => 1
  (∀ p tag h (setpoint : Int) (band limit : Byte) (s : State), Admits p .configure s →
    -2 ^ 15 ≤ setpoint → setpoint < 2 ^ 15 →
    let args := [codeOf h] ++ beInt 2 setpoint ++ [band, limit]
    let cfg : HeaterCfg := { setpoint := max (-400) (min 400 setpoint), band := band.toNat, limit := limit.toNat }
    let ok := (5 ≤ band.toNat ∧ band.toNat ≤ 100) ∧ limit.toNat ≤ 120
    let x := (s.taking p tag).onHt fun u => { u with units := u.units.update h fun y => { y with cfg := cfg } }
    let late := match (thermostatOf h s).deferral with
      | .deferring since => since + limit.toNat * 10000000 ≤ s.pace.cycles
      | _ => False
    (¬ok → exec (.setHeater p tag args) s = .next (s.answered p tag .outOfRange [])) ∧
    (ok → ¬late → exec (.setHeater p tag args) s = .next (x.replied p tag (beInt 2 cfg.setpoint))) ∧
    (ok → late → exec (.setHeater p tag args) s =
      .next ((driveOutput h ((pairedOf h s).level s.tb.now) s.tb.now s.ht.quiet
        { x with
          ccu := { s.ccu with heaters := s.ccu.heaters.update h fun c => { c with hold := false } }
          ht := { x.ht with units := x.ht.units.update h fun y => { y with deferral := .released } } }).replied p tag
        (beInt 2 cfg.setpoint)))) ∧
  (∀ p tag (code b1 b2 b3 b4 : Byte) (s : State), Admits p .configure s → 1 < code.toNat →
    exec (.setHeater p tag [code, b1, b2, b3, b4]) s = .next (s.answered p tag .outOfRange [])) ∧
  (∀ p tag (c : HeaterLimits) (s : State), Admits p .configure s →
    (∀ h, (c.caps.get h).full < 2 ^ 8 ∧ (c.caps.get h).reduced < 2 ^ 8 ∧ (c.caps.get h).survival < 2 ^ 8 ∧
      (c.caps.get h).critical < 2 ^ 8 ∧ (c.caps.get h).dormant < 2 ^ 8) →
    c.sourceCap < 2 ^ 8 → -2 ^ 15 ≤ c.vaultHigh → c.vaultHigh < 2 ^ 15 →
    let caps (x : PerLevel Nat) : List Byte := be 1 x.full ++ be 1 x.reduced ++ be 1 x.survival ++ be 1 x.critical ++
      be 1 x.dormant
    let data (y : HeaterLimits) : List Byte := caps y.caps.hb ++ caps y.caps.ho ++ be 1 y.sourceCap ++ beInt 2 y.vaultHigh
    let ok := (∀ h, let x := c.caps.get h
        x.full ≤ 64 ∧ x.reduced ≤ x.full ∧ x.survival ≤ x.reduced ∧ x.critical ≤ x.survival ∧ x.dormant ≤ x.critical) ∧
      c.sourceCap ≤ 64 ∧ 100 ≤ c.vaultHigh ∧ c.vaultHigh ≤ 600
    (¬ok → exec (.setHeaterLimits p tag (data c)) s = .next (s.answered p tag .outOfRange [])) ∧
    (ok → ∃ x : State, exec (.setHeaterLimits p tag (data c)) s = .next (x.replied p tag []) ∧ x.ht.limits = c ∧
      ∀ h, let cap := match s.ht.level with
            | none => 0
            | some l => if h = .hb ∧ s.ht.sourceHeating = true then c.sourceCap else (c.caps.get h).get l
        (thermostatOf h x).cap = cap ∧
        (cap < (thermostatOf h s).cap →
          (thermostatOf h x).computed = min (thermostatOf h s).computed cap ∧
          (pairedOf h x).duty = min (pairedOf h s).duty cap ∧
          (pairedOf h x).pendingDuty = (pairedOf h s).pendingDuty.map (min · cap)) ∧
        ((thermostatOf h s).cap ≤ cap → pairedOf h x = pairedOf h s)) ∧
    (Admits p .read s → exec (.getHeaterLimits p tag []) s = .next (s.answered p tag .ok (data s.ht.limits)))) ∧
  (∀ p tag h (s : State), Admits p .read s →
    let u := thermostatOf h s
    let c := pairedOf h s
    exec (.getHeater p tag [codeOf h]) s =
      .next (s.answered p tag .ok
        ([codeOf h] ++ beInt 2 u.cfg.setpoint ++ be 1 u.cfg.band ++ be 1 u.cfg.limit ++ be 1 u.cap ++ be 1 u.computed ++
          be 1 c.duty ++ be 1 (match c.pendingDuty with | none => 255 | some d => d) ++ be 1 (if c.output then 1 else 0) ++
          be 1 (match u.deferral with | .none => 0 | .holding => 1 | .deferring _ => 2 | .released => 3) ++
          be 1 (match u.deferral with | .deferring since => min 255 ((s.pace.cycles - since) / 10000000) | _ => 0) ++
          flagsByte [s.ht.sourceHeating, s.ht.overTemp,
            match h with | .hb => s.pw.tb.faulted | .ho => s.pw.tosc.faulted, s.ht.quiet] ++
          be 4 u.edges ++ (match u.lastEdge with | none => zeros 8 | some t => timeBytes t)))) ∧
  (∀ p tag (code : Byte) (s : State), Admits p .read s → 1 < code.toNat →
    exec (.getHeater p tag [code]) s = .next (s.answered p tag .outOfRange []))

/-! ### What every step keeps -/

/-- The bounds hold after a reset. -/
def Obligations.ResetKeepsTheBounds : Prop :=
  FractionOk State.reset ∧ AccountOk State.reset ∧ AllRightsOk State.reset ∧ CapacityOk State.reset ∧
    LoadsAllowed State.reset ∧ HeaterOk State.reset ∧ StackOk State.reset

/-- Every step keeps F within ±(10^11 − 1) (R2).

Every step keeps the capacities: 8192 frames, 4 holds, 32 records, 4 replies, 12 slots and 16 bins (R65, R70, R102,
R130, R133, R53). -/
def Obligations.StepsKeepFractionAndCapacities : Prop :=
  (∀ s t : State, FractionOk s → step s = .next t → FractionOk t) ∧
  (∀ s t : State, CapacityOk s → step s = .next t → CapacityOk t)

/-- Every step keeps the charge account within 0 and Qmax and the state of charge within 0 and 1000 per mille (R157,
R158). -/
def Obligations.StepsKeepTheChargeAccount : Prop :=
  ∀ s t : State, AccountOk s → step s = .next t → AccountOk t

/-- From every state in which the preemption stack holds at most two entries of strictly increasing classes, none of them
ALARM, and names exactly the PREEMPTED slots, with the segment on air or in its window in a slot of that state, a step gives
such a state (R139, R140, R144). -/
def Obligations.StepsKeepTheStack : Prop :=
  ∀ s t, StackOk s → step s = .next t → StackOk t

/-- Every step leaves at most one port with DRAIN and some port with CONFIGURE, also in the stored image (R191, R193). -/
def Obligations.StepsKeepTheRights : Prop :=
  ∀ s t : State, AllRightsOk s → step s = .next t → AllRightsOk t

/-- After every step a load is ON only if the present level's allowance table permits it (R167). -/
def Obligations.LoadsAreOnOnlyWhenAllowed : Prop :=
  ∀ s t : State, LoadsAllowed s → step s = .next t → LoadsAllowed t

/-- Every step keeps each heater's active, pending and computed duty at or below the cap in force, which is the cap of
the present level or, for HB under source heating, the source-heating cap (R177, R178). -/
def Obligations.HeaterDutiesStayUnderTheirCaps : Prop :=
  ∀ s t : State, HeaterOk s → step s = .next t → HeaterOk t
end

