-- ==== Sys2Proof/Laws/Bytes.lean ====
section
/-! SUPPORT. Laws of big-endian fields and of the saturating count: a field that was written reads back, and a field that is
followed by others is found at its offset. -/

namespace Sys2Proof.Machine

@[simp] theorem be_length (n v : Nat) : (be n v).length = n := by
  induction n with
  | zero => rfl
  | succ n ih => simp [be, ih]

@[simp] theorem beInt_length (n : Nat) (v : Int) : (beInt n v).length = n := be_length _ _

@[simp] theorem zeros_length (n : Nat) : (zeros n).length = n := List.length_replicate

theorem natOf_foldl (bs : List Byte) (acc : Nat) :
    bs.foldl (fun a b => a * 256 + b.toNat) acc = acc * 256 ^ bs.length + natOf bs := by
  induction bs generalizing acc with
  | nil => simp [natOf]
  | cons b bs ih =>
    have h : natOf (b :: bs) = (0 * 256 + b.toNat) * 256 ^ bs.length + natOf bs := ih _
    rw [List.foldl_cons, ih, h, List.length_cons, Nat.pow_succ]
    ring

theorem natOf_cons (b : Byte) (bs : List Byte) : natOf (b :: bs) = b.toNat * 256 ^ bs.length + natOf bs := by
  rw [natOf, List.foldl_cons, natOf_foldl, Nat.zero_mul, Nat.zero_add]

/-- A number written in `n` bytes reads back modulo 256^n. -/
theorem natOf_be (n v : Nat) : natOf (be n v) = v % 256 ^ n := by
  induction n with
  | zero => simp [be, natOf, Nat.mod_one]
  | succ n ih =>
    rw [be, natOf_cons, ih, be_length, BitVec.toNat_ofNat, show 2 ^ 8 = 256 from rfl, Nat.pow_succ, Nat.mod_mul,
      Nat.mul_comm, Nat.add_comm]

theorem natOf_be_of_lt {n v : Nat} (h : v < 256 ^ n) : natOf (be n v) = v := by rw [natOf_be, Nat.mod_eq_of_lt h]

/-- The first field of a request. -/
theorem fieldAt_head {bs rest : List Byte} {len : Nat} (h : bs.length = len) : fieldAt (bs ++ rest) 0 len = bs := by
  simp [fieldAt, ← h]

/-- A field after the first. -/
theorem fieldAt_tail {bs rest : List Byte} {off len : Nat} (h : bs.length ≤ off) :
    fieldAt (bs ++ rest) off len = fieldAt rest (off - bs.length) len := by
  simp [fieldAt, List.drop_append, List.drop_eq_nil_of_le h]

/-- The saturating count is the smaller of its top and the next number. -/
theorem satInc_eq (top n : Nat) : satInc top n = min top (n + 1) := by
  unfold satInc; split <;> omega

end Sys2Proof.Machine
end

