-- ==== Sys2Proof/Laws/Decode.lean ====
section
/-! SUPPORT. What the transaction decoder answers: a request's command in its cases, and that the catalogue's rows and the
codes that UNKNOWN_COMMAND tests are the same. -/

namespace Sys2Proof

theorem catalogue_codes : catalogue.map (fun row => row.code) = catalogueCodes := rfl

/-- A code has a row in the catalogue where UNKNOWN_COMMAND does not take it. -/
theorem catalogueRow_isSome (code : Byte) : (catalogueRow code).isSome = catalogueCodes.contains code.toNat := by
  rw [Bool.eq_iff_iff, catalogueRow, List.find?_isSome, ← catalogue_codes]
  simp

/-- The row of a code carries that code and stands in the catalogue. -/
theorem catalogueRow_some {code : Byte} {row : CatalogueRow} (h : catalogueRow code = some row) :
    row ∈ catalogue ∧ row.code = code.toNat :=
  ⟨List.mem_of_find?_eq_some h, by simpa using List.find?_some h⟩

theorem requestCommand_known {p : Port} {bytes : List Byte} {row : CatalogueRow}
    (h : catalogueRow (bytes.getD 0 0) = some row) :
    requestCommand p bytes = row.command p (bytes.getD 1 0) (Machine.fieldAt bytes 3 (Machine.natAt bytes 2 1)) := by
  simp only [requestCommand, h]

theorem requestCommand_unknown {p : Port} {bytes : List Byte} (h : catalogueRow (bytes.getD 0 0) = none) :
    requestCommand p bytes = .unknownCommand p (bytes.getD 0 0) (bytes.getD 1 0)
      (Machine.fieldAt bytes 3 (Machine.natAt bytes 2 1)) := by
  simp only [requestCommand, h]

@[simp] theorem writeCommand_bad {p : Port} {bytes : List Byte} (h : (Machine.badLength bytes || Machine.badCheck bytes) = true) :
    writeCommand p bytes = .requestBadLengthOrCheck p bytes := if_pos h

end Sys2Proof
end

