-- ==== Sys2Proof/Laws/Detector.lean ====
section
/-! SUPPORT. What the Detector's and the Discipline Unit's shared operations can do. -/

namespace Sys2Proof.Machine

/-- Putting a channel into a list by its trigger frame adds that channel and no other. -/
theorem insertByTrigger_perm (distance : Nat → Nat) (ch : Nat) (l : List Nat) :
    (insertByTrigger distance ch l).Perm (ch :: l) := by
  induction l with
  | nil => rfl
  | cons q rest ih =>
    simp only [insertByTrigger]
    split
    · rfl
    · exact (ih.cons q).trans (.swap ch q rest)

/-- It keeps the list in the order of the trigger frames. -/
theorem insertByTrigger_sorted {distance : Nat → Nat} {l : List Nat} (ch : Nat)
    (h : l.Pairwise fun a b => distance a ≤ distance b) :
    (insertByTrigger distance ch l).Pairwise fun a b => distance a ≤ distance b := by
  induction l with
  | nil => simp [insertByTrigger]
  | cons q rest ih =>
    obtain ⟨low, sorted⟩ := List.pairwise_cons.1 h
    simp only [insertByTrigger]
    split
    · refine List.pairwise_cons.2 ⟨fun a m => ?_, h⟩
      rcases List.mem_cons.1 m with rfl | m
      · omega
      · have := low a m; omega
    · refine List.pairwise_cons.2 ⟨fun a m => ?_, ih sorted⟩
      rcases List.mem_cons.1 ((insertByTrigger_perm distance ch rest).mem_iff.1 m) with rfl | m
      · omega
      · exact low a m

/-- The channels put in the order of their trigger frames are the channels given. -/
theorem byTriggerFrame_perm (d : Detector) (onset : Nat) (chs : List Nat) : (byTriggerFrame d onset chs).Perm chs := by
  have go : ∀ acc, (chs.foldl (fun acc ch => insertByTrigger (fun c => seqDiff (triggerOf d c).2 onset) ch acc) acc).Perm
      (acc ++ chs) := by
    induction chs with
    | nil => intro acc; simp
    | cons c rest ih =>
      intro acc
      exact (ih _).trans (((insertByTrigger_perm _ c acc).append_right rest).trans List.perm_middle.symm)
  simpa [byTriggerFrame] using go []

/-- A new uncertainty rises above the refresh limit in force, from a value at or below it (R57, R60). -/
theorem risesAbove_iff (u : Nat) (s : State) : risesAbove u s = true ↔
    s.disc.cfg.refreshLimit < u ∧ (s.disc.takenLow = true ∨ s.tb.uncertainty ≤ s.disc.cfg.refreshLimit) := by
  simp [risesAbove]

end Sys2Proof.Machine
end

