-- ==== Sys2Proof/Laws/State.lean ====
section
/-! SUPPORT. One lemma per block and per change of a block: no later proof unfolds a record update. -/

namespace Sys2Proof.Machine

/-! ### `State.onPace` -/

@[simp] theorem State.onPace_pending (s : State) (f) : (s.onPace f).pending = s.pending := rfl
@[simp] theorem State.onPace_pace (s : State) (f) : (s.onPace f).pace = f s.pace := rfl
@[simp] theorem State.onPace_tb (s : State) (f) : (s.onPace f).tb = s.tb := rfl
@[simp] theorem State.onPace_ccu (s : State) (f) : (s.onPace f).ccu = s.ccu := rfl
@[simp] theorem State.onPace_disc (s : State) (f) : (s.onPace f).disc = s.disc := rfl
@[simp] theorem State.onPace_acq (s : State) (f) : (s.onPace f).acq = s.acq := rfl
@[simp] theorem State.onPace_det (s : State) (f) : (s.onPace f).det = s.det := rfl
@[simp] theorem State.onPace_ev (s : State) (f) : (s.onPace f).ev = s.ev := rfl
@[simp] theorem State.onPace_link (s : State) (f) : (s.onPace f).link = s.link := rfl
@[simp] theorem State.onPace_nt (s : State) (f) : (s.onPace f).nt = s.nt := rfl
@[simp] theorem State.onPace_pw (s : State) (f) : (s.onPace f).pw = s.pw := rfl
@[simp] theorem State.onPace_ht (s : State) (f) : (s.onPace f).ht = s.ht := rfl
@[simp] theorem State.onPace_ports (s : State) (f) : (s.onPace f).ports = s.ports := rfl
@[simp] theorem State.onPace_store (s : State) (f) : (s.onPace f).store = s.store := rfl

/-! ### `State.onTb` -/

@[simp] theorem State.onTb_pending (s : State) (f) : (s.onTb f).pending = s.pending := rfl
@[simp] theorem State.onTb_pace (s : State) (f) : (s.onTb f).pace = s.pace := rfl
@[simp] theorem State.onTb_tb (s : State) (f) : (s.onTb f).tb = f s.tb := rfl
@[simp] theorem State.onTb_ccu (s : State) (f) : (s.onTb f).ccu = s.ccu := rfl
@[simp] theorem State.onTb_disc (s : State) (f) : (s.onTb f).disc = s.disc := rfl
@[simp] theorem State.onTb_acq (s : State) (f) : (s.onTb f).acq = s.acq := rfl
@[simp] theorem State.onTb_det (s : State) (f) : (s.onTb f).det = s.det := rfl
@[simp] theorem State.onTb_ev (s : State) (f) : (s.onTb f).ev = s.ev := rfl
@[simp] theorem State.onTb_link (s : State) (f) : (s.onTb f).link = s.link := rfl
@[simp] theorem State.onTb_nt (s : State) (f) : (s.onTb f).nt = s.nt := rfl
@[simp] theorem State.onTb_pw (s : State) (f) : (s.onTb f).pw = s.pw := rfl
@[simp] theorem State.onTb_ht (s : State) (f) : (s.onTb f).ht = s.ht := rfl
@[simp] theorem State.onTb_ports (s : State) (f) : (s.onTb f).ports = s.ports := rfl
@[simp] theorem State.onTb_store (s : State) (f) : (s.onTb f).store = s.store := rfl

/-! ### `State.onCcu` -/

@[simp] theorem State.onCcu_pending (s : State) (f) : (s.onCcu f).pending = s.pending := rfl
@[simp] theorem State.onCcu_pace (s : State) (f) : (s.onCcu f).pace = s.pace := rfl
@[simp] theorem State.onCcu_tb (s : State) (f) : (s.onCcu f).tb = s.tb := rfl
@[simp] theorem State.onCcu_ccu (s : State) (f) : (s.onCcu f).ccu = f s.ccu := rfl
@[simp] theorem State.onCcu_disc (s : State) (f) : (s.onCcu f).disc = s.disc := rfl
@[simp] theorem State.onCcu_acq (s : State) (f) : (s.onCcu f).acq = s.acq := rfl
@[simp] theorem State.onCcu_det (s : State) (f) : (s.onCcu f).det = s.det := rfl
@[simp] theorem State.onCcu_ev (s : State) (f) : (s.onCcu f).ev = s.ev := rfl
@[simp] theorem State.onCcu_link (s : State) (f) : (s.onCcu f).link = s.link := rfl
@[simp] theorem State.onCcu_nt (s : State) (f) : (s.onCcu f).nt = s.nt := rfl
@[simp] theorem State.onCcu_pw (s : State) (f) : (s.onCcu f).pw = s.pw := rfl
@[simp] theorem State.onCcu_ht (s : State) (f) : (s.onCcu f).ht = s.ht := rfl
@[simp] theorem State.onCcu_ports (s : State) (f) : (s.onCcu f).ports = s.ports := rfl
@[simp] theorem State.onCcu_store (s : State) (f) : (s.onCcu f).store = s.store := rfl

/-! ### `State.onDisc` -/

@[simp] theorem State.onDisc_pending (s : State) (f) : (s.onDisc f).pending = s.pending := rfl
@[simp] theorem State.onDisc_pace (s : State) (f) : (s.onDisc f).pace = s.pace := rfl
@[simp] theorem State.onDisc_tb (s : State) (f) : (s.onDisc f).tb = s.tb := rfl
@[simp] theorem State.onDisc_ccu (s : State) (f) : (s.onDisc f).ccu = s.ccu := rfl
@[simp] theorem State.onDisc_disc (s : State) (f) : (s.onDisc f).disc = f s.disc := rfl
@[simp] theorem State.onDisc_acq (s : State) (f) : (s.onDisc f).acq = s.acq := rfl
@[simp] theorem State.onDisc_det (s : State) (f) : (s.onDisc f).det = s.det := rfl
@[simp] theorem State.onDisc_ev (s : State) (f) : (s.onDisc f).ev = s.ev := rfl
@[simp] theorem State.onDisc_link (s : State) (f) : (s.onDisc f).link = s.link := rfl
@[simp] theorem State.onDisc_nt (s : State) (f) : (s.onDisc f).nt = s.nt := rfl
@[simp] theorem State.onDisc_pw (s : State) (f) : (s.onDisc f).pw = s.pw := rfl
@[simp] theorem State.onDisc_ht (s : State) (f) : (s.onDisc f).ht = s.ht := rfl
@[simp] theorem State.onDisc_ports (s : State) (f) : (s.onDisc f).ports = s.ports := rfl
@[simp] theorem State.onDisc_store (s : State) (f) : (s.onDisc f).store = s.store := rfl

/-! ### `State.onAcq` -/

@[simp] theorem State.onAcq_pending (s : State) (f) : (s.onAcq f).pending = s.pending := rfl
@[simp] theorem State.onAcq_pace (s : State) (f) : (s.onAcq f).pace = s.pace := rfl
@[simp] theorem State.onAcq_tb (s : State) (f) : (s.onAcq f).tb = s.tb := rfl
@[simp] theorem State.onAcq_ccu (s : State) (f) : (s.onAcq f).ccu = s.ccu := rfl
@[simp] theorem State.onAcq_disc (s : State) (f) : (s.onAcq f).disc = s.disc := rfl
@[simp] theorem State.onAcq_acq (s : State) (f) : (s.onAcq f).acq = f s.acq := rfl
@[simp] theorem State.onAcq_det (s : State) (f) : (s.onAcq f).det = s.det := rfl
@[simp] theorem State.onAcq_ev (s : State) (f) : (s.onAcq f).ev = s.ev := rfl
@[simp] theorem State.onAcq_link (s : State) (f) : (s.onAcq f).link = s.link := rfl
@[simp] theorem State.onAcq_nt (s : State) (f) : (s.onAcq f).nt = s.nt := rfl
@[simp] theorem State.onAcq_pw (s : State) (f) : (s.onAcq f).pw = s.pw := rfl
@[simp] theorem State.onAcq_ht (s : State) (f) : (s.onAcq f).ht = s.ht := rfl
@[simp] theorem State.onAcq_ports (s : State) (f) : (s.onAcq f).ports = s.ports := rfl
@[simp] theorem State.onAcq_store (s : State) (f) : (s.onAcq f).store = s.store := rfl

/-! ### `State.onDet` -/

@[simp] theorem State.onDet_pending (s : State) (f) : (s.onDet f).pending = s.pending := rfl
@[simp] theorem State.onDet_pace (s : State) (f) : (s.onDet f).pace = s.pace := rfl
@[simp] theorem State.onDet_tb (s : State) (f) : (s.onDet f).tb = s.tb := rfl
@[simp] theorem State.onDet_ccu (s : State) (f) : (s.onDet f).ccu = s.ccu := rfl
@[simp] theorem State.onDet_disc (s : State) (f) : (s.onDet f).disc = s.disc := rfl
@[simp] theorem State.onDet_acq (s : State) (f) : (s.onDet f).acq = s.acq := rfl
@[simp] theorem State.onDet_det (s : State) (f) : (s.onDet f).det = f s.det := rfl
@[simp] theorem State.onDet_ev (s : State) (f) : (s.onDet f).ev = s.ev := rfl
@[simp] theorem State.onDet_link (s : State) (f) : (s.onDet f).link = s.link := rfl
@[simp] theorem State.onDet_nt (s : State) (f) : (s.onDet f).nt = s.nt := rfl
@[simp] theorem State.onDet_pw (s : State) (f) : (s.onDet f).pw = s.pw := rfl
@[simp] theorem State.onDet_ht (s : State) (f) : (s.onDet f).ht = s.ht := rfl
@[simp] theorem State.onDet_ports (s : State) (f) : (s.onDet f).ports = s.ports := rfl
@[simp] theorem State.onDet_store (s : State) (f) : (s.onDet f).store = s.store := rfl

/-! ### `State.onEv` -/

@[simp] theorem State.onEv_pending (s : State) (f) : (s.onEv f).pending = s.pending := rfl
@[simp] theorem State.onEv_pace (s : State) (f) : (s.onEv f).pace = s.pace := rfl
@[simp] theorem State.onEv_tb (s : State) (f) : (s.onEv f).tb = s.tb := rfl
@[simp] theorem State.onEv_ccu (s : State) (f) : (s.onEv f).ccu = s.ccu := rfl
@[simp] theorem State.onEv_disc (s : State) (f) : (s.onEv f).disc = s.disc := rfl
@[simp] theorem State.onEv_acq (s : State) (f) : (s.onEv f).acq = s.acq := rfl
@[simp] theorem State.onEv_det (s : State) (f) : (s.onEv f).det = s.det := rfl
@[simp] theorem State.onEv_ev (s : State) (f) : (s.onEv f).ev = f s.ev := rfl
@[simp] theorem State.onEv_link (s : State) (f) : (s.onEv f).link = s.link := rfl
@[simp] theorem State.onEv_nt (s : State) (f) : (s.onEv f).nt = s.nt := rfl
@[simp] theorem State.onEv_pw (s : State) (f) : (s.onEv f).pw = s.pw := rfl
@[simp] theorem State.onEv_ht (s : State) (f) : (s.onEv f).ht = s.ht := rfl
@[simp] theorem State.onEv_ports (s : State) (f) : (s.onEv f).ports = s.ports := rfl
@[simp] theorem State.onEv_store (s : State) (f) : (s.onEv f).store = s.store := rfl

/-! ### `State.onLink` -/

@[simp] theorem State.onLink_pending (s : State) (f) : (s.onLink f).pending = s.pending := rfl
@[simp] theorem State.onLink_pace (s : State) (f) : (s.onLink f).pace = s.pace := rfl
@[simp] theorem State.onLink_tb (s : State) (f) : (s.onLink f).tb = s.tb := rfl
@[simp] theorem State.onLink_ccu (s : State) (f) : (s.onLink f).ccu = s.ccu := rfl
@[simp] theorem State.onLink_disc (s : State) (f) : (s.onLink f).disc = s.disc := rfl
@[simp] theorem State.onLink_acq (s : State) (f) : (s.onLink f).acq = s.acq := rfl
@[simp] theorem State.onLink_det (s : State) (f) : (s.onLink f).det = s.det := rfl
@[simp] theorem State.onLink_ev (s : State) (f) : (s.onLink f).ev = s.ev := rfl
@[simp] theorem State.onLink_link (s : State) (f) : (s.onLink f).link = f s.link := rfl
@[simp] theorem State.onLink_nt (s : State) (f) : (s.onLink f).nt = s.nt := rfl
@[simp] theorem State.onLink_pw (s : State) (f) : (s.onLink f).pw = s.pw := rfl
@[simp] theorem State.onLink_ht (s : State) (f) : (s.onLink f).ht = s.ht := rfl
@[simp] theorem State.onLink_ports (s : State) (f) : (s.onLink f).ports = s.ports := rfl
@[simp] theorem State.onLink_store (s : State) (f) : (s.onLink f).store = s.store := rfl

/-! ### `State.onNt` -/

@[simp] theorem State.onNt_pending (s : State) (f) : (s.onNt f).pending = s.pending := rfl
@[simp] theorem State.onNt_pace (s : State) (f) : (s.onNt f).pace = s.pace := rfl
@[simp] theorem State.onNt_tb (s : State) (f) : (s.onNt f).tb = s.tb := rfl
@[simp] theorem State.onNt_ccu (s : State) (f) : (s.onNt f).ccu = s.ccu := rfl
@[simp] theorem State.onNt_disc (s : State) (f) : (s.onNt f).disc = s.disc := rfl
@[simp] theorem State.onNt_acq (s : State) (f) : (s.onNt f).acq = s.acq := rfl
@[simp] theorem State.onNt_det (s : State) (f) : (s.onNt f).det = s.det := rfl
@[simp] theorem State.onNt_ev (s : State) (f) : (s.onNt f).ev = s.ev := rfl
@[simp] theorem State.onNt_link (s : State) (f) : (s.onNt f).link = s.link := rfl
@[simp] theorem State.onNt_nt (s : State) (f) : (s.onNt f).nt = f s.nt := rfl
@[simp] theorem State.onNt_pw (s : State) (f) : (s.onNt f).pw = s.pw := rfl
@[simp] theorem State.onNt_ht (s : State) (f) : (s.onNt f).ht = s.ht := rfl
@[simp] theorem State.onNt_ports (s : State) (f) : (s.onNt f).ports = s.ports := rfl
@[simp] theorem State.onNt_store (s : State) (f) : (s.onNt f).store = s.store := rfl

/-! ### `State.onPw` -/

@[simp] theorem State.onPw_pending (s : State) (f) : (s.onPw f).pending = s.pending := rfl
@[simp] theorem State.onPw_pace (s : State) (f) : (s.onPw f).pace = s.pace := rfl
@[simp] theorem State.onPw_tb (s : State) (f) : (s.onPw f).tb = s.tb := rfl
@[simp] theorem State.onPw_ccu (s : State) (f) : (s.onPw f).ccu = s.ccu := rfl
@[simp] theorem State.onPw_disc (s : State) (f) : (s.onPw f).disc = s.disc := rfl
@[simp] theorem State.onPw_acq (s : State) (f) : (s.onPw f).acq = s.acq := rfl
@[simp] theorem State.onPw_det (s : State) (f) : (s.onPw f).det = s.det := rfl
@[simp] theorem State.onPw_ev (s : State) (f) : (s.onPw f).ev = s.ev := rfl
@[simp] theorem State.onPw_link (s : State) (f) : (s.onPw f).link = s.link := rfl
@[simp] theorem State.onPw_nt (s : State) (f) : (s.onPw f).nt = s.nt := rfl
@[simp] theorem State.onPw_pw (s : State) (f) : (s.onPw f).pw = f s.pw := rfl
@[simp] theorem State.onPw_ht (s : State) (f) : (s.onPw f).ht = s.ht := rfl
@[simp] theorem State.onPw_ports (s : State) (f) : (s.onPw f).ports = s.ports := rfl
@[simp] theorem State.onPw_store (s : State) (f) : (s.onPw f).store = s.store := rfl

/-! ### `State.onHt` -/

@[simp] theorem State.onHt_pending (s : State) (f) : (s.onHt f).pending = s.pending := rfl
@[simp] theorem State.onHt_pace (s : State) (f) : (s.onHt f).pace = s.pace := rfl
@[simp] theorem State.onHt_tb (s : State) (f) : (s.onHt f).tb = s.tb := rfl
@[simp] theorem State.onHt_ccu (s : State) (f) : (s.onHt f).ccu = s.ccu := rfl
@[simp] theorem State.onHt_disc (s : State) (f) : (s.onHt f).disc = s.disc := rfl
@[simp] theorem State.onHt_acq (s : State) (f) : (s.onHt f).acq = s.acq := rfl
@[simp] theorem State.onHt_det (s : State) (f) : (s.onHt f).det = s.det := rfl
@[simp] theorem State.onHt_ev (s : State) (f) : (s.onHt f).ev = s.ev := rfl
@[simp] theorem State.onHt_link (s : State) (f) : (s.onHt f).link = s.link := rfl
@[simp] theorem State.onHt_nt (s : State) (f) : (s.onHt f).nt = s.nt := rfl
@[simp] theorem State.onHt_pw (s : State) (f) : (s.onHt f).pw = s.pw := rfl
@[simp] theorem State.onHt_ht (s : State) (f) : (s.onHt f).ht = f s.ht := rfl
@[simp] theorem State.onHt_ports (s : State) (f) : (s.onHt f).ports = s.ports := rfl
@[simp] theorem State.onHt_store (s : State) (f) : (s.onHt f).store = s.store := rfl

/-! ### `State.onPorts` -/

@[simp] theorem State.onPorts_pending (s : State) (f) : (s.onPorts f).pending = s.pending := rfl
@[simp] theorem State.onPorts_pace (s : State) (f) : (s.onPorts f).pace = s.pace := rfl
@[simp] theorem State.onPorts_tb (s : State) (f) : (s.onPorts f).tb = s.tb := rfl
@[simp] theorem State.onPorts_ccu (s : State) (f) : (s.onPorts f).ccu = s.ccu := rfl
@[simp] theorem State.onPorts_disc (s : State) (f) : (s.onPorts f).disc = s.disc := rfl
@[simp] theorem State.onPorts_acq (s : State) (f) : (s.onPorts f).acq = s.acq := rfl
@[simp] theorem State.onPorts_det (s : State) (f) : (s.onPorts f).det = s.det := rfl
@[simp] theorem State.onPorts_ev (s : State) (f) : (s.onPorts f).ev = s.ev := rfl
@[simp] theorem State.onPorts_link (s : State) (f) : (s.onPorts f).link = s.link := rfl
@[simp] theorem State.onPorts_nt (s : State) (f) : (s.onPorts f).nt = s.nt := rfl
@[simp] theorem State.onPorts_pw (s : State) (f) : (s.onPorts f).pw = s.pw := rfl
@[simp] theorem State.onPorts_ht (s : State) (f) : (s.onPorts f).ht = s.ht := rfl
@[simp] theorem State.onPorts_ports (s : State) (f) : (s.onPorts f).ports = f s.ports := rfl
@[simp] theorem State.onPorts_store (s : State) (f) : (s.onPorts f).store = s.store := rfl

/-! ### `State.onStore` -/

@[simp] theorem State.onStore_pending (s : State) (f) : (s.onStore f).pending = s.pending := rfl
@[simp] theorem State.onStore_pace (s : State) (f) : (s.onStore f).pace = s.pace := rfl
@[simp] theorem State.onStore_tb (s : State) (f) : (s.onStore f).tb = s.tb := rfl
@[simp] theorem State.onStore_ccu (s : State) (f) : (s.onStore f).ccu = s.ccu := rfl
@[simp] theorem State.onStore_disc (s : State) (f) : (s.onStore f).disc = s.disc := rfl
@[simp] theorem State.onStore_acq (s : State) (f) : (s.onStore f).acq = s.acq := rfl
@[simp] theorem State.onStore_det (s : State) (f) : (s.onStore f).det = s.det := rfl
@[simp] theorem State.onStore_ev (s : State) (f) : (s.onStore f).ev = s.ev := rfl
@[simp] theorem State.onStore_link (s : State) (f) : (s.onStore f).link = s.link := rfl
@[simp] theorem State.onStore_nt (s : State) (f) : (s.onStore f).nt = s.nt := rfl
@[simp] theorem State.onStore_pw (s : State) (f) : (s.onStore f).pw = s.pw := rfl
@[simp] theorem State.onStore_ht (s : State) (f) : (s.onStore f).ht = s.ht := rfl
@[simp] theorem State.onStore_ports (s : State) (f) : (s.onStore f).ports = s.ports := rfl
@[simp] theorem State.onStore_store (s : State) (f) : (s.onStore f).store = f s.store := rfl

end Sys2Proof.Machine
end

