-- ==== Sys2Proof/Laws/Kept.lean ====
section
/-! SUPPORT. What the shared operations leave alone: `State.kept` is unchanged by every operation that forming the state again at
the end of a step can reach, and so by `settle`; the replies of the ports are unchanged too, but for a port reset. -/

namespace Sys2Proof.Machine

/-! ### The part that only a reset of a port can still change -/

/-- A port record without its notification set. -/
def PortRec.fixed (r : PortRec) : PortRec := { r with notices := 0 }

/-- `State.kept`, with the transactions and replies of the ports. -/
def State.fixed (s : State) : State := { s.kept with ports := s.ports.map PortRec.fixed }

/-- What leaves `fixed` alone leaves `kept` alone. -/
theorem kept_of_fixed {s t : State} (h : t.fixed = s.fixed) : t.kept = s.kept := by
  have e (x : State) : x.kept = { x.fixed with ports := x.fixed.ports.map PortRec.kept } := rfl
  rw [e t, e s, h]

/-- What leaves `fixed` alone leaves the replies alone. -/
theorem reply_of_fixed {s t : State} (h : t.fixed = s.fixed) (p : Port) :
    (t.ports.get p).reply = (s.ports.get p).reply := by
  have e (x : State) : (x.ports.get p).reply = (x.fixed.ports.get p).reply := by cases p <;> rfl
  rw [e t, e s, h]

/-! ### A change of one block that its kept part does not see -/

theorem State.onTb_fixed {s : State} {f : Timebase → Timebase} (h : (f s.tb).kept = s.tb.kept) :
    (s.onTb f).fixed = s.fixed := by simp [State.fixed, State.kept, h]
theorem State.onCcu_fixed {s : State} {f : Ccu → Ccu} (h : (f s.ccu).kept = s.ccu.kept) :
    (s.onCcu f).fixed = s.fixed := by simp [State.fixed, State.kept, h]
theorem State.onDisc_fixed {s : State} {f : Discipline → Discipline} (h : (f s.disc).kept = s.disc.kept) :
    (s.onDisc f).fixed = s.fixed := by simp [State.fixed, State.kept, h]
theorem State.onAcq_fixed {s : State} {f : Acquisition → Acquisition} (h : (f s.acq).kept = s.acq.kept) :
    (s.onAcq f).fixed = s.fixed := by simp [State.fixed, State.kept, h]
theorem State.onDet_fixed {s : State} {f : Detector → Detector} (h : (f s.det).kept = s.det.kept) :
    (s.onDet f).fixed = s.fixed := by simp [State.fixed, State.kept, h]
theorem State.onEv_fixed {s : State} {f : EventTable → EventTable} (h : (f s.ev).kept = s.ev.kept) :
    (s.onEv f).fixed = s.fixed := by simp [State.fixed, State.kept, h]
theorem State.onLink_fixed {s : State} {f : Link → Link} (h : (f s.link).kept = s.link.kept) :
    (s.onLink f).fixed = s.fixed := by simp [State.fixed, State.kept, h]
theorem State.onNt_fixed {s : State} {f : NoticeTable → NoticeTable} (h : (f s.nt).kept = s.nt.kept) :
    (s.onNt f).fixed = s.fixed := by simp [State.fixed, State.kept, h]
theorem State.onPw_fixed {s : State} {f : Power → Power} (h : (f s.pw).kept = s.pw.kept) :
    (s.onPw f).fixed = s.fixed := by simp [State.fixed, State.kept, h]
theorem State.onHt_fixed {s : State} {f : HeaterUnit → HeaterUnit} (h : (f s.ht).kept = s.ht.kept) :
    (s.onHt f).fixed = s.fixed := by simp [State.fixed, State.kept, h]
theorem State.onStore_fixed {s : State} {f : Store → Store} (h : (f s.store).kept = s.store.kept) :
    (s.onStore f).fixed = s.fixed := by simp [State.fixed, State.kept, h]
theorem State.onPorts_fixed {s : State} {f : PerPort PortRec → PerPort PortRec}
    (h : (f s.ports).map PortRec.fixed = s.ports.map PortRec.fixed) : (s.onPorts f).fixed = s.fixed := by
  simp [State.fixed, State.kept, h]
theorem State.onPace_fixed {s : State} {f : Pace → Pace}
    (h : { f s.pace with heaterSeconds := 0 } = { s.pace with heaterSeconds := 0 }) : (s.onPace f).fixed = s.fixed := by
  simp only [State.fixed, State.kept, State.onPace, h]

theorem State.onPort_fixed {s : State} {p : Port} {f : PortRec → PortRec} (h : ∀ r, (f r).fixed = r.fixed) :
    (s.onPort p f).fixed = s.fixed := by
  apply State.onPorts_fixed
  cases p <;> simp [PerPort.update, PerPort.map, h]

theorem State.onLoad_fixed (s : State) (l : Load) (f : LoadRec → LoadRec) : (s.onLoad l f).fixed = s.fixed :=
  State.onPw_fixed rfl

/-- A fold of operations that leave the kept part alone. -/
theorem foldl_fixed {α : Type} (f : State → α → State) (h : ∀ s a, (f s a).fixed = s.fixed) (l : List α) (s : State) :
    (l.foldl f s).fixed = s.fixed := by
  induction l generalizing s with
  | nil => rfl
  | cons a l ih => rw [List.foldl_cons, ih, h]

/-! ### Notifications, requests and the event table -/

@[simp] theorem notify_fixed (p : Port) (k : Kind) (s : State) : (notify p k s).fixed = s.fixed :=
  State.onPort_fixed fun _ => rfl
@[simp] theorem notifyAll_fixed (k : Kind) (s : State) : (notifyAll k s).fixed = s.fixed := State.onPorts_fixed rfl
@[simp] theorem setAsk_fixed (l : Load) (r : Requester) (v : Ask) (s : State) : (setAsk l r v s).fixed = s.fixed :=
  State.onLoad_fixed ..
@[simp] theorem updateOpen_fixed (f : Record → Record) (s : State) : (updateOpen f s).fixed = s.fixed := State.onEv_fixed rfl
@[simp] theorem updateRecord_fixed (n : Nat) (f : Record → Record) (s : State) : (updateRecord n f s).fixed = s.fixed :=
  State.onEv_fixed rfl
@[simp] theorem flagHeaterSwitched_fixed (s : State) : (flagHeaterSwitched s).fixed = s.fixed := updateOpen_fixed ..
@[simp] theorem flagLevelChanged_fixed (s : State) : (flagLevelChanged s).fixed = s.fixed := updateOpen_fixed ..
@[simp] theorem flagRingLost_fixed (n : Nat) (s : State) : (flagRingLost n s).fixed = s.fixed := updateRecord_fixed ..
@[simp] theorem writeOutcome_fixed (n : Nat) (k : NoticeKind) (o : AlertOutcome) (s : State) :
    (writeOutcome n k o s).fixed = s.fixed := updateRecord_fixed ..
@[simp] theorem pinRecord_fixed (n : Nat) (s : State) : (pinRecord n s).fixed = s.fixed := updateRecord_fixed ..
@[simp] theorem unpinRecord_fixed (n : Nat) (s : State) : (unpinRecord n s).fixed = s.fixed := updateRecord_fixed ..
@[simp] theorem closeRecord_fixed (n : Nat) (t : Time) (s : State) : (closeRecord n t s).fixed = s.fixed := by
  rw [closeRecord, notifyAll_fixed]; exact State.onEv_fixed rfl

/-! ### Notice slots -/

@[simp] theorem onSlot_fixed (n : Nat) (f : Slot → Slot) (s : State) : (onSlot n f s).fixed = s.fixed := State.onNt_fixed rfl

@[simp] theorem alarmWaiting_fixed (s : State) : (alarmWaiting s).fixed = s.fixed := by
  unfold alarmWaiting; split
  · exact State.onLink_fixed rfl
  · rfl

@[simp] theorem waitAgain_fixed (n : Nat) (s : State) : (waitAgain n s).fixed = s.fixed := by
  unfold waitAgain; split <;> simp

@[simp] theorem waitWithTag_fixed (n : Nat) (s : State) : (waitWithTag n s).fixed = s.fixed := by
  simp only [waitWithTag, waitAgain_fixed, onSlot_fixed]; exact State.onNt_fixed rfl

@[simp] theorem dropEntry_fixed (i : Nat) (s : State) : (dropEntry i s).fixed = s.fixed := State.onNt_fixed rfl
@[simp] theorem setPreempting_fixed (i m : Nat) (s : State) : (setPreempting i m s).fixed = s.fixed := State.onNt_fixed rfl

@[simp] theorem endEntry_fixed (n i : Nat) (s : State) : (endEntry n i s).fixed = s.fixed := by
  unfold endEntry; repeat' split
  all_goals simp

@[simp] theorem endPreempting_fixed (n : Nat) (s : State) : (endPreempting n s).fixed = s.fixed :=
  foldl_fixed _ (fun _ _ => endEntry_fixed ..) _ _

@[simp] theorem emptySlot_fixed (n : Nat) (s : State) : (emptySlot n s).fixed = s.fixed := by
  unfold emptySlot; dsimp only; split <;> simp

@[simp] theorem tellOrigin_fixed (n : Nat) (o : NoticeOrigin) (s : State) : (tellOrigin n o s).fixed = s.fixed := by
  cases o
  case timebase => exact State.onTb_fixed rfl
  case power => exact State.onPw_fixed rfl
  all_goals rfl

@[simp] theorem serveOrigin_fixed (n : Nat) (s : State) : (serveOrigin n s).fixed = s.fixed := by
  unfold serveOrigin; dsimp only; repeat' split
  all_goals simp

@[simp] theorem finishSlot_fixed (n : Nat) (st : SlotState) (o : SlotOutcome) (s : State) :
    (finishSlot n st o s).fixed = s.fixed := by simp [finishSlot]

@[simp] theorem abortSlot_fixed (n : Nat) (s : State) : (abortSlot n s).fixed = s.fixed := finishSlot_fixed ..

@[simp] theorem obtainSlot_fixed (c : NoticeClass) (s : State) : (obtainSlot c s).1.fixed = s.fixed := by
  unfold obtainSlot; repeat' split
  all_goals first
    | rfl
    | (refine (State.onNt_fixed ?_).trans (finishSlot_fixed ..); rfl)

@[simp] theorem requestNotice_fixed (a : NoticeAsk) (s : State) : (requestNotice a s).1.fixed = s.fixed := by
  have h := obtainSlot_fixed a.cls s
  unfold requestNotice
  revert h
  generalize obtainSlot a.cls s = o
  obtain ⟨s1, slot⟩ := o
  intro h
  have hn : (s1.onNt fun nt => { nt with unqueued := satInc 65535 nt.unqueued }).fixed = s1.fixed := State.onNt_fixed rfl
  cases slot <;> cases a.event <;> simp [hn] <;> exact h

@[simp] theorem quakeNotice_fixed (k : NoticeKind) (c : NoticeClass) (e : Nat) (s : State) :
    (quakeNotice k c e s).fixed = s.fixed := requestNotice_fixed ..

@[simp] theorem timeNotice_fixed (u : Bool) (s : State) : (timeNotice u s).fixed = s.fixed := by
  cases u <;> simp only [timeNotice, Bool.false_eq_true, if_false, if_true] <;> split <;>
    first | rfl | exact (State.onTb_fixed (by rfl)).trans (requestNotice_fixed ..)

@[simp] theorem slotPowerCut_fixed (n : Nat) (s : State) : (slotPowerCut n s).fixed = s.fixed := by
  unfold slotPowerCut; split <;> simp

theorem countEnergyHolds_fixed (s : State) : (countEnergyHolds s).fixed = s.fixed :=
  foldl_fixed _ (fun _ _ => (State.onNt_fixed rfl).trans (onSlot_fixed ..)) _ _

/-! ### Heaters -/

@[simp] theorem onPaired_fixed (h : Heater) (f : Paired → Paired) (s : State) : (onPaired h f s).fixed = s.fixed :=
  State.onCcu_fixed rfl

theorem onThermostat_fixed {h : Heater} {f : Thermostat → Thermostat} {s : State} (hf : ∀ u, (f u).kept = u.kept) :
    (onThermostat h f s).fixed = s.fixed := by
  apply State.onHt_fixed
  cases h <;> simp [HeaterUnit.kept, PerHeater.update, hf]

@[simp] theorem driveOutput_fixed (h : Heater) (l : Bool) (t : Time) (sw : Bool) (s : State) :
    (driveOutput h l t sw s).fixed = s.fixed := by
  have e : ((((onThermostat h (fun u => { u with edges := rollInc seqSpan u.edges, lastEdge := some t })
      (onPaired h (fun p => { p with output := l }) s)).onDet fun d => { d with lastEdge := some t }).onAcq
        fun a => { a with edgePending := true })).fixed = s.fixed :=
    (State.onAcq_fixed rfl).trans <| (State.onDet_fixed rfl).trans <|
      (onThermostat_fixed (by intro; rfl)).trans (onPaired_fixed ..)
  unfold driveOutput; dsimp only; repeat' split
  · rfl
  · rw [flagHeaterSwitched_fixed, e]
  · exact e

@[simp] theorem cutHeater_fixed (h : Heater) (v : Nat) (s : State) : (cutHeater h v s).fixed = s.fixed := by
  unfold cutHeater; dsimp only; repeat' split
  all_goals simp

@[simp] theorem quietHeater_fixed (h : Heater) (q : Bool) (s : State) : (quietHeater h q s).fixed = s.fixed := by
  unfold quietHeater; dsimp only; repeat' split
  all_goals first
    | rfl
    | simp only [driveOutput_fixed, onPaired_fixed]
      exact onThermostat_fixed fun _ => rfl

@[simp] theorem reportQuiet_fixed (q : Bool) (s : State) : (reportQuiet q s).fixed = s.fixed := by
  simp only [reportQuiet, quietHeater_fixed]; exact State.onHt_fixed rfl

@[simp] theorem formCap_fixed (h : Heater) (s : State) : (formCap h s).fixed = s.fixed := by
  unfold formCap; dsimp only; split
  · rw [cutHeater_fixed]; exact onThermostat_fixed fun _ => rfl
  · exact onThermostat_fixed fun _ => rfl

@[simp] theorem formCaps_fixed (s : State) : (formCaps s).fixed = s.fixed := by simp [formCaps]

@[simp] theorem startHeaters_fixed (s : State) : (startHeaters s).fixed = s.fixed :=
  (State.onPace_fixed rfl).trans ((onPaired_fixed ..).trans (onPaired_fixed ..))

/-! ### The Detector and the stream -/

theorem ringLostAll_fixed (es : List Nat) (s : State) : (ringLostAll es s).fixed = s.fixed :=
  foldl_fixed _ (fun _ _ => flagRingLost_fixed ..) _ _

@[simp] theorem releaseHolds_fixed (s : State) : (releaseHolds s).fixed = s.fixed := State.onAcq_fixed rfl

@[simp] theorem closeFrame_fixed (e f : Nat) (s : State) : (closeFrame e f s).fixed = s.fixed := by
  rw [closeFrame, releaseHolds_fixed]; exact State.onAcq_fixed rfl

theorem endTrigger_kept (ch : Nat) (r : Reason) (d : Detector) : (endTrigger ch r d).kept = d.kept := by
  unfold endTrigger; split <;> rfl

theorem foldl_detector_kept {α : Type} (f : Detector → α → Detector) (h : ∀ d a, (f d a).kept = d.kept) (l : List α)
    (d : Detector) : (l.foldl f d).kept = d.kept := by
  induction l generalizing d with
  | nil => rfl
  | cons a l ih => rw [List.foldl_cons, ih, h]

theorem restartAll_kept (r : Reason) (d : Detector) : (restartAll r d).kept = d.kept := by
  have e (d : Detector) (c : Six Channel) : { d with channels := c }.kept = d.kept := rfl
  rw [restartAll, e]
  exact foldl_detector_kept _ (fun _ _ => endTrigger_kept ..) _ _

theorem markGap_kept (d : Detector) : (markGap d).kept = d.kept := by unfold markGap; split <;> rfl

theorem shedChannel_kept (d : Detector) (ch : Nat) : (shedChannel d ch).kept = d.kept := by
  have e (d : Detector) (c : Six Channel) : { d with channels := c }.kept = d.kept := rfl
  unfold shedChannel; split
  · rfl
  · exact (e ..).trans (endTrigger_kept ch .reconfigured d)

theorem wakeChannel_kept (d : Detector) (ch : Nat) : (wakeChannel d ch).kept = d.kept := by
  unfold wakeChannel; split <;> rfl

@[simp] theorem handOver_fixed (s : State) : (handOver s).fixed = s.fixed := updateOpen_fixed ..

@[simp] theorem handUpdate_fixed (s : State) : (handUpdate s).fixed = s.fixed := by
  unfold handUpdate; split <;> simp

@[simp] theorem formQuiet_fixed (s : State) : (formQuiet s).fixed = s.fixed := by
  unfold formQuiet; dsimp only; split
  · rfl
  · rw [reportQuiet_fixed]; exact State.onDet_fixed rfl

@[simp] theorem closeIfDone_fixed (t : Time) (n : Nat) (s : State) : (closeIfDone t n s).fixed = s.fixed := by
  have e : (s.onDet Detector.endEpisode).fixed = s.fixed := State.onDet_fixed rfl
  unfold closeIfDone; repeat' split
  all_goals first
    | rfl
    | exact e
    | simp only [quakeNotice_fixed, closeFrame_fixed, closeRecord_fixed, e]

@[simp] theorem afterChannelChange_fixed (s : State) : (afterChannelChange s).fixed = s.fixed := by
  simp [afterChannelChange]

@[simp] theorem detectorLevel_fixed (o n : Option Level) (s : State) : (detectorLevel o n s).fixed = s.fixed := by
  unfold detectorLevel; repeat' split
  · rw [afterChannelChange_fixed]
    exact State.onDet_fixed (foldl_detector_kept _ shedChannel_kept _ _)
  · exact State.onDet_fixed (foldl_detector_kept _ wakeChannel_kept _ _)
  · rfl

@[simp] theorem detectorSensorOff_fixed (s : State) : (detectorSensorOff s).fixed = s.fixed := by
  have e (d : Detector) : { d with gapRun := 0 }.kept = d.kept := rfl
  rw [detectorSensorOff, afterChannelChange_fixed]
  exact State.onDet_fixed (by rw [e, markGap_kept, restartAll_kept])

@[simp] theorem startStream_fixed (s : State) : (startStream s).fixed = s.fixed :=
  (State.onDet_fixed rfl).trans ((State.onAcq_fixed rfl).trans (State.onCcu_fixed rfl))

@[simp] theorem sensorOn_fixed (s : State) : (sensorOn s).fixed = s.fixed := by
  have e : (s.onAcq fun a => { a with state := .settling, settleCount := 0, settleDue := false }).fixed = s.fixed :=
    State.onAcq_fixed rfl
  unfold sensorOn; dsimp only; split
  · rw [startStream_fixed, e]
  · exact e

@[simp] theorem sensorOff_fixed (s : State) : (sensorOff s).fixed = s.fixed := by
  rw [sensorOff, detectorSensorOff_fixed]
  exact (State.onAcq_fixed rfl).trans (State.onCcu_fixed rfl)

/-! ### The link -/

@[simp] theorem setLinkState_fixed (n : LinkState) (s : State) : (setLinkState n s).fixed = s.fixed := by
  unfold setLinkState; split
  · rfl
  · rw [notifyAll_fixed]; exact State.onLink_fixed rfl

@[simp] theorem formLinkState_fixed (s : State) : (formLinkState s).fixed = s.fixed := setLinkState_fixed ..

@[simp] theorem listenPoint_fixed (s : State) : (listenPoint s).fixed = s.fixed := by
  have e (c : Ccu) (x : Compare) : { c with ch7 := x }.kept = c.kept := rfl
  have e' (l : Link) (x : Bool) : { l with listenAsk := x }.kept = l.kept := rfl
  exact (State.onCcu_fixed (e ..)).trans (State.onLink_fixed (e' ..))

@[simp] theorem listenLevel_fixed (l : Option Level) (s : State) : (listenLevel l s).fixed = s.fixed := by
  have e (ask : Bool) : ((s.onLink fun l => { l with listenAsk := ask }).onCcu fun c => { c with ch7 := c.ch7.stop }).fixed =
      s.fixed := (State.onCcu_fixed rfl).trans (State.onLink_fixed rfl)
  unfold listenLevel; dsimp only; split
  case h_4 => exact listenPoint_fixed s
  all_goals exact e _

@[simp] theorem linkLevel_fixed (s : State) : (linkLevel s).fixed = s.fixed := by simp [linkLevel]

@[simp] theorem formRadioRequest_fixed (s : State) : (formRadioRequest s).fixed = s.fixed :=
  (State.onPw_fixed rfl).trans (setAsk_fixed ..)

@[simp] theorem radioOn_fixed (s : State) : (radioOn s).fixed = s.fixed := State.onLink_fixed rfl

@[simp] theorem cutOrigin_fixed (o : AirOrigin) (s : State) : (cutOrigin o s).fixed = s.fixed := by
  cases o <;> simp [cutOrigin]

@[simp] theorem radioCut_fixed (s : State) : (radioCut s).fixed = s.fixed := by
  have e : (s.onLink fun l => { l with warm := false, tx := .idle, window := none, reception := none }).fixed = s.fixed :=
    State.onLink_fixed rfl
  unfold radioCut; dsimp only; repeat' split
  all_goals simp only [cutOrigin_fixed, e]

/-! ### Time and discipline -/

@[simp] theorem formTimebaseEntry_fixed (s : State) : (formTimebaseEntry s).fixed = s.fixed := setAsk_fixed ..

@[simp] theorem refreshRequest_fixed (s : State) : (refreshRequest s).fixed = s.fixed := by
  rw [refreshRequest, formTimebaseEntry_fixed]; exact State.onDisc_fixed rfl

@[simp] theorem openGnssWindow_fixed (s : State) : (openGnssWindow s).fixed = s.fixed := by
  rw [openGnssWindow, formTimebaseEntry_fixed]; exact State.onDisc_fixed rfl

@[simp] theorem disciplineLevel_fixed (l : Option Level) (s : State) : (disciplineLevel l s).fixed = s.fixed := by
  unfold disciplineLevel; dsimp only; split
  case h_1 => rfl
  case h_4 => rw [openGnssWindow_fixed]; exact State.onDisc_fixed rfl
  all_goals rw [formTimebaseEntry_fixed]; exact State.onDisc_fixed rfl

@[simp] theorem setUncertainty_fixed (n : Nat) (s : State) : (setUncertainty n s).fixed = s.fixed := by
  have e (u : Nat) (a : Discipline → Bool) : ((s.onTb fun tb => { tb with uncertainty := u }).onDisc fun d =>
      { d with takenLow := false, aboveRefresh := a d }).fixed = s.fixed :=
    (State.onDisc_fixed rfl).trans (State.onTb_fixed rfl)
  unfold setUncertainty; dsimp only; split
  · rw [refreshRequest_fixed]; exact e ..
  · exact e ..

/-- A change of the time state other than to FREE (which clears the conflict state) leaves the kept part alone. -/
theorem changeTimeState_fixed (new : TimeState) (c : Bool) (s : State) (h : new ≠ .free) :
    (changeTimeState new c s).fixed = s.fixed := by
  have e : (s.onTb fun tb =>
      { tb with state := new, entry := tb.now, ctemp := if tb.state = .holdover then 0 else tb.ctemp }).fixed = s.fixed :=
    State.onTb_fixed rfl
  unfold changeTimeState; simp only [h, if_false]; split
  · rfl
  · split
    · rw [timeNotice_fixed]; refine (State.onDisc_fixed rfl).trans ?_; rw [notifyAll_fixed, e]
    · refine (State.onDisc_fixed rfl).trans ?_; rw [notifyAll_fixed, e]

@[simp] theorem loseState_fixed (s : State) : (loseState s).fixed = s.fixed := by
  unfold loseState; dsimp only; split
  case h_1 =>
    rw [changeTimeState_fixed _ _ _ (by decide), setUncertainty_fixed]
    exact (State.onDisc_fixed rfl).trans (State.onTb_fixed rfl)
  case h_2 => rw [changeTimeState_fixed _ _ _ (by decide)]
  all_goals rfl

@[simp] theorem becomeAbsent_fixed (s : State) : (becomeAbsent s).fixed = s.fixed := by
  rw [becomeAbsent, loseState_fixed]; exact State.onDisc_fixed rfl

@[simp] theorem gnssOff_fixed (s : State) : (gnssOff s).fixed = s.fixed := by
  unfold gnssOff; dsimp only; split
  · rw [becomeAbsent_fixed]; exact State.onDisc_fixed rfl
  · exact State.onDisc_fixed rfl

/-! ### Power -/

@[simp] theorem formStanding_fixed (s : State) : (formStanding s).fixed = s.fixed :=
  foldl_fixed _ (fun _ _ => setAsk_fixed ..) _ _

@[simp] theorem powerNotice_fixed (c : PowerCause) (s : State) : (powerNotice c s).fixed = s.fixed := by
  unfold powerNotice; dsimp only; split
  · rfl
  · refine (State.onPw_fixed ?_).trans (requestNotice_fixed ..)
    cases c <;> rfl

@[simp] theorem reportToWatchers_fixed (o : Option Level) (n : Level) (s : State) :
    (reportToWatchers o n s).fixed = s.fixed := by
  have e (x : State) : (formCaps (x.onHt fun u => { u with level := some n })).fixed = x.fixed := by
    rw [formCaps_fixed]; exact State.onHt_fixed rfl
  unfold reportToWatchers; dsimp only; split <;> simp only [e, detectorLevel_fixed]

@[simp] theorem reportLevel_fixed (o : Option Level) (n : Level) (s : State) : (reportLevel o n s).fixed = s.fixed := by
  unfold reportLevel; dsimp only; repeat' split
  all_goals simp

@[simp] theorem entryNotice_fixed (n : Level) (s : State) : (entryNotice n s).fixed = s.fixed := by
  cases n <;> simp [entryNotice]

@[simp] theorem changeLevel_fixed (n : Level) (b : Bool) (s : State) : (changeLevel n b s).fixed = s.fixed := by
  have e (c : Power → Nat) : (s.onPw fun pw =>
      { pw with level := some n, dwell := 0, restartCount := 0, cutoffCount := c pw }).fixed = s.fixed := State.onPw_fixed rfl
  unfold changeLevel; dsimp only; repeat' split
  all_goals simp only [entryNotice_fixed, notifyAll_fixed, reportLevel_fixed, formStanding_fixed, e]

@[simp] theorem automaticSave_fixed (s : State) : (automaticSave s).fixed = s.fixed := by
  unfold automaticSave startSave; split <;> exact State.onStore_fixed rfl

@[simp] theorem enterDormant_fixed (s : State) : (enterDormant s).fixed = s.fixed := by
  rw [enterDormant, automaticSave_fixed, changeLevel_fixed]; exact State.onPw_fixed rfl

@[simp] theorem beginGasp_fixed (n : Nat) (s : State) : (beginGasp n s).fixed = s.fixed := by
  rw [beginGasp, changeLevel_fixed]; exact State.onPw_fixed rfl

@[simp] theorem startLastGasp_fixed (s : State) : (startLastGasp s).fixed = s.fixed := by
  have h := requestNotice_fixed
    { kind := .power, cls := .alarm, origin := .power, event := none, reason := .lastGasp } s
  unfold startLastGasp; dsimp only; repeat' split
  · rw [beginGasp_fixed]
  · rw [enterDormant_fixed, h]
  · rw [beginGasp_fixed, h]

/-! ### Port resets, loads and `settle` -/

/-- A port's reply is as it was, or the port is A or B and has been reset (R170, R190). -/
def ReplyKept (s t : State) : Prop :=
  t.kept = s.kept ∧ ∀ p, (t.ports.get p).reply = (s.ports.get p).reply ∨ (p ≠ .c ∧ (t.ports.get p).reply = .none)

theorem ReplyKept.of_fixed {s t : State} (h : t.fixed = s.fixed) : ReplyKept s t :=
  ⟨kept_of_fixed h, fun p => .inl (reply_of_fixed h p)⟩

theorem ReplyKept.trans {s t u : State} (h : ReplyKept s t) (k : ReplyKept t u) : ReplyKept s u :=
  ⟨k.1.trans h.1, fun p => by
    rcases k.2 p with e | e
    · rw [e]; exact h.2 p
    · exact .inr e⟩

theorem resetPort_reply {p : Port} (hp : p ≠ .c) (s : State) : ReplyKept s (resetPort p s) := by
  constructor
  · cases p <;> rfl
  · cases p
    case c => exact absurd rfl hp
    all_goals intro q; cases q <;> simp [resetPort, State.onPort, PerPort.update, PerPort.get]

theorem turnOn_fixed (l : Load) (s : State) : (turnOn l s).fixed = s.fixed := by
  cases l <;> simp [turnOn, tellOn, State.onLoad_fixed]

theorem tellOff_reply (l : Load) (s : State) : ReplyKept s (tellOff l s) := by
  cases l <;> simp only [tellOff]
  case recorder => exact resetPort_reply (by decide) _
  case telemetry => exact resetPort_reply (by decide) _
  case sensor => exact .of_fixed (sensorOff_fixed _)
  case gnss => exact .of_fixed (gnssOff_fixed _)
  case radio => exact .of_fixed (radioCut_fixed _)
  case aux => exact .of_fixed rfl

theorem turnOff_reply (l : Load) (s : State) : ReplyKept s (turnOff l s) := by
  unfold turnOff
  exact ReplyKept.trans (.of_fixed (by rw [notifyAll_fixed, State.onLoad_fixed])) (tellOff_reply ..)

theorem formLoad_reply (l : Load) (s : State) : ReplyKept s (formLoad l s) := by
  unfold formLoad; dsimp only; repeat' split
  all_goals first
    | exact turnOff_reply ..
    | exact .of_fixed (turnOn_fixed ..)
    | exact .of_fixed (State.onLoad_fixed ..)
    | exact .of_fixed rfl

theorem endGasp_fixed (s : State) : (endGasp s).fixed = s.fixed := by unfold endGasp; split <;> simp

theorem foldl_reply {α : Type} (f : State → α → State) (h : ∀ s a, ReplyKept s (f s a)) (l : List α) (s : State) :
    ReplyKept s (l.foldl f s) := by
  induction l generalizing s with
  | nil => exact .of_fixed rfl
  | cons a l ih => exact (h s a).trans (ih _)

theorem settleRound_reply (s : State) : ReplyKept s (settleRound s) :=
  ReplyKept.trans (.of_fixed (by rw [formRadioRequest_fixed, endGasp_fixed]))
    (foldl_reply _ (fun _ _ => formLoad_reply ..) _ _)

/-- Everything that forming the state again at the end of a step can do: it changes only what `State.kept` blanks, and
a reply only by the reset of port A or B. -/
theorem settle_reply (s : State) : ReplyKept s (settle s) := by
  refine ReplyKept.trans ?_ (.of_fixed (countEnergyHolds_fixed _))
  exact (settleRound_reply _).trans <| (settleRound_reply _).trans <| (settleRound_reply _).trans (settleRound_reply _)

/-- Forming the state again at the end of a step changes only what `State.kept` blanks. -/
@[simp] theorem settle_kept (s : State) : (settle s).kept = s.kept := (settle_reply s).1

end Sys2Proof.Machine
end

