-- ==== Sys2Proof/Laws/Requests.lean ====
section
/-! SUPPORT. What a request on a port and an event can do: one lemma per way each can go. -/

namespace Sys2Proof.Machine

@[simp] theorem PerPort.get_update_self {α : Type} (x : PerPort α) (p : Port) (f : α → α) :
    (x.update p f).get p = f (x.get p) := by cases p <;> rfl

theorem PerPort.get_update_ne {α : Type} (x : PerPort α) {p q : Port} (h : q ≠ p) (f : α → α) :
    (x.update p f).get q = x.get q := by cases p <;> cases q <;> first | rfl | exact absurd rfl h

@[simp] theorem PerPort.update_update {α : Type} (x : PerPort α) (p : Port) (f g : α → α) :
    (x.update p f).update p g = x.update p fun a => g (f a) := by cases p <;> rfl

theorem State.onPort_onPort (s : State) (p : Port) (f g : PortRec → PortRec) :
    (s.onPort p f).onPort p g = s.onPort p fun r => g (f r) := by simp [State.onPort, State.onPorts]

@[simp] theorem State.onPort_get (s : State) (p : Port) (f : PortRec → PortRec) :
    ((s.onPort p f).ports.get p) = f (s.ports.get p) := by simp [State.onPort]

@[simp] theorem State.onPort_pace (s : State) (p : Port) (f : PortRec → PortRec) : (s.onPort p f).pace = s.pace := rfl

/-- Two changes of a port's record that agree on it are one. -/
theorem State.onPort_congr {s : State} {p : Port} {f g : PortRec → PortRec} (h : f (s.ports.get p) = g (s.ports.get p)) :
    s.onPort p f = s.onPort p g := by
  cases p <;> simp_all [State.onPort, State.onPorts, PerPort.update, PerPort.get]

/-- The discard of an unread reply and the zeros sent during the write, together (R187, R189). -/
theorem discard_sendZeros (p : Port) (s : State) :
    sendZeros p (discardReply p s) =
      s.onPort p fun r => { r with reply := .none, discarded := r.countedDiscards, sdo := [] } := by
  rw [sendZeros, discardReply, State.onPort_onPort]
  apply State.onPort_congr
  generalize s.ports.get p = r
  have e : satInc 65535 r.discarded = min 65535 (r.discarded + 1) := by unfold satInc; split <;> omega
  obtain ⟨_, reply, _, _, _, _, _, _, _⟩ := r
  cases reply <;> simp_all [PortRec.countedDiscards]

/-- A request that is admitted: its command runs with the reply in preparation (R188, R189). -/
theorem request_admitted {p : Port} {right : Right} {s : State} (h : Admits p right s) (tag : Byte)
    (run : State → Answer) :
    request p tag right run s = .next (finishReply p tag (run (s.taking p tag))) := by
  obtain ⟨hheld, hright⟩ := h
  have hp : (sendZeros p (discardReply p s)).ports.get p =
      { s.ports.get p with reply := .none, discarded := (s.ports.get p).countedDiscards, sdo := [] } := by
    rw [discard_sendZeros, State.onPort_get]
  have ht : ((sendZeros p (discardReply p s)).onPort p fun r => { r with reply := .preparing tag }) =
      s.taking p tag := by
    rw [discard_sendZeros, State.onPort_onPort]; rfl
  simp only [request, hheld, Bool.false_eq_true, if_false, hp, hright, if_true, ht]

/-- A request whose right the port does not hold (R188, item 4). -/
theorem request_denied {p : Port} {right : Right} {s : State} (hheld : s.pace.held = false)
    (hright : (s.ports.get p).rights.has right = false) (tag : Byte) (run : State → Answer) :
    request p tag right run s = .next (s.answered p tag .denied []) := by
  have hp : (sendZeros p (discardReply p s)).ports.get p =
      { s.ports.get p with reply := .none, discarded := (s.ports.get p).countedDiscards, sdo := [] } := by
    rw [discard_sendZeros, State.onPort_get]
  simp only [request, hheld, Bool.false_eq_true, if_false, hp, hright]
  rw [replyReady, discard_sendZeros, State.onPort_onPort]; rfl

/-- While RESET is held low a request is ignored (R195). -/
theorem request_held {s : State} (h : s.pace.held = true) (p : Port) (tag : Byte) (right : Right)
    (run : State → Answer) : request p tag right run s = .next s := by simp [request, h]

/-- An answer over a state whose port still has its reply in preparation makes the reply ready (R189). -/
theorem finishReply_preparing {p : Port} {tag t : Byte} {s : State} (h : (s.ports.get p).reply = .preparing t)
    (st : Status) (data : List Byte) :
    finishReply p tag { after := s, reply := some (st, data) } = replyReady p st tag data s := by
  simp [finishReply, h]

@[simp] theorem State.taking_reply (p : Port) (tag : Byte) (s : State) :
    ((s.taking p tag).ports.get p).reply = .preparing tag := by simp [State.taking, PortRec.taking]

/-- A reply put over the state in which the request runs. -/
theorem replyReady_taking (p : Port) (tag : Byte) (st : Status) (data : List Byte) (s : State) :
    replyReady p st tag data (s.taking p tag) = s.answered p tag st data := by
  rw [replyReady, State.taking, State.onPort_onPort]; rfl

/-- A command that changes nothing and answers. -/
theorem request_answers {p : Port} {right : Right} {s : State} (h : Admits p right s) {tag : Byte}
    {run : State → Answer} {st : Status} {data : List Byte}
    (hrun : run (s.taking p tag) = { after := s.taking p tag, reply := some (st, data) }) :
    request p tag right run s = .next (s.answered p tag st data) := by
  rw [request_admitted h, hrun, finishReply_preparing (State.taking_reply ..), replyReady_taking]

/-- An event that is due. -/
theorem takeEvent_due {due : State → Bool} {effect : State → State} {s : State} (hheld : s.pace.held = false)
    (h : due s = true) : takeEvent due effect s = .next (effect s) := by simp [takeEvent, hheld, h]

/-- An event that is not due, or one while RESET is held low. -/
theorem takeEvent_idle {due : State → Bool} {effect : State → State} {s : State}
    (h : s.pace.held = true ∨ due s = false) : takeEvent due effect s = .next s := by
  rcases h with h | h <;> simp [takeEvent, h]

/-- Every event answers a next state. -/
theorem takeEvent_next (due : State → Bool) (effect : State → State) (s : State) :
    takeEvent due effect s = .next (if !s.pace.held && due s then effect s else s) := by
  unfold takeEvent; split <;> rfl

end Sys2Proof.Machine
end

