-- ==== Sys2Proof/Tests/Slice0.lean ====
section
/-! SUPPORT. Our own tests: ill-formed commands that the check refuses, the spec's worked examples, and for each statement with
hypotheses states that meet them. Expected values are the spec's. -/

namespace Sys2Proof.Tests

set_option Elab.async false

open Sys2Proof Sys2Proof.Machine

/-! ### Ill-formed commands -/

theorem test_refuses_detector_channel_0 : Instr.wellFormed (.durationLimit 0) = false := by decide
theorem test_refuses_detector_channel_7 : Instr.wellFormed (.warmupEnd 7) = false := by decide
theorem test_refuses_holdoff_channel_7 : Instr.wellFormed (.holdoffEnd 7) = false := by decide
theorem test_refuses_slot_12 : Instr.wellFormed (.backoffExpiry 12) = false := by decide
theorem test_refuses_request_byte_as_framing_error : Instr.wellFormed (.framingError .a (some 1)) = false := by decide
theorem test_refuses_known_code_as_unknown : Instr.wellFormed (.unknownCommand .a 0x10 0 []) = false := by decide
theorem test_refuses_65_argument_bytes : Instr.wellFormed (.getTime .a 0 (zeros 65)) = false := by decide +kernel
theorem test_refuses_43_frame_bytes : Instr.wellFormed (.badFrame (zeros 43)) = false := by decide +kernel
theorem test_takes_64_argument_bytes : Instr.wellFormed (.appendNotice .a 0 (zeros 64)) = true := by decide +kernel

/-! ### Transactions and their commands (R187, R188; the checks by hand from R118) -/

theorem test_spells_get_status : transactionCommand .a [0x01, 0x01, 0x05, 0x00, 0x04, 0x59] = .getStatus .a 0x05 [] := by
  decide +kernel
theorem test_spells_set_heater_limits :
    transactionCommand .c [0x01, 0xA3, 0x07, 0x01, 0x09, 0xD2, 0xE2] = .setHeaterLimits .c 0x07 [0x09] := by decide +kernel
theorem test_ignores_bytes_after_the_check :
    transactionCommand .b [0x01, 0x92, 0x08, 0x01, 0x02, 0x15, 0xE5, 0x77] = .setCeiling .b 0x08 [0x02] := by decide +kernel
theorem test_spells_read : transactionCommand .a [0x02, 0x00, 0x00] = .replyRead .a 2 := by decide +kernel
theorem test_spells_framing_error : transactionCommand .a [0x03, 0x01] = .framingError .a (some 0x03) := by decide +kernel
theorem test_spells_bad_check :
    transactionCommand .a [0x01, 0x10, 0x01, 0x00, 0xBC, 0xCF] = .requestBadLengthOrCheck .a [0x10, 0x01, 0x00, 0xBC, 0xCF] := by
  decide +kernel
theorem test_catalogue_codes : catalogue.map (fun row => row.code) = catalogueCodes := by decide +kernel

/-! ### Numbers that the spec works out -/

/-- The nine bytes 31 to 39 give the check 29B1 (R118). -/
theorem test_check_reference : checkOf [0x31, 0x32, 0x33, 0x34, 0x35, 0x36, 0x37, 0x38, 0x39] = 0x29B1 := by decide +kernel

/-- Group code 0x1234 maps to entry 61 (R120). -/
theorem test_group_hash : groupHash 0x1234 = 61 ∧ groupHash 0x003D = 61 := by decide

/-- The label bytes of second 1,700,000,200 with a valid fix sum to 0x72 (section 3.2). -/
theorem test_label_sum : labelSum [0xB5, 0x00, 0x65, 0x53, 0xF1, 0xC8, 0x01, 0x72] = 0x72 := by decide

/-- Station time 1,700,000,200.4,500,000 is sent as 00 65 53 F1 C8 44 AA 20 (section 1.6). -/
theorem test_time_bytes :
    timeBytes (1700000200 * 10000000 + 4500000) = [0x00, 0x65, 0x53, 0xF1, 0xC8, 0x44, 0xAA, 0x20] := by decide

/-- D, Cd and SoC at −10.0 °C and at −30.0 °C with Q = 180,000,000 (section 9.2). -/
theorem test_soc :
    derating false (-100) = 192 ∧ socOf 180000000 270000000 = 666 ∧ derating false (-300) = 147 ∧
      360000000 * 147 / 256 = 206718750 ∧ socOf 180000000 206718750 = 870 := by decide

/-- The bin of a temperature lies in 50 tenths of a degree from −40.0 °C on (R53). -/
theorem test_bins : binOf (-600) = 0 ∧ binOf (-350) = 1 ∧ binOf 249 = 12 ∧ binOf 1000 = 15 := by decide

/-- A bin at 118,000 that learns from Cfreq 118,603 becomes 118,075 (R54). -/
theorem test_bin_learns : (TempBin.learn 118603 { value := 118000, count := 8 }).value = 118075 := by decide

/-- The channel arithmetic of the triggering sample and the one after it (section 5.3). -/
theorem test_trigger_arithmetic :
    let cfg : ChannelCfg :=
      { enabled := true, weight := 1, h := 6, ks := 2, kl := 8, rt := 48, rd := 24, lmin := 40, critical := false }
    let quiet : Channel := { Channel.fresh .quiet with m := 25600, sta := 12800, lta := 12800 }
    let frame (n : Nat) : Frame := { seq := n, timestamp := n * 100000, samples := none, clipped := false, stepGap := none,
                                     marker := false, heaterEdge := false }
    let one := (channelWork (frame 7) 1100 100 Detector.cold.cfg none cfg quiet).1
    let two := (channelWork (frame 8) 100 100 Detector.cold.cfg none cfg one).1
    (one.state, one.m, one.sta, one.lta, one.peakD, one.peakRatio) = (.triggered, 29600, 73600, 12800, 1000, 92) ∧
      (two.state, two.m, two.sta, two.lta, two.peakD, two.peakRatio) = (.triggered, 29540, 56160, 12800, 1000, 92) := by
  decide

/-! ### Small states -/

/-- After reset, with every right on port A and the oscillator 100 s along. -/
def ready : State :=
  { State.reset with
    pace := { State.reset.pace with cycles := 1000000000, seconds := 99, disciplineSeconds := 99, heaterSeconds := 99 }
    tb := { State.reset.tb with now := 50000000000 }
    ports := ⟨{ State.reset.ports.a with rights := ⟨true, true, true, true⟩ }, State.reset.ports.b, State.reset.ports.c⟩ }

/-- The ready state in a level. -/
def atLevel (l : Level) : State :=
  { ready with pw := { ready.pw with level := some l }, ht := { ready.ht with level := some l } }

/-- The ready state in CLEAR with RADIO ON and warm. -/
def radioUp : State :=
  { atLevel .full with
    pw := { (atLevel .full).pw with loads := { ready.pw.loads with radio := { ready.pw.loads.radio with on := true } } }
    link := { ready.link with state := .clear, warm := true } }

/-- The Timebase of the first worked example of chapter 1. -/
def fast : State :=
  ready.onTb fun tb => { tb with cfreq := 3600000, cslew := 400000, now := 10009999998, f := 99993000000 }

/-- The Timebase of the second. -/
def slow : State :=
  ready.onTb fun tb => { tb with cfreq := -4700000, cslew := -500000, now := 524000000, f := -99991000000 }

/-- One cycle after another. -/
def cycles (n : Nat) (s : State) : Nat × Int :=
  let tb := Nat.repeat Timebase.cycle n s.tb
  (tb.now, tb.f)

/-- Three cycles near the upper rate limit (section 1.2). -/
theorem test_three_fast_cycles :
    cycles 1 fast = (10009999999, 99997000000) ∧ cycles 2 fast = (10010000001, 1000000) ∧
      cycles 3 fast = (10010000002, 5000000) := by decide

/-- Three cycles at the lower one: station time holds still for one cycle. -/
theorem test_three_slow_cycles :
    cycles 1 slow = (524000001, -99996000000) ∧ cycles 2 slow = (524000001, -1000000) ∧
      cycles 3 slow = (524000002, -6000000) := by decide

/-- Four pulses while acquiring: the steering terms of pulses 2 to 4 (section 3.3). -/
theorem test_four_pulses :
    let cfg := State.reset.disc.cfg
    let one := (State.reset.tb)
    let start : Timebase := { one with cfreq := 120000, cslew := 0 }
    let two := start.slew cfg (-140)
    let three := two.slew cfg (-43)
    let four := three.slew cfg 12
    (two.cslew, two.cfreq) = (87500, 125468) ∧ (three.cslew, three.cfreq) = (26875, 127147) ∧
      (four.cslew, four.cfreq) = (-7500, 126679) ∧ steps cfg (-38000) = true ∧ steps cfg 38000 = false := by decide

/-- A step of 3.7 s passes 370 matches of channel 4, so 369 are skipped, and its next match is 5,004.7,000,000
(section 2.4). -/
theorem test_step_passes_matches :
    let ch4 : Compare :=
      { mode := .repeating, period := 100000, phase := 0, next := 50010000000, waiting := none, skipped := 0 }
    let after := ch4.stepFire 50046950000
    (ch4.passed 50046950000, after.skipped, after.next) = (370, 369, 50047000000) ∧
      offMatchOf 49920000000 50 160000000 = some 50045000000 := by decide

/-- SET_TIME of the worked example in section 1.4 and the RESET_TIME after it. -/
def locked : State :=
  ready.onTb fun tb => { tb with
    now := 17000001234500000, state := .locked, entry := 16999900000000000, uncertainty := 300, cfreq := 1250000
    cslew := 20000, stepCount := 4 }

/-- The next state, or the same where the command stops. -/
def after (c : Instr) (s : State) : State :=
  match exec c s with
  | .next t => t
  | .fault _ => s
  | .refused _ => s

/-- The bytes of a station time and an uncertainty, as SET_TIME takes them. -/
def timeArgs (t u : Nat) : List Byte := timeBytes t ++ be 4 u

/-- SET_TIME by hand: the step, the state, the entry time, the uncertainty, the step count and the unchanged rate. -/
theorem test_set_time :
    let t := after (.setTime .a 0x21 (timeArgs 17000002000000000 2000000)) locked
    (t.tb.now, t.tb.state, t.tb.entry, t.tb.uncertainty, t.tb.stepCount, t.tb.lastStep, t.tb.rate) =
      (17000002000000000, .adrift, 17000002000000000, 2000000, 5, 765500000, 1270000) := by decide +kernel

/-- An earlier time is TIME_BACKWARD and changes nothing of the Timebase. -/
theorem test_set_time_backward :
    let t := after (.setTime .a 0x22 (timeArgs 17000001500000000 2000000)) (locked.onTb fun tb => { tb with now := 17000002003000000 })
    t.tb.now = 17000002003000000 ∧ t.tb.stepCount = 4 := by decide +kernel

/-- RESET_TIME after it. -/
theorem test_reset_time :
    let t := after (.resetTime .a 0x23 []) (locked.onTb fun tb => { tb with now := 17000002010000000, state := .adrift })
    (t.tb.now, t.tb.state, t.tb.entry, t.tb.uncertainty, t.tb.cslew, t.tb.ctemp, t.tb.cfreq) =
      (17000002010000000, .free, 17000002010000000, 4294967295, 0, 0, 1250000) := by decide +kernel

/-- One second of charge at +1,500 mA and −10.0 °C (section 9.2). -/
theorem test_charge_second :
    let pw := ready.pw
    let x := Power.account ⟨13000, 1500, -100, 200, 200, 0⟩
      { pw with q := 180000000, cfg := { pw.cfg with cap := 10000 }, act := { pw.act with cap := 10000 } }
    (x.q, x.cd, x.soc) = (180001423, 270000000, 666) := by decide +kernel

/-- The first accounting second after a reset stands at 500 ‰, between 350 and 600, so the first level is REDUCED, in which
STATION's request counts for RECORDER but not for TELEMETRY (R157, R161, R162, R167). -/
theorem test_first_level :
    let t := after (.accountingSecond ⟨13000, 0, 200, 200, 200, 0⟩) ready
    (t.pw.soc, t.pw.level, t.pw.loads.recorder.on, t.pw.loads.telemetry.on, t.link.state) =
      (500, some .reduced, true, false, .clear) := by decide +kernel

/-- A marker edge twice before a read counts one overwrite (R19). -/
theorem test_marker_overwrite :
    let t := after .markerCapture (after .markerCapture ready)
    t.ccu.ch3 = { last := some 50000000000, unread := true, overwrites := 1 } := by decide +kernel

/-- A wrong check is answered BAD_CHECK and counted (R188). -/
theorem test_bad_check :
    let t := after (.requestBadLengthOrCheck .a [0x10, 0x05, 0x00, 0x00, 0x00]) ready
    t.ports.a.badChecks = 1 ∧ t.ports.a.reply = .ready (replyFrame .badCheck 0x05 []) := by decide +kernel

/-- A GET_TIME before a level is answered with 12 bytes (R7). -/
theorem test_get_time :
    (after (.getTime .a 0x31 []) ready).ports.a.reply =
      .ready (replyFrame .ok 0x31 ([0, 0, 0, 0x13, 0x88, 0, 0, 0] ++ [0] ++ [0xFF, 0xFF, 0xFF, 0xFF])) := by decide +kernel

/-! ### States that meet the statements' hypotheses, clause by clause -/

theorem adm (r : Right) : Admits .a r ready := ⟨rfl, by cases r <;> rfl⟩

/-- Ready, while RESET is held. -/
def held : State := ready.onPace fun p => { p with held := true }

/-- A port A with a reply of five bytes ready. -/
def answering : State := ready.onPort .a fun r => { r with reply := .ready [0, 1, 0, 5, 6] }

theorem witness_StepsTakeTheQueueInOrder :
    ({ ready with pending := [.markerCapture] }).pending = .markerCapture :: [] ∧ ready.pending = [] := by decide

theorem witness_CommandsAnswerAndResetHolds :
    held.pace.held = true ∧ (∀ cause, Instr.markerCapture ≠ .coldReset cause) ∧ Instr.markerCapture ≠ .resetRelease :=
  ⟨rfl, fun _ => Instr.noConfusion, by decide⟩

theorem witness_RefusalsBeforeTheCommand :
    requestOf (.setTime .b 7 []) = some ⟨.b, 7, [], .configure⟩ ∧ ready.pace.held = false ∧
      (ready.ports.get .b).rights.has .configure = false ∧
      Admits .a .configure ready ∧ ([] : List Byte).length ≠ 2 ∧
      (∀ n, 1 ≤ n → n ≤ 8 → (zeros 1).length ≠ 1 + 5 * n) ∧ (∀ n, 1 ≤ n → n ≤ 8 → (zeros 42).length ≠ 1 + 5 * n) ∧
      Admits .a .control ready ∧ (zeros 2).length < 3 ∧ 64 < (zeros 65).length ∧ (zeros 1).length < 2 ∧
      (zeros 7).length < 8 ∧ 63 < (zeros 64).length := by
  refine ⟨by decide +kernel, by decide +kernel, by decide +kernel, adm _, by decide, ?_, ?_, adm _, ?_⟩
  · intro n; simp [zeros]; omega
  · intro n; simp [zeros]; omega
  · decide +kernel

theorem witness_TransactionsAreAnswered :
    (ready.pace.held = false ∧ (none : Option Byte) ≠ some 0x01 ∧ (some 0x00 : Option Byte) ≠ some 0x02 ∧
      ([0x10, 0x01] : List Byte).length < 3 ∧ 64 < (([0x10, 0x01, 0x41] : List Byte).getD 2 0).toNat ∧
      ([0x10, 0x01, 0x40] : List Byte).length < (([0x10, 0x01, 0x40] : List Byte).getD 2 0).toNat + 5 ∧
      (zeros 64).length ≤ 64 ∧ ([0, 0] : List Byte).length = 2 ∧
      natOf [0, 0] ≠ (checkOf [0x10, 0x01, 0x01, 0x09]).toNat ∧ (0xA4 : Byte).toNat ∉ catalogueCodes ∧
      (0x00 : Byte).toNat ∉ catalogueCodes ∧
      (0xA4 : Byte) ∉ catalogue.map (fun row => BitVec.ofNat 8 row.code) ∧ (0x03 : Byte) ≠ 0x01 ∧ (0x03 : Byte) ≠ 0x02) ∧
    answering.pace.held = false ∧ (answering.ports.get .a).reply = .ready [0, 1, 0, 5, 6] ∧
      ([0, 1, 0, 5, 6] : List Byte).length ≤ 5 ∧ 4 < ([0, 1, 0, 5, 6] : List Byte).length ∧
      (∀ bytes, (ready.ports.get .a).reply ≠ .ready bytes) ∧ held.pace.held = true ∧
      ((answering.onPort .a fun r => { r with sdo := [7] }).ports.get .a).sdo[0]? = some 7 ∧
      ((answering.onPort .a fun r => { r with sdo := [7] }).ports.get .a).sdo.length ≤ 1 :=
  ⟨by decide +kernel, rfl, rfl, by decide, by decide, (fun _ h => nomatch h), rfl, rfl, by decide⟩

/-- Port A alone may configure. -/
def onlyA : State := ready.onPort .c fun r => { r with rights := ⟨true, true, false, false⟩ }

/-- A save that port A asked for and that is over, with an automatic one waiting or not. -/
def saved (waiting : Bool) : State :=
  ready.onStore fun st => { st with
    save := some { copy := imageOf ready, finish := 1000000000, automatic := false, replyTo := some .a }
    autoWaiting := waiting }

theorem witness_RightsMasksAndSaves :
    (Admits .a .read ready ∧ (0x01 : Byte).toNat ≤ 1 ∧ 1 < (0x02 : Byte).toNat ∧ Admits .a .configure ready ∧
      2 < (3 : Byte).toNat ∧ 15 < (16 : Byte).toNat ∧ (0 : Byte).toNat = 0 ∧ (2 : Byte).toNat = 2 ∧ (15 : Byte).toNat ≤ 15 ∧
      (ready.ports.get .c).rights.configure = true ∧ Admits .a .configure onlyA ∧
      (onlyA.ports.get .b).rights.configure = false ∧ (onlyA.ports.get .c).rights.configure = false) ∧
    Admits .a .configure ready ∧ ready.store.save = none ∧ ready.store.autoWaiting = false ∧
      Admits .a .configure (saved true) ∧ (saved true).store.save ≠ none ∧ (saved true).store.autoWaiting = true ∧
      (saved false).pace.held = false ∧
      (saved false).store.save =
        some { copy := imageOf ready, finish := 1000000000, automatic := false, replyTo := some .a } ∧
      1000000000 ≤ (saved false).pace.cycles ∧ (saved false).store.autoWaiting = false := by
  exact ⟨⟨adm _, by decide, by decide, adm _, by decide, by decide, by decide, by decide, by decide, rfl, ⟨rfl, rfl⟩, rfl, rfl⟩,
    adm _, rfl, rfl, ⟨rfl, rfl⟩, by decide +kernel, rfl, rfl, rfl, by decide +kernel, rfl⟩

/-- Held with an image in the store. -/
def heldImage : State := held.onStore fun st => { st with image := some (imageOf ready) }

theorem witness_ColdResetAndRelease :
    held.pace.held = true ∧ held.store.image = none ∧ heldImage.pace.held = true ∧
      heldImage.store.image = some (imageOf ready) ∧ ready.pace.held = false := ⟨rfl, rfl, rfl, rfl, rfl⟩

theorem witness_OscillatorCyclesKeepTime :
    fast.pace.held = false ∧ FractionOk fast ∧ FractionOk slow ∧ fast.tb.now + 2 * 3 < 2 ^ 40 * 10000000 := by
  unfold FractionOk; decide +kernel

theorem witness_GetTimeReadsTheTime :
    ready.pace.held = false ∧ Admits .a .read ready ∧ ([0] : List Byte) ≠ [] ∧
      ((ready.onPort .b fun r => { r with rights := ⟨false, false, false, false⟩ }).ports.get .b).rights.read = false :=
  ⟨rfl, adm _, by decide, rfl⟩

/-- Station time 0.9,999,999. -/
def late : State := ready.onTb fun tb => { tb with now := 9999999 }

theorem witness_TimeIsReadSetAndReset :
    Admits .a .read ready ∧ Admits .a .configure ready ∧ late.pace.held = false ∧
      (late.ports.get .b).rights.configure = false ∧ Admits .a .configure late ∧
      (zeros 11).length ≠ 12 ∧ 9999999 < natOf (((zeros 5 ++ be 3 10000000 ++ zeros 4).drop 5).take 3) ∧
      (timeArgs 9999998 0).length = 12 ∧ natOf (((timeArgs 9999998 0).drop 5).take 3) = 9999998 ∧
      9999998 < late.tb.now ∧ natOf (((timeArgs 9999999 0).drop 5).take 3) = 9999999 ∧ late.tb.now ≤ 9999999 ∧
      (locked.onTb fun tb => { tb with state := .adrift }).tb.state = .adrift ∧ locked.tb.state ≠ .adrift ∧
      (locked.onTb fun tb => { tb with routineRef := some 3, urgentRef := some 4 }).tb.routineRef ≠ none ∧
      (locked.onTb fun tb => { tb with routineRef := some 3, urgentRef := some 4 }).tb.urgentRef ≠ none ∧
      locked.tb.routineRef = none ∧ locked.tb.urgentRef = none := by
  refine ⟨adm _, adm _, rfl, rfl, ⟨rfl, rfl⟩, ?_⟩; decide +kernel

/-- A capture is unread on channel 3. -/
def marked : State := ready.onCcu fun c => { c with ch3 := { last := some 7, unread := true, overwrites := 255 } }

theorem witness_MarkersAndChannelRecords :
    ready.pace.held = false ∧ Admits .a .read marked ∧ marked.ccu.ch3.last = some 7 ∧ Admits .a .read ready ∧
      ready.ccu.ch3.last = none := ⟨rfl, ⟨rfl, rfl⟩, rfl, adm _, rfl⟩

/-- RUNNING at 100 samples a second, with channels 4 and 7 due now. -/
def running : State :=
  { radioUp with
    ccu := { ready.ccu with
      ch4 := { mode := .repeating, period := 100000, phase := 0, next := 50000000000, waiting := none, skipped := 0 }
      ch7 := { mode := .oneShot, period := 1, phase := 0, next := 50000000000, waiting := none, skipped := 0 } }
    acq := { ready.acq with state := .running } }

/-- Running with a frame in flight, awaited or being read. -/
def inFlight (reading : Bool) (deadline : Time) : State :=
  running.onAcq fun a => { a with inFlight := some {
    timestamp := 49999900000, passed := 0, setMark := false, deadline := deadline, reading := reading } }

theorem witness_CompareMatchesAreHandedOver :
    running.pace.held = false ∧ running.ccu.ch4.mode ≠ .off ∧ running.ccu.ch4.next ≤ running.tb.now ∧
      running.acq.inFlight = none ∧ (inFlight true 50000000000).acq.inFlight.isSome = true ∧
      running.ccu.ch7.mode ≠ .off ∧ running.ccu.ch7.next ≤ running.tb.now := by decide +kernel

/-- Both heater channels run, with a boundary and an off-match due now. -/
def heated : State :=
  radioUp.onCcu fun c =>
    let p : Paired :=
      { cmp := { mode := .repeating, period := 160000000, phase := 0, next := 50000000000, waiting := none, skipped := 0 }
        duty := 20, pendingDuty := some 64, boundary := some 49840000000, offMatch := some 49890000000, output := true
        hold := false }
    { c with heaters := ⟨p, p⟩ }

theorem witness_ResetPartTakesWarmResetValues :
    Admits .a .configure ready ∧ (ready.ccu.heaters.get .hb).hold = false ∧
      (let held (output : Bool) := onPaired .hb (fun p => { p with output := output, hold := true }) heated
       Admits .a .configure (held true) ∧ ((held true).ccu.heaters.get .hb).hold = true ∧
         ((held true).ccu.heaters.get .hb).level (held true).tb.now ≠ ((held true).ccu.heaters.get .hb).output ∧
         Admits .a .configure (held false) ∧
         ∀ h, ((held false).ccu.heaters.get h).hold = true →
           ((held false).ccu.heaters.get h).level (held false).tb.now = ((held false).ccu.heaters.get h).output) :=
  ⟨adm _, rfl, ⟨rfl, rfl⟩, by decide +kernel, by decide +kernel, ⟨rfl, rfl⟩, fun h => by cases h <;> decide +kernel⟩

theorem witness_HeaterChannelsFollowTheirDuty :
    heated.pace.held = false ∧ (heated.ccu.heaters.get .hb).cmp.mode ≠ .off ∧
      (heated.ccu.heaters.get .hb).cmp.next ≤ heated.tb.now ∧ (heated.ccu.heaters.get .hb).hold = false ∧
      (heated.ccu.heaters.get .ho).offMatch = some 49890000000 ∧ 49890000000 ≤ heated.tb.now ∧
      true = (heated.ccu.heaters.get .hb).output ∧ false ≠ (heated.ccu.heaters.get .hb).output ∧
      49890000000 < (heated.ccu.heaters.get .ho).cmp.next ∧
      (let late := onPaired .ho (fun p => { p with offMatch := some 50000000000, hold := true }) heated
       (late.ccu.heaters.get .ho).hold = true ∧ (late.ccu.heaters.get .ho).offMatch = some 50000000000 ∧
         50000000000 ≤ late.tb.now ∧ (late.ccu.heaters.get .ho).cmp.next ≤ 50000000000) := by decide +kernel

/-- GNSS is ON; a second PPS is expected at the given time. -/
def gnssUp (present : Bool) (expected : Time) : State :=
  { (radioUp.onLoad .gnss fun x => { x with on := true }) with
    disc := { ready.disc with present := present, expected := expected, lossDue := true } }

theorem witness_PpsCapturesSteerStationTime :
    (gnssUp false 0).pace.held = false ∧ (gnssUp false 0).pw.loads.gnss.on = true ∧ (gnssUp false 0).disc.present = false ∧
      50000500000 ≤ (gnssUp true 50000500000).tb.now + 500000 ∧ (gnssUp true 49999500000).tb.now ≤ 49999500000 + 500000 ∧
      ready.pw.loads.gnss.on = false ∧ (gnssUp true 50000500001).disc.present = true ∧
      (gnssUp true 50000500001).tb.now + 500000 < 50000500001 ∧ 49999499999 + 500000 < (gnssUp true 49999499999).tb.now ∧
      (-10001 : Int) < -(ready.disc.cfg.stepThreshold : Int) ∧ -(ready.disc.cfg.stepThreshold : Int) ≤ -10000 ∧
      min 4294967295 ((5000 : Int).natAbs * 100) ≤ ready.disc.cfg.refreshLimit := by
  decide +kernel

/-- HOLDOVER at the refresh limit, with a scheduled window due and a repeat of the refresh due. -/
def holding : State :=
  { ready with
    tb := { ready.tb with state := .holdover, uncertainty := ready.disc.cfg.refreshLimit }
    disc := { ready.disc with windowDue := true } }

/-- The same above the limit. -/
def aboveLimit : State :=
  { holding with
    tb := { holding.tb with uncertainty := ready.disc.cfg.refreshLimit + 1 }
    disc := { holding.disc with takenLow := false, aboveRefresh := true, sinceRefresh := ready.disc.cfg.windowInterval } }

theorem witness_SecondsWithoutPpsAndHoldover :
    (gnssUp true 49999499999).disc.present = true ∧ 49999499999 + 500000 < (gnssUp true 49999499999).tb.now ∧
      (gnssUp true 0).pace.held = false ∧ (gnssUp true 0).disc.lossDue = true ∧
      ((gnssUp true 0).onTb fun tb => { tb with state := .locked }).tb.state = .locked ∧
      (gnssUp true 0).tb.state ≠ .locked ∧
    holding.pace.held = false ∧ (holding.pace.disciplineSeconds + 1) * 10000000 ≤ holding.pace.cycles ∧
      ready.tb.state ≠ .holdover ∧ holding.tb.state = .holdover ∧ holding.disc.aboveRefresh = false ∧
      holding.disc.cfg.refreshLimit < min 4294967295 (holding.tb.uncertainty + 4 * holding.disc.cfg.gbase) ∧
      0 < holding.disc.cfg.windowLength ∧ aboveLimit.disc.aboveRefresh = true ∧
      aboveLimit.disc.cfg.refreshLimit < aboveLimit.tb.uncertainty ∧
      aboveLimit.disc.cfg.windowInterval ≤ aboveLimit.disc.sinceRefresh ∧ holding.disc.windowDue = true ∧
      min 4294967295 500000 ≤ holding.disc.cfg.refreshLimit ∧ holding.disc.cfg.refreshLimit < min 4294967295 500001 ∧
      holding.tb.uncertainty ≤ holding.disc.cfg.refreshLimit ∧
      ¬(aboveLimit.disc.takenLow = true ∨ aboveLimit.tb.uncertainty ≤ aboveLimit.disc.cfg.refreshLimit) := by decide +kernel

/-- Seven label bytes of second 5,000, with or without a fix, and the PPS they belong to. -/
def labelled (flags : Byte) (m : Option MatchedPps) : State :=
  { gnssUp true 0 with
    disc := { (gnssUp true 0).disc with
      label := [0xB5, 0x00, 0x00, 0x00, 0x13, 0x88, flags], matched := m } }

/-- A PPS 0.9 s ago that awaits its label. -/
def pps : MatchedPps := { capture := 49991000000, stepped := 0, awaitsLabel := true }

theorem witness_LabelsAreCollectedAndChecked :
    ready.pace.held = false ∧ ready.disc.label = [] ∧ (0xB4 : Byte) ≠ 0xB5 ∧
      (ready.onDisc fun d => { d with label := zeros 6 }).disc.label.length < 7 ∧
      (labelled 1 none).pace.held = false ∧ (labelled 1 none).disc.label.length = 7 ∧
      (0x9D : Byte) ≠ labelSum ((labelled 1 none).disc.label ++ [0x9D]) ∧
      (0x9B : Byte) = labelSum ((labelled 0 none).disc.label ++ [0x9B]) ∧
      (((labelled 0 none).disc.label ++ [0x9B]).getD 6 0).getLsbD 0 = false ∧
      (0x9C : Byte) = labelSum ((labelled 1 (some pps)).disc.label ++ [0x9C]) ∧
      (((labelled 1 (some pps)).disc.label ++ [0x9C]).getD 6 0).getLsbD 0 = true ∧
      (labelled 1 none).disc.matched = none ∧ (labelled 1 (some pps)).disc.matched = some pps ∧
      (labelled 1 (some pps)).disc.present = true ∧ pps.awaitsLabel = true ∧
      (labelled 1 (some pps)).tb.now ≤ pps.capture + pps.stepped + 9000000 := by decide +kernel

/-- A state in which a number of conflicts stands. -/
def conflicting (n : Nat) (latch : Bool) : State :=
  { gnssUp true 0 with
    tb := { ready.tb with state := .acquiring }, disc := { (gnssUp true 0).disc with conflicts := n, conflictLatch := latch } }

theorem witness_GoodLabelsSetOrConfirmTime :
    ready.tb.state = .free ∧ 2 ^ 40 - 1 < 2 ^ 40 ∧ pps.capture + pps.stepped ≤ ready.tb.now ∧
      ready.tb.now ≤ pps.capture + pps.stepped + 9000000 ∧ (conflicting 2 false).tb.state ≠ .free ∧
      pps.capture % 10000000 < 5000000 ∧ 4999 = pps.capture / 10000000 ∧ (conflicting 1 true).disc.conflictLatch = true ∧
      (conflicting 1 false).disc.conflicts < 2 ∧ 2 ≤ (conflicting 2 false).disc.conflicts ∧
      (conflicting 2 false).disc.conflictLatch = false ∧ (conflicting 2 false).disc.heldP = none ∧
      (conflicting 2 false).tb.now + (5000 - 4999) * 10000000 < 2 ^ 40 * 10000000 ∧
      (let back : State := { conflicting 2 false with
         tb := { ready.tb with state := .holdover }, disc := { (conflicting 2 false).disc with heldP := some (-10) } }
       back.tb.state ≠ .free ∧ back.disc.heldP = some (-10) ∧ back.disc.conflictLatch = false ∧ 2 ≤ back.disc.conflicts ∧
         4998 < 4999 ∧ 4999 < 5000) := by decide +kernel

/-- R3 and section 1.3: the step of a label conflict is a discipline step and sets Cslew to 0. -/
theorem test_conflict_step_clears_cslew :
    (compareLabel 5000 pps ((conflicting 2 false).onTb fun tb => { tb with cslew := 400000 })).tb.cslew = 0 := by
  decide +kernel

theorem witness_ReadsOfTheUnits :
    ready.pace.held = false ∧ Admits .a .read ready ∧ ([0] : List Byte) ≠ [] := ⟨rfl, adm _, by decide⟩

theorem witness_DisciplineSettingsAndBins :
    Admits .a .configure ready ∧
      (let c := ready.disc.cfg
       c.lossLimit < 2 ^ 8 ∧ c.stepThreshold < 2 ^ 32 ∧ c.windowInterval < 2 ^ 32 ∧ c.labelRate < 2 ^ 8 ∧
       (1 ≤ c.lossLimit ∧ c.lossLimit ≤ 16) ∧ (100 ≤ c.stepThreshold ∧ c.stepThreshold ≤ 1000000) ∧
       (1 ≤ c.slewConstant ∧ c.slewConstant ≤ 64) ∧ (16 ≤ c.freqConstant ∧ c.freqConstant ≤ 4096) ∧ 2 ≤ c.lockCount ∧
       (1 ≤ c.lockWindow ∧ c.lockWindow ≤ 10000) ∧ (c.lockWindow ≤ c.unlockWindow ∧ c.unlockWindow ≤ 100000) ∧
       (1 ≤ c.gbase ∧ c.gbase ≤ 1000) ∧ (1000 ≤ c.adriftLimit ∧ c.adriftLimit ≤ 4000000000) ∧
       (1000 ≤ c.refreshLimit ∧ c.refreshLimit < c.adriftLimit) ∧
       (60 ≤ c.windowLength ∧ c.windowLength ≤ 7200 ∧ c.windowLength < c.windowInterval) ∧
       (600 ≤ c.windowInterval ∧ c.windowInterval ≤ 86400) ∧ c.labelRate ≤ 3) ∧
      ¬({ ready.disc.cfg with lossLimit := 17 }.lossLimit ≤ 16) ∧
      (1 : Byte).toNat ≤ 1 ∧ 1 ≤ (8 : Byte).toNat ∧ (8 : Byte).toNat ≤ 8 ∧ Admits .a .read ready ∧
      ([⟨-5000000, 255⟩] : List TempBin).length = (1 : Byte).toNat ∧
      (∀ b ∈ ([⟨-5000000, 255⟩] : List TempBin), -5000000 ≤ b.value ∧ b.value ≤ 5000000 ∧ b.count < 256) ∧
      ready.disc.bins.length = 16 ∧ 1 < (2 : Byte).toNat ∧ (0 : Byte).toNat = 0 ∧ 8 < (9 : Byte).toNat ∧
      ([] : List TempBin).length = 0 ∧ 8 < (List.replicate 9 ({ value := 0, count := 0 } : TempBin)).length ∧
      (∀ b ∈ ([⟨-5000001, 255⟩, ⟨5000001, 0⟩] : List TempBin), -2 ^ 31 ≤ b.value ∧ b.value < 2 ^ 31 ∧ b.count < 256) ∧
      ∃ b ∈ ([⟨7, 8⟩, ⟨5000001, 0⟩] : List TempBin), b.value < -5000000 ∨ 5000000 < b.value := by
  refine ⟨adm _, by decide +kernel, by decide +kernel, by decide, by decide, by decide, adm _, ?_⟩; decide +kernel

/-! ### Samples, the Detector and the Event Table -/

/-- A frame with the given sequence. -/
def frameOf (n : Nat) : Frame :=
  { seq := n, timestamp := n * 100000, samples := some ⟨1, 2, 3, 4, 5, 6⟩, clipped := false, stepGap := none
    marker := false, heaterEdge := false }

/-- A full ring, with the cursor at its oldest frame or past it. -/
def fullRing (cursor : Nat) : State :=
  (inFlight true 50000000000).onAcq fun a => { a with
    ring := frameOf 100 :: frameOf 101 :: List.replicate 8190 (frameOf 102), cursor := cursor
    holds := [⟨5, 100, none⟩, ⟨6, 101, none⟩] }

theorem witness_StreamsReadAndStoreFrames :
    (ready.pace.held = false ∧
      (ready.onAcq fun a => { a with state := .settling, settleDue := true }).acq.state = .settling ∧
      (inFlight false 50000000000).acq.inFlight.isSome = true ∧ 49999900000 ≤ (inFlight false 50000000000).tb.now ∧
      (inFlight false 50000000000).tb.now ≤ 50000000000 ∧
      (∀ fl, (inFlight true 50000000000).acq.inFlight = some fl → fl.reading = true) ∧
      (∀ fl, (inFlight false 49999999999).acq.inFlight = some fl → fl.deadline < (inFlight false 49999999999).tb.now)) ∧
    (inFlight true 50000000000).pace.held = false ∧ (inFlight true 50000000000).acq.inFlight.isSome = true ∧
      (inFlight true 50000000000).acq.ring.length < 8192 ∧ 8192 ≤ (fullRing 100).acq.ring.length ∧
      (fullRing 100).acq.inFlight = some ⟨49999900000, 0, false, 50000000000, true⟩ ∧
      (inFlight false 49999999999).acq.inFlight = some ⟨49999900000, 0, false, 49999999999, false⟩ ∧
      49999999999 < (inFlight false 49999999999).tb.now ∧
      (fullRing 100).acq.ring = frameOf 100 :: frameOf 101 :: List.replicate 8190 (frameOf 102) ∧
      ((frameOf 100).seq + (2 ^ 32 - 100 % 2 ^ 32)) % 2 ^ 32 < 2 ^ 31 ∧
      2 ^ 31 ≤ ((frameOf 100).seq + (2 ^ 32 - 101 % 2 ^ 32)) % 2 ^ 32 ∧
      seqAtOrAfter (frameOf 100).seq 100 = true ∧ seqAtOrAfter (frameOf 100).seq 101 = false := by
  refine ⟨⟨rfl, rfl, rfl, by decide +kernel, by decide +kernel, ?_, ?_⟩, rfl, rfl, by decide, ?_, rfl, rfl, by decide +kernel, rfl,
    by decide, by decide, by decide, by decide⟩
  · intro fl h; cases h; rfl
  · intro fl h; cases h; decide +kernel
  · exact (show 8192 ≤ (List.replicate 8190 (frameOf 102)).length + 1 + 1 by rw [List.length_replicate])

theorem witness_DrainReturnsFramesFromTheCursor :
    Admits .a .drain ready ∧ 1 ≤ (1 : Byte).toNat ∧ (8 : Byte).toNat ≤ 8 ∧ (0 : Byte).toNat = 0 ∧ 8 < (9 : Byte).toNat :=
  ⟨adm _, by decide, by decide, by decide, by decide⟩

/-- A frame waits, and channel 2 stands in the given state. -/
def working (c : Channel) : State :=
  running.onDet fun d => { d with waiting := [frameOf 700], channels := d.channels.update 2 fun _ => c }

theorem witness_DetectorFramesAreWorkedInOrder :
    let p := ready.det.params.get 2
    let triggered : Channel := { Channel.fresh .triggered with sta := 100000000, trigger := some (0, 4294867296) }
    (working triggered).pace.held = false ∧ (working triggered).det.waiting = [frameOf 700] ∧
      (frameOf 700).samples = some ⟨1, 2, 3, 4, 5, 6⟩ ∧ (frameOf 700).stepGap = none ∧ (working triggered).det.gapRun ≤ 4 ∧
      2 ^ p.kl ≤ ({ Channel.fresh .warmup with warm := 2 ^ p.kl - 1 }).warm + 1 ∧ ({ Channel.fresh .holdoff with holdoff := 1 }).holdoff = 1 ∧
      triggered.state = .triggered ∧
      (let d := sampleOf ⟨1, 2, 3, 4, 5, 6⟩ 2 - triggered.m / 256
       let sta := triggered.sta + ((min 8388607 d.natAbs : Nat) * 256 - triggered.sta) / (2 ^ p.ks : Nat)
       max triggered.lta (p.lmin * 256) * p.rd ≤ sta * 16) ∧
      (working triggered).det.cfg.maxDuration * (working triggered).acq.cfg.rate.perSec <
        ((frameOf 700).seq + (2 ^ 32 - 4294867296 % 2 ^ 32)) % 2 ^ 32 := by decide +kernel

theorem witness_ChannelsFollowTheirAverages :
    (Channel.fresh .off).state = .off ∧ (Channel.fresh .warmup).state = .warmup ∧
      (let p : ChannelCfg :=
        { enabled := true, weight := 1, h := 6, ks := 2, kl := 8, rt := 48, rd := 24, lmin := 40, critical := false }
       let sta (c : Channel) (x : Int) : Int :=
        c.sta + ((min 8388607 (x - c.m / 256).natAbs : Nat) * 256 - c.sta) / (2 ^ p.ks : Nat)
       let quiet : Channel := { Channel.fresh .quiet with m := 25600, sta := 12800, lta := 12800 }
       let up : Channel := { quiet with state := .triggered, sta := 25600, trigger := some (0, 1) }
       sta quiet 100 * 16 < max quiet.lta (p.lmin * 256) * p.rt ∧ max quiet.lta (p.lmin * 256) * p.rt ≤ sta quiet 1100 * 16 ∧
         sta { up with sta := 0 } 100 * 16 < max up.lta (p.lmin * 256) * p.rd ∧ max up.lta (p.lmin * 256) * p.rd ≤ sta up 100 * 16) ∧
      (3 + (2 ^ 32 - 1 % 2 ^ 32)) % 2 ^ 32 ≤ 1 * 2 ∧ 1 * 2 < (4 + (2 ^ 32 - 1 % 2 ^ 32)) % 2 ^ 32 ∧
      1 ≤ ({ Channel.fresh .holdoff with holdoff := 1 }).holdoff := by decide +kernel

/-- An OPEN record of sequence 5. -/
def openRecord : Record :=
  { seq := 5, closed := false, revision := 255, onset := 1000, declared := 2000, close := none, timeState := .locked
    uncertainty := 40, onsetFrame := some 77, cls := 2, votePeak := 7, participants := [], heaterSwitched := false
    levelChanged := false, gap := false, ringLost := false, clipped := true, lostBefore := 1, declaredOutcome := .pending
    updateOutcome := .none, summaryOutcome := .none, pins := 1 }

/-- An event is OPEN with one participant. -/
def opened (reason : Option Reason) : State :=
  { running with
    det := { running.det with episode := .opened 5, participants := [⟨1, 0, 900, 60, reason, false⟩] }
    ev := { running.ev with records := [openRecord], nextSeq := 6 } }

/-- A table full of records that may not be removed. -/
def fullTable : State := ready.onEv fun e => { e with records := List.replicate 32 openRecord, nextSeq := 2 ^ 32 - 1 }

theorem witness_DetectorSettingsAreWritten :
    Admits .a .configure ready ∧ 600 < 65536 ∧ (30 : Byte).toNat ≤ 30 ∧ 600 < 601 ∧ 30 < (31 : Byte).toNat ∧
      (let c := ready.det.cfg
       c.holdoffTime < 2 ^ 8 ∧ c.maxDuration < 2 ^ 16 ∧ c.guard < 2 ^ 8 ∧ c.window < 2 ^ 8 ∧ c.threshold < 2 ^ 8 ∧
       c.t2 < 2 ^ 32 ∧ c.t3 < 2 ^ 32 ∧ (1 ≤ c.holdoffTime ∧ c.holdoffTime ≤ 30) ∧
       (5 ≤ c.maxDuration ∧ c.maxDuration ≤ 600) ∧ c.guard ≤ 100 ∧ (1 ≤ c.window ∧ c.window ≤ 100) ∧
       (1 ≤ c.threshold ∧ c.threshold ≤ 18) ∧ (1 ≤ c.t2 ∧ c.t2 ≤ 8388606) ∧ (c.t2 < c.t3 ∧ c.t3 ≤ 8388607)) ∧
      ready.acq.cfg.rate = .r100 ∧ SampleRate.r50 ≠ running.acq.cfg.rate ∧ running.acq.state = .running ∧
      running.ccu.ch4.mode ≠ .off ∧ ready.acq.state ≠ .running ∧ ¬((3 : Byte).toNat ≤ 2) ∧
      (let c := ready.det.params.get 6
       c.weight ≤ 3 ∧ (4 ≤ c.h ∧ c.h ≤ 12) ∧ (1 ≤ c.ks ∧ c.ks ≤ 8) ∧ (6 ≤ c.kl ∧ c.kl ≤ 14) ∧ c.ks + 3 ≤ c.kl ∧
       20 ≤ c.rt ∧ (16 ≤ c.rd ∧ c.rd < c.rt) ∧ c.lmin < 2 ^ 16 ∧ c.rt < 2 ^ 8) ∧
      1 ≤ (1 : Byte).toNat ∧ (6 : Byte).toNat ≤ 6 ∧ ¬((7 : Byte).toNat ≤ 6) ∧ Admits .a .read ready ∧
      (∀ p ∈ (opened none).det.participants, 1 ≤ p.channel ∧ p.channel ≤ 6) ∧
      (zeros 15).length = 15 ∧ 2 < (3 : Byte).toNat ∧ (opened none).det.episode = .opened 5 ∧
      (∀ seq, ready.det.episode ≠ .opened seq) := by
  refine ⟨adm _, by decide, by decide, by decide, by decide, by decide +kernel, by decide, by decide, by decide, by decide,
    by decide, by decide, by decide +kernel, by decide, by decide, by decide, adm _, by decide, by decide, by decide, rfl,
    fun _ h => nomatch h⟩

theorem witness_EventTableCommands :
    Admits .a .read ready ∧ 2 ^ 32 - 1 < 2 ^ 32 ∧ (∀ r ∈ (opened none).ev.records, r.seq ≠ 4) ∧
      (opened none).ev.records.find? (fun x => x.seq == 5) = some openRecord ∧ Admits .a .configure ready ∧
      (1 : Byte).toNat ≤ 1 ∧ 1 < (2 : Byte).toNat :=
  ⟨adm _, by decide, by decide +kernel, by decide +kernel, adm _, by decide, by decide⟩

/-! ### The alert link -/

/-- Radio up with a transmitter, an ack window and a reception. -/
def linkIs (f : Link → Link) : State := radioUp.onLink f

/-- Slot 3 with a text notice in the given state. -/
def slotText (st : SlotState) (origin : NoticeOrigin) : Slot :=
  { Slot.clear with
    state := st, kind := .text, cls := .alarm, origin := origin, payload := some (zeros 70), segments := 3, tag := 9 }

/-- The same in the table of a state. -/
def withSlot (n : Nat) (sl : Slot) (s : State) : State := onSlot n (fun _ => sl) s

theorem witness_TransmissionsRunToTheEndOfAir :
    (linkIs fun l => { l with warm := false, warmAt := 1000000000 }).pw.loads.radio.on = true ∧
      (linkIs fun l => { l with warm := false, warmAt := 1000000000 }).link.warm = false ∧
      1000000000 ≤ (linkIs fun l => { l with warm := false }).pace.cycles ∧
      (linkIs fun l => { l with tx := .keying [] .probe 1000000000 9600 }).link.tx = .keying [] .probe 1000000000 9600 ∧
      (linkIs fun l => { l with tx := .onAir (zeros 42) (.segment 3) 998250000 2400 }).link.tx =
        .onAir (zeros 42) (.segment 3) 998250000 2400 ∧
      998250000 * 2400 + (zeros 42).length * 10 * 10000000 ≤ radioUp.pace.cycles * 2400 ∧ radioUp.pace.held = false := by
  decide +kernel

theorem witness_OpportunitiesSendTheBestNotice :
    radioUp.pace.held = false ∧ radioUp.link.state ≠ .off ∧ radioUp.pw.loads.radio.on = true ∧ radioUp.link.warm = true ∧
      radioUp.link.tx = .idle ∧ radioUp.link.window = none ∧ radioUp.link.reception = none ∧
      (linkIs fun l => { l with state := .silent, probeDue := true }).link.state = .silent ∧
      radioUp.link.state ≠ .silent ∧ (linkIs fun l => { l with replies := [⟨1, 2, 0, 3⟩] }).link.replies = ⟨1, 2, 0, 3⟩ :: [] ∧
      selectNotice radioUp = none ∧ selectNotice (withSlot 3 (slotText .waiting (.port .a)) radioUp) = some (3, none) ∧
      3 < (withSlot 3 (slotText .waiting (.port .a)) radioUp).nt.slots.length ∧ openNotice radioUp = none := by decide +kernel

theorem witness_LinkHealthFollowsItsCounts :
    radioUp.link.health ≠ .silent ∧ 192 ≤ (linkIs fun l => { l with sendErr := 184 }).link.sendErr + 8 ∧
      radioUp.pw.level = some .full ∧ radioUp.link.state = radioUp.link.health := by decide

/-- A reception is in progress within the window of tag 9, index 0. -/
def hearing : State :=
  linkIs fun l => { l with
    reception := some { capture := 49990000000, inWindow := true, lastByte := 998000000, bytes := [] }
    window := some { finish := 50000000000, tag := 9, index := 0, origin := .probe, undecided := false } }

/-- Listening with nothing in progress. -/
def listener : State := linkIs fun l => { l with listenAsk := true }

/-- A frame for the station. -/
def forUs (kind tag : Nat) (payload : List Byte) : HeardFrame :=
  { address := State.reset.link.cfg.address, group := false, kind := kind, index := 0, tag := tag, payload := payload }

theorem heard (kind tag : Nat) (payload : List Byte) (h : tag < 256) (hp : payload.length ≤ 32)
    (hk : (kind = 0x11 ∧ payload = []) ∨ (kind = 0x12 ∧ payload = []) ∨ (kind = 0x13 ∧ payload.length = 2) ∨
      (kind = 0x14 ∧ payload.length = 2) ∨ (kind = 0x15 ∧ payload ≠ [])) : Accepted hearing.link (forUs kind tag payload) :=
  ⟨show State.reset.link.cfg.address < 2 ^ 16 by decide, show 0 < 8 by decide, h, hp, rfl, hk⟩

theorem witness_ReceptionsAndAckWindows :
    Accepted hearing.link (forUs 0x11 9 []) ∧ Accepted hearing.link (forUs 0x12 8 []) ∧
      ¬ForStation hearing.link { forUs 0x11 9 [] with address := State.reset.link.cfg.address + 1 } ∧
      ForStation hearing.link (forUs 0x13 9 [0x12, 0x34]) ∧ ForStation hearing.link (forUs 0x14 9 [0, 0]) ∧
      hearing.pace.held = false ∧ hearing.link.window.isSome = true ∧ 50000000000 ≤ hearing.tb.now ∧
      (countGoodFrame (closeReception hearing)).link.window =
        some { finish := 50000000000, tag := 9, index := 0, origin := .probe, undecided := false } ∧
      listening listener = true ∧ listener.link.reception = none ∧ listening ready = false ∧ hearing.link.reception ≠ none ∧
      998000000 + 2000000 ≤ hearing.pace.cycles ∧ ([] : List Byte) <+: inboundFrame (forUs 0x11 9 []) ∧
      ([] : List Byte).length < ([0x7E] : List Byte).length ∧
      ([0x7E, 0xC3, 0, 0, 0x14, 0, 9, 2, 0, 1, 0x55] : List Byte).length < 10 + 2 ∧ ([0x7E, 0xC2] : List Byte).take 2 ≠ [0x7E, 0xC3] ∧
      32 < (([0x7E, 0xC3, 0, 1, 0x11, 0, 9, 33] : List Byte).getD 7 0).toNat ∧
      ([0x7E, 0xC3] ++ ([0, 1, 0x11, 0, 9, 0] : List Byte) ++ [0, 0]).length = 10 ∧
      ([0, 0] : List Byte) ≠ be 2 (checkOf [0, 1, 0x11, 0, 9, 0]).toNat := by
  refine ⟨heard _ _ _ (by decide) (by decide) (by decide), heard _ _ _ (by decide) (by decide) (by decide), ?_, rfl, rfl, ?_⟩
  · exact (show ¬(State.reset.link.cfg.address + 1 = State.reset.link.cfg.address) by decide)
  · decide +kernel

theorem witness_AttemptsAndPollsMoveTheirSlot :
    let s := withSlot 3 (slotText .awaitAck (.port .a)) radioUp
    let polled := withSlot 3 { slotText .armed (.port .a) with responder := true, topic := 0x1234, mask := 0xFFF0 } radioUp
    3 < s.nt.slots.length ∧ (slotAt 3 s).nextSegment + 1 < (slotAt 3 s).segments ∧
      ({ slotText .awaitAck (.port .a) with nextSegment := 2 }).segments ≤ 2 + 1 ∧
      min 15 ((slotAt 3 s).attempts + 1) < s.nt.cfg.retryAlarm ∧ s.nt.cfg.retryAlarm ≤ min 15 (15 + 1) ∧
      (slotAt 3 s).abortPending = false ∧ ({ slotAt 3 s with abortPending := true }).abortPending = true ∧
      (∀ m, m < 12 → (slotAt m s).responder = false) ∧ (slotAt 3 polled).responder = true ∧
      (slotAt 3 polled).state = .armed ∧ 0x123F &&& (slotAt 3 polled).mask = (slotAt 3 polled).topic &&& (slotAt 3 polled).mask ∧
      (∀ m, m < 3 → (slotAt m polled).responder = false) := by decide +kernel

theorem witness_RemoteCommandsActAndReply :
    Accepted hearing.link (forUs 0x15 1 [1]) ∧ Accepted hearing.link (forUs 0x15 1 [2, 3]) ∧
      Accepted hearing.link (forUs 0x15 1 [3, 2, 1]) ∧ Accepted hearing.link (forUs 0x15 1 [4, 0]) ∧
      Accepted hearing.link (forUs 0x15 1 [5]) ∧ hearing.pace.held = false ∧ hearing.link.reception.isSome = true ∧
      (let c := { hearing.link.cfg with enableStatus := true, enableCeiling := true, enableWake := true, enableQuiet := true }
       c.enableStatus = true ∧ c.enableCeiling = true ∧ c.enableWake = true ∧ c.enableQuiet = true) ∧
      hearing.link.cfg.enableStatus = true ∧ (3 : Byte).toNat ≤ 3 ∧ (1 : Byte) ≠ 0 := by
  refine ⟨heard _ _ _ (by decide) (by decide) (by decide), heard _ _ _ (by decide) (by decide) (by decide),
    heard _ _ _ (by decide) (by decide) (by decide), heard _ _ _ (by decide) (by decide) (by decide),
    heard _ _ _ (by decide) (by decide) (by decide), ?_⟩
  decide +kernel

/-- Everything of the link and slot 3 has run out. -/
def expired : State :=
  withSlot 3 { slotText .backoff (.port .a) with backoff := 1000000000 }
    (linkIs fun l => { l with
      health := .silent, state := .silent, restExpiry := some 99, pause := some 1000000000, quiet := some 99
      replies := [⟨1, 2, 0, 39⟩] })

theorem witness_LinkExpiriesAct :
    expired.pace.held = false ∧ expired.link.health = .silent ∧ expired.link.probeDue = false ∧
      expired.link.restExpiry = some 99 ∧ 99 ≤ expired.pace.seconds ∧ expired.link.pause = some 1000000000 ∧
      1000000000 ≤ expired.pace.cycles ∧ expired.link.quiet = some 99 ∧
      (∀ r ∈ expired.link.replies, r.taken + 60 ≤ expired.pace.seconds) ∧ expired.link.replies ≠ [] ∧
      (slotAt 3 expired).state = .backoff ∧ (slotAt 3 expired).backoff ≤ expired.pace.cycles := by decide +kernel

theorem witness_LinkCommands :
    Admits .a .read ready ∧ Admits .a .configure ready ∧
      (let c := ready.link.cfg
       [c.enableStatus, c.enableCeiling, c.enableWake, c.enableQuiet] = (List.range 4).map (15 : Byte).getLsbD ∧
       c.rateCode ≤ 3 ∧ c.keyLead ≤ 500 ∧ c.warmup ≤ 300 ∧ (1 ≤ c.ackWindow ∧ c.ackWindow ≤ 60) ∧
       (60 ≤ c.rest ∧ c.rest ≤ 14400) ∧ (1 ≤ c.listenLength ∧ c.listenLength ≤ 600) ∧
       (30 ≤ c.listenInterval ∧ c.listenInterval ≤ 3600) ∧ c.listenLength * 10 + c.warmup < c.listenInterval * 10 ∧
       c.address < 2 ^ 16) ∧
      ¬({ ready.link.cfg with rateCode := 4 }.rateCode ≤ 3) ∧ (zeros 8).length = 8 :=
  ⟨adm _, adm _, by decide +kernel, by decide, by decide⟩

/-! ### Notices -/

/-- Every slot holds a text notice of port A in the given state. -/
def fullSlots (st : SlotState) (cls : NoticeClass) : State :=
  radioUp.onNt fun nt => { nt with slots := List.replicate 12 { slotText st (.port .a) with cls := cls } }

theorem witness_InternalNoticesBeginAndEnd :
    radioUp.nt.slots.length = 12 ∧ (slotAt 0 radioUp).state = .empty ∧ (fullSlots .waiting .routine).nt.slots.length = 12 ∧
      (∀ m, m < 12 → (slotAt m (fullSlots .waiting .alarm)).state ≠ .empty) ∧
      (∀ m, m < 12 → (slotAt m (fullSlots .waiting .alarm)).cls ≠ .routine) ∧
      (∀ m, m < 12 → (slotAt m (fullSlots .waiting .routine)).state = .waiting) ∧
      (slotAt 0 (fullSlots .waiting .routine)).cls = .routine ∧ (slotAt 0 (fullSlots .waiting .routine)).responder = false ∧
      (∀ m, m < 12 → (slotAt 0 (fullSlots .waiting .routine)).queued = (slotAt m (fullSlots .waiting .routine)).queued) ∧
      (∀ e ∈ radioUp.nt.stack, e.by' ≠ 3) ∧ (slotAt 11 (fullSlots .waiting .routine)).origin = .port .a := by decide +kernel

theorem witness_PortNoticesAreComposed :
    Admits .a .control radioUp ∧ (zeros 61).length ≤ 61 ∧ radioUp.nt.slots.length = 12 ∧ (2 : Byte).toNat ≤ 2 ∧
      (11 : Byte).toNat ≤ 11 ∧ (3 : Byte).toNat ≤ 3 ∧ ¬((12 : Byte).toNat ≤ 11 ∨ (12 : Byte) = 255) ∧
      Admits .a .control (fullSlots .held .alarm) ∧ (slotAt 11 (fullSlots .held .alarm)).state ≠ .empty ∧
      (∀ m, m < 12 → (slotAt m (fullSlots .held .alarm)).state ≠ .empty ∧ (slotAt m (fullSlots .held .alarm)).state ≠ .waiting) ∧
      (slotAt 11 radioUp).state = .empty ∧ (2 : Byte).getLsbD 1 = true ∧ (1 : Byte).getLsbD 1 = false ∧
      11 < (12 : Byte).toNat ∧ (slotAt 3 (fullSlots .held .alarm)).origin ≠ .port .b ∧
      (slotAt 3 (fullSlots .waiting .alarm)).state ≠ .held ∧ (slotAt 3 (fullSlots .held .alarm)).payload = some (zeros 70) ∧
      (zeros 58) ≠ [] ∧ (zeros 70).length + (zeros 58).length ≤ 128 ∧ 128 < (zeros 70).length + (zeros 59).length ∧
      (let full := fullSlots .waiting .routine
       (full.ports.get .a).rights.control = true ∧ (∀ m, m < 12 → (slotAt m full).state ≠ .empty) ∧
         (slotAt 0 full).responder = false ∧ (slotAt 0 full).state = .waiting ∧ (slotAt 0 full).cls = .routine ∧
         ∀ m, m < 12 → (slotAt 0 full).queued = (slotAt m full).queued) := by
  refine ⟨⟨rfl, rfl⟩, by decide, by decide +kernel, by decide, by decide, by decide, by decide, ⟨rfl, rfl⟩, ?_⟩
  decide +kernel

theorem witness_SlotsAreAbortedAndFreed :
    Admits .a .control (fullSlots .held .alarm) ∧ (fullSlots .held .alarm).nt.slots.length = 12 ∧ 11 < (12 : Byte).toNat ∧
      (11 : Byte).toNat ≤ 11 ∧ (slotAt 11 radioUp).state = .empty ∧ (slotAt 11 (fullSlots .held .alarm)).origin ≠ .port .b ∧
      (∀ st ∈ [SlotState.held, .armed, .waiting, .backoff, .sending, .awaitAck, .preempted, .delivered, .failed, .aborted,
          .displaced], (slotAt 11 (fullSlots st .alarm)).state = st ∧ (slotAt 11 (fullSlots st .alarm)).event = none) ∧
      (∀ e ∈ radioUp.nt.stack, e.slot ≠ 11) ∧
      (radioUp.onNt fun nt => { nt with stack := [⟨11, 1, .routine, 3⟩] }).nt.stack = [⟨11, 1, .routine, 3⟩] ∧
      (radioUp.onNt fun nt => { nt with stack := [⟨11, 1, .routine, 3⟩, ⟨3, 1, .urgent, 5⟩] }).nt.stack.map (·.slot) = [11, 3] ∧
      (radioUp.onNt fun nt => { nt with stack := [⟨3, 1, .routine, 11⟩, ⟨11, 1, .urgent, 5⟩] }).nt.stack.map (·.slot) = [3, 11] := by
  refine ⟨⟨rfl, rfl⟩, ?_⟩; decide +kernel

theorem witness_RespondersAndNoticeSettings :
    Admits .a .control radioUp ∧ radioUp.nt.slots.length = 12 ∧ (zeros 55).length ≤ 55 ∧ (11 : Byte).toNat ≤ 11 ∧
      (2 : Byte).toNat ≤ 2 ∧ (1 : Byte).toNat ≤ 1 ∧ (slotAt 11 radioUp).state = .empty ∧
      (slotAt 11 (fullSlots .armed .alarm)).state = .armed ∧ (slotAt 11 (fullSlots .armed .alarm)).origin = .port .a ∧
      (slotAt 11 (fullSlots .waiting .alarm)).state ≠ .armed ∧ Admits .a .configure ready ∧ 1 ≤ (1 : Byte).toNat ∧
      (64 : Byte).toNat ≤ 64 ∧ (15 : Byte).toNat ≤ 15 ∧ ¬(1 ≤ (0 : Byte).toNat) ∧ Admits .a .read ready := by
  refine ⟨⟨rfl, rfl⟩, by decide +kernel, by decide, by decide, by decide, by decide, by decide +kernel, by decide +kernel,
    by decide +kernel, by decide +kernel, adm _, by decide, by decide, by decide, by decide, adm _⟩

/-! ### Power and heaters -/

theorem witness_SecondsKeepTheChargeAccount :
    ready.pace.held = false ∧ (ready.pace.seconds + 1) * 10000000 ≤ ready.pace.cycles ∧
      60 ≤ min 60 (59 + 1) ∧ 10 ≤ min 10 (9 + 1) ∧ ready.pw.level ≠ some .dormant ∧
      (atLevel .dormant).pw.level = some .dormant := by decide +kernel

theorem witness_LevelsFollowChargeAndVoltage :
    ready.pace.held = false ∧ (ready.pace.seconds + 1) * 10000000 ≤ ready.pace.cycles ∧ ready.pw.level = none ∧
      (atLevel .dormant).pw.level = some .dormant ∧ (atLevel .critical).pw.level = some .critical ∧
      (atLevel .critical).pw.lastGasp = none ∧
      (let t := after (.accountingSecond ⟨13000, 0, 200, 200, 200, 0⟩) (atLevel .full)
       t.pw.vb.faulted = false ∧ t.pw.soc = 500 ∧ t.pw.level = some .reduced) := by decide +kernel

theorem witness_ChangesOfLevelReachEveryBlock :
    ready.pw.level ≠ some .full ∧ (atLevel .dormant).pw.level = some .dormant ∧
      (atLevel .full).pw.level ≠ some .critical ∧ (atLevel .critical).pw.level = some .critical ∧ 1 ≤ 1 ∧ 6 ≤ 6 ∧
      (ready.det.params.update 1 fun c => { c with critical := false, enabled := true }).c1.critical = false ∧
      (∀ c, (radioUp.onPw fun pw => { pw with survivalRef := some 3, criticalRef := some 3, coldRef := some 3 }).pw.refOf c ≠
        none) ∧
      ready.pw.survivalRef = none ∧ ready.pw.criticalRef = none ∧ ready.pw.coldRef = none ∧
      ready.pw.level = none ∧ (atLevel .full).pw.level ≠ none ∧ (atLevel .full).pw.level ≠ some .dormant ∧
      (∀ p ∈ (opened none).det.participants, 1 ≤ p.channel ∧ p.channel ≤ 6) := by
  refine ⟨by decide, by decide, by decide, by decide, by decide, by decide, by decide, ?_, by decide, by decide, by decide,
    by decide, by decide, by decide, by decide +kernel⟩
  intro c; cases c <;> decide

/-- The last gasp, its start due or its wait over. -/
def gasping (count : Nat) (gasp : Option LastGasp) : State :=
  (atLevel .critical).onPw fun pw => { pw with cutoffCount := count, lastGasp := gasp, restartCount := 60 }

theorem witness_LastGaspLeadsToDormant :
    (gasping 10 none).pace.held = false ∧ 10 ≤ (gasping 10 none).pw.cutoffCount ∧ (gasping 10 none).pw.lastGasp = none ∧
      (gasping 10 none).pw.level ≠ some .dormant ∧ (gasping 0 (some ⟨60⟩)).pw.lastGasp = some ⟨60⟩ ∧
      ((gasping 10 none).onPw fun pw => { pw with gaspRef := some 3 }).pw.gaspRef = some 3 ∧ (gasping 10 none).pw.gaspRef = none ∧
      ready.store.save = none ∧ (saved false).store.save ≠ none ∧
      ((gasping 0 none).onPw fun pw => { pw with level := some .dormant }).pw.level = some .dormant ∧
      60 ≤ (gasping 0 none).pw.restartCount ∧ (gasping 0 none).pw.gaspEnded = false ∧
      ((gasping 0 (some ⟨3⟩)).onPw fun pw => { pw with gaspEnded := true }).pw.gaspEnded = true := by decide +kernel

/-- SENSOR in a level, with its min-off count and output. -/
def sensorIs (level : Level) (minOff : Nat) (on : Bool) : State :=
  (atLevel level).onLoad .sensor fun x => { x with on := on, minOff := minOff }

/-- A load that DORMANT does not permit stands ON, with the receiver PRESENT and a segment on air. -/
def cutLoad (l : Load) : State :=
  (opened none).onLoad l (fun x => { x with on := true }) |>.onDisc (fun d => { d with present := true })
    |>.onLink (fun k => { k with tx := .onAir [0x7E] (.segment 11) 0 1200 })
    |>.onPw fun pw => { pw with level := some .dormant }

theorem witness_LoadsFollowTheirRequests :
    allowedLoad .sensor (sensorIs .critical 0 false) = true ∧ allowedLoad .sensor (sensorIs .dormant 0 true) = false ∧
      (sensorIs .critical 30 false).pw.act.minOff ≤ ((sensorIs .critical 30 false).pw.loads.get .sensor).minOff ∧
      ¬(sensorIs .critical 29 false).pw.act.minOff ≤ ((sensorIs .critical 29 false).pw.loads.get .sensor).minOff ∧
      ((sensorIs .dormant 0 true).pw.loads.get .sensor).on = true ∧ (sensorIs .critical 30 false).acq.cfg.settleTime ≠ 0 ∧
      (let quick := (sensorIs .critical 30 false).onAcq fun a => { a with cfg := { a.cfg with settleTime := 0 } }
       allowedLoad .sensor quick = true ∧ quick.pw.act.minOff ≤ (quick.pw.loads.get .sensor).minOff ∧
         (quick.pw.loads.get .sensor).on = false ∧ (quick.pw.loads.get .sensor).onDue = false ∧
         quick.acq.cfg.settleTime = 0) ∧
      (∀ l ∈ allLoads, (allowedLoad l (cutLoad l) = false ∧ ((cutLoad l).pw.loads.get l).on = true) ∧
        ∀ p ∈ (cutLoad l).det.participants, 1 ≤ p.channel ∧ p.channel ≤ 6) ∧
      (cutLoad .gnss).disc.present = true := by
  decide +kernel

/-- A requester's entry for a load has run out, and the load waits to turn ON. -/
def asked (l : Load) (r : Requester) : State :=
  radioUp.onLoad l fun x => { x with asks := noAsks.put r (.until 99), onDue := true }

theorem witness_LoadRequestsAndPowerSettings :
    (Admits .a .control ready ∧ 5 < (6 : Byte).toNat ∧ (asked .aux .portA).pace.held = false ∧
      ((asked .aux .portA).pw.loads.get .aux).asks.get .portA = .until 99 ∧ 99 ≤ (asked .aux .portA).pace.seconds ∧
      ¬(Load.aux = .gnss ∧ Requester.portA = .timebase) ∧ (asked .gnss .timebase).pw.loads.gnss.asks.timebase = .until 99 ∧
      ((asked .aux .portA).pw.loads.get .aux).onDue = true ∧ Admits .a .read ready) ∧
    Admits .a .control ready ∧ 3 < (4 : Byte).toNat ∧ (3 : Byte).toNat ≤ 3 ∧ Admits .a .configure ready ∧
      (let c := ready.pw.cfg
       c.cap < 2 ^ 16 ∧ -2 ^ 15 ≤ c.chargeMin ∧ c.chargeMax < 2 ^ 15 ∧ c.routineFloor < 2 ^ 16 ∧
       1 ≤ c.cap ∧ (200 ≤ c.accept ∧ c.accept ≤ 256) ∧ c.startSoc ≤ 1000 ∧ (12000 ≤ c.vfull ∧ c.vfull ≤ 16000) ∧
       c.itaper ≤ 5000 ∧ (9000 ≤ c.vempty ∧ c.vempty ≤ 12500) ∧ (9500 ≤ c.vcrit ∧ c.vcrit ≤ 13000) ∧
       (9000 ≤ c.vcutoff ∧ c.vcutoff ≤ 12500) ∧ (10000 ≤ c.vrestart ∧ c.vrestart ≤ 14000) ∧
       (5000 ≤ c.sourcePresent ∧ c.sourcePresent ≤ 40000) ∧ (-400 ≤ c.chargeMin ∧ c.chargeMin ≤ 600) ∧
       (-400 ≤ c.chargeMax ∧ c.chargeMax ≤ 600) ∧ c.minDwell ≤ 3600 ∧ (60 ≤ c.eventWake ∧ c.eventWake ≤ 3600) ∧
       c.minOff ≤ 600 ∧ c.urgentFloor ≤ 1000 ∧ c.routineFloor ≤ 1000 ∧ c.vcutoff < c.vcrit ∧ c.vcrit < c.vrestart ∧
       c.vempty < c.vfull ∧ c.chargeMin < c.chargeMax ∧ c.urgentFloor ≤ c.routineFloor ∧ c.standing.getLsbD 0 = true ∧
       c.standing.getLsbD 6 = false ∧ c.standing.getLsbD 7 = false) ∧
      ¬(1 ≤ ({ ready.pw.cfg with cap := 0 }).cap) ∧ ready.pw.level = none ∧ (atLevel .full).pw.level ≠ none :=
  ⟨⟨adm _, by decide, rfl, rfl, by decide +kernel, by decide, rfl, rfl, adm _⟩, adm _, by decide, by decide, adm _,
    by decide +kernel, by decide, rfl, by decide⟩

/-- Both heaters run and their limits are running. -/
def deferring (since : Nat) : State :=
  heated.onHt fun u => { u with units := ⟨{ u.units.hb with deferral := .deferring since },
                                          { u.units.ho with deferral := .deferring since }⟩ }

theorem witness_HeaterSecondsComputeDuties :
    heated.pace.held = false ∧ heated.ccu.heaters.hb.cmp.mode ≠ .off ∧ heated.ccu.heaters.ho.cmp.mode ≠ .off ∧
      (heated.pace.heaterSeconds + 1) * 10000000 ≤ heated.pace.cycles ∧ (thermostatOf .hb heated).cap ≤ 64 ∧
      (thermostatOf .ho heated).cap ≤ 64 ∧ (thermostatOf .ho (deferring 700000000)).deferral = .deferring 700000000 ∧
      700000000 + (thermostatOf .ho (deferring 700000000)).cfg.limit * 10000000 ≤ (deferring 700000000).pace.cycles := by
  decide +kernel

theorem witness_HeaterCommands :
    Admits .a .configure ready ∧ (-2 : Int) ^ 15 ≤ -32768 ∧ (401 : Int) < 2 ^ 15 ∧ (5 ≤ (5 : Byte).toNat ∧ (100 : Byte).toNat ≤ 100) ∧
      (120 : Byte).toNat ≤ 120 ∧ ¬((101 : Byte).toNat ≤ 100) ∧ Admits .a .configure (deferring 700000000) ∧
      700000000 + (30 : Byte).toNat * 10000000 ≤ (deferring 700000000).pace.cycles ∧
      ¬(700000000 + (31 : Byte).toNat * 10000000 ≤ (deferring 700000000).pace.cycles) ∧ 1 < (2 : Byte).toNat ∧
      (let c := ready.ht.limits
       (c.caps.get .hb).full ≤ 64 ∧ (c.caps.get .hb).reduced ≤ (c.caps.get .hb).full ∧
       (c.caps.get .ho).dormant ≤ (c.caps.get .ho).critical ∧ c.sourceCap ≤ 64 ∧ 100 ≤ c.vaultHigh ∧ c.vaultHigh ≤ 600) ∧
      ¬(({ ready.ht.limits with sourceCap := 65 }).sourceCap ≤ 64) ∧ Admits .a .read ready := by
  refine ⟨adm _, by decide, by decide, by decide, by decide, by decide, ⟨rfl, rfl⟩, by decide +kernel, by decide +kernel,
    by decide, by decide +kernel, by decide, adm _⟩

/-! ### Realignment, the vote, the stack and the payloads -/

/-- Both heaters run: HB's next boundary in the future with an off-match due at a step of 5, HO's past both. -/
def ahead : State :=
  onPaired .ho (fun p => { p with cmp := { p.cmp with next := 50000000006 }, offMatch := some 50000000006 })
    (onPaired .hb (fun p => { p with cmp := { p.cmp with next := 50000000006 }, offMatch := some 50000000005 }) heated)

theorem witness_StepsRealignTheStation :
    0 < 5 ∧ running.tb.now + 5 < 2 ^ 40 * 10000000 ∧ ready.ccu.ch4.mode = .off ∧ running.ccu.ch4.mode ≠ .off ∧
      running.ccu.ch4.next ≤ running.tb.now + 5 ∧
      running.tb.now + 5 < ({ running.ccu.ch4 with next := 50000000006 }).next ∧ ready.ccu.ch7.mode = .off ∧
      running.ccu.ch7.mode ≠ .off ∧ running.ccu.ch7.next ≤ running.tb.now + 5 ∧
      (ready.ccu.heaters.get .hb).cmp.mode = .off ∧ (heated.ccu.heaters.get .hb).cmp.mode ≠ .off ∧
      (heated.ccu.heaters.get .hb).cmp.next ≤ heated.tb.now + 5 ∧ (ahead.ccu.heaters.get .hb).cmp.mode ≠ .off ∧
      ahead.tb.now + 5 < (ahead.ccu.heaters.get .hb).cmp.next ∧
      (ahead.ccu.heaters.get .hb).offMatch = some 50000000005 ∧ 50000000005 ≤ ahead.tb.now + 5 ∧
      ahead.tb.now + 5 < (ahead.ccu.heaters.get .ho).cmp.next ∧
      (∀ m, (ahead.ccu.heaters.get .ho).offMatch = some m → ahead.tb.now + 5 < m) := by
  refine ⟨by decide, by decide +kernel, by decide, by decide, by decide +kernel, by decide +kernel, by decide, by decide,
    by decide +kernel, by decide, by decide, by decide +kernel, by decide, by decide +kernel, rfl, by decide +kernel,
    by decide +kernel, ?_⟩
  intro m h; cases h; decide +kernel

/-- Channels 1, 2 and 4 are TRIGGERED, channel 1 over 65,535 frames after channel 2, and 4 with it; 3 is suspect. -/
def voters : Detector :=
  let up (t : Time) (n : Nat) (suspect : Bool) : Channel :=
    { Channel.fresh .triggered with trigger := some (t, n), peakD := 200000, suspect := suspect }
  { running.det with
    channels := ⟨up 50000001000 70007 false, up 50000000000 7 false, up 49999999999 6 true, up 50000001000 70006 false,
      .fresh .quiet, .fresh .off⟩ }

/-- The same in the Detector of a running station. -/
def voted : State := running.onDet fun _ => voters

theorem counted_iff (d : Detector) (ch : Nat) : Counted d ch ↔ (1 ≤ ch ∧ ch ≤ 6 ∧ (d.channels.get ch).state = .triggered ∧
    (d.channels.get ch).suspect = false ∧ 0 < (d.params.get ch).weight) := Iff.rfl

theorem earliest_voter : EarliestCounted voters 2 := by
  refine ⟨by rw [counted_iff]; decide, ?_⟩
  intro ch h
  obtain ⟨lo, hi, st, su, -⟩ := h
  have : ch = 1 ∨ ch = 2 ∨ ch = 3 ∨ ch = 4 ∨ ch = 5 ∨ ch = 6 := by omega
  rcases this with rfl | rfl | rfl | rfl | rfl | rfl
  · exact .inl (by decide)
  · exact .inr ⟨rfl, by decide⟩
  · exact absurd su (by decide)
  · exact .inl (by decide)
  · exact absurd st (by decide)
  · exact absurd st (by decide)

theorem no_voter : ∀ ch, ¬Counted Detector.cold ch := by
  intro ch h
  obtain ⟨lo, hi, st, -⟩ := h
  have : ch = 1 ∨ ch = 2 ∨ ch = 3 ∨ ch = 4 ∨ ch = 5 ∨ ch = 6 := by omega
  rcases this with rfl | rfl | rfl | rfl | rfl | rfl <;> exact absurd st (by decide)

/-- The same with a full table of records with these pins, each CLOSED and acknowledged up to sequence 31. -/
def votedFull (pins : Nat) : State :=
  voted.onEv fun e => { e with
    records := (List.range 32).map fun n => { openRecord with seq := n + 1, closed := true, pins := pins }
    unreadProtection := true, cursors := ⟨31, 31, 31⟩ }

/-- Four holds, of which two stand at the lowest mark, on both sides of the wrap of the sequence. -/
def fourHolds : State :=
  running.onAcq fun a => { a with
    ring := [frameOf 100, frameOf 101]
    holds := [⟨8, 3, none⟩, ⟨7, 4294967290, none⟩, ⟨6, 4294967290, none⟩, ⟨9, 4, none⟩] }

theorem witness_EventsAreDeclaredAndClosed_full :
    EarliestCounted (votedFull 0).det 2 ∧ (votedFull 0).det.episode = .none ∧
      (votedFull 0).det.cfg.threshold ≤ voteSum (votedFull 0).det ∧ (votedFull 0).nt.slots.length = 12 ∧
      32 ≤ (votedFull 0).ev.records.length ∧
      (∃ out ∈ (votedFull 0).ev.records, out.seq = 1 ∧ out.closed = true ∧ out.pins = 0 ∧
        (∀ p, out.seq ≤ (votedFull 0).ev.cursors.get p) ∧ ∀ r ∈ (votedFull 0).ev.records, out.seq ≤ r.seq) ∧
      EarliestCounted (votedFull 1).det 2 ∧ (votedFull 1).det.episode = .none ∧ 32 ≤ (votedFull 1).ev.records.length ∧
      ∀ r ∈ (votedFull 1).ev.records, 0 < r.pins := by
  refine ⟨earliest_voter, rfl, by decide +kernel, by decide +kernel, by decide +kernel, ?_, earliest_voter, rfl, by decide +kernel,
    by decide +kernel⟩
  exact ⟨{ openRecord with seq := 1, closed := true, pins := 0 }, .head _, rfl, rfl, rfl, fun p => by cases p <;> decide,
    by decide +kernel⟩

theorem witness_EpisodesJoinAndRise_fullHolds :
    (∀ e ∈ fourHolds.acq.holds, e.event ≠ 5) ∧ 4 ≤ fourHolds.acq.holds.length ∧
      fourHolds.acq.ring = [frameOf 100, frameOf 101] ∧ (⟨6, 4294967290, none⟩ : HoldEntry) ∈ fourHolds.acq.holds ∧
      ∀ e ∈ fourHolds.acq.holds, e ≠ ⟨6, 4294967290, none⟩ →
        (let d := (e.mark + (2 ^ 32 - 4294967290 % 2 ^ 32)) % 2 ^ 32; 0 < d ∧ d < 2 ^ 31) ∨
          (e.mark = 4294967290 ∧ 6 < e.event) := by decide +kernel

theorem witness_EventsAreDeclaredAndClosed :
    EarliestCounted voted.det 2 ∧ voted.det.episode = .none ∧ voted.det.cfg.threshold ≤ voteSum voted.det ∧
      voted.nt.slots.length = 12 ∧
      ready.ev.records.length < 32 ∧ 32 ≤ fullTable.ev.records.length ∧
      (∀ r ∈ fullTable.ev.records, r.closed = false ∨ 0 < r.pins) ∧ (slotAt 0 ready).state = .empty ∧
      (∀ m, m < 12 → (slotAt m (ready.onNt fun nt => { nt with slots := List.replicate 12 { Slot.clear with state := .held } })).state
        ≠ .empty ∧ (slotAt m (ready.onNt fun nt => { nt with slots := List.replicate 12 { Slot.clear with state := .held } })).state
        ≠ .waiting) ∧ ((opened none).onDet fun d => { d with episode := .lost }).det.episode = .lost ∧
      (opened none).det.episode = .opened 5 ∧ (∃ p ∈ (opened none).det.participants, p.reason = none) ∧
      (∀ p ∈ (opened (some .ratio)).det.participants, p.reason ≠ none) :=
  ⟨earliest_voter, by decide +kernel⟩

theorem witness_FramesFormGapsAndVotes :
    (let gap (n : Nat) (x : Option Samples) : Frame := { frameOf 9 with stepGap := some n, samples := x }
     (gap 3 none).stepGap ≠ some 0 ∧ Detector.cold.gapRun + 3 + 1 ≤ 4 ∧ 4 < Detector.cold.gapRun + 4 + 1 ∧
       (gap 0 none).stepGap = some 0 ∧ (gap 3 none).samples = none ∧ (frameOf 9).samples = some ⟨1, 2, 3, 4, 5, 6⟩) ∧
      (∀ ch, ¬Counted Detector.cold ch) ∧ EarliestCounted voters 2 ∧ voted.det.episode = .none ∧
      voteSum ({ voters with cfg := { voters.cfg with threshold := 4 } }) < 4 := by
  exact ⟨by decide, no_voter, earliest_voter, rfl, by decide⟩

/-- The participants of a declaration come by their trigger frames: 2, then 4, then 1, the last two saturated (R88). -/
theorem test_participants_by_trigger_frame :
    (declaredParticipants voters 7).map (fun p => (p.channel, p.offset)) = [(2, 0), (4, 65535), (1, 65535)] := by decide

/-- The vote counts 1, 2 and 4, and a frame below the threshold declares nothing (R87). -/
theorem test_vote_sum : voteSum voters = 3 := by decide

theorem witness_EpisodesJoinAndRise :
    (∀ p ∈ (opened none).det.participants, p.channel ≠ 2) ∧ (∃ p ∈ (opened none).det.participants, p.channel = 1) ∧
      (opened none).det.episode = .opened 5 ∧
      ((opened none).onDet fun d => { d with episode := .lost }).det.episode = .lost ∧
      (∃ e ∈ (fullRing 100).acq.holds, e.event = 5) ∧ (∀ e ∈ (fullRing 100).acq.holds, e.event ≠ 7) ∧
      (fullRing 100).acq.holds.length < 4 ∧
      (fullRing 100).acq.ring = frameOf 100 :: (frameOf 101 :: List.replicate 8190 (frameOf 102)) ∧
      (∃ seq, (opened none).det.episode = .opened seq) ∧ (opened none).det.quiet = false ∧
      ((ready.onDet fun d => { d with quiet := true }).det.quiet = true ∧ ready.det.episode = .none ∧
        ∀ ch, 1 ≤ ch → ch ≤ 6 → (ready.det.channels.get ch).state ≠ .triggered) := by
  refine ⟨by decide, by decide, rfl, rfl, ⟨⟨5, 100, none⟩, .head _, rfl⟩, ?_, (by decide : 2 < 4), rfl, ⟨5, rfl⟩, rfl, rfl, rfl, ?_⟩
  · intro e h
    have h : e ∈ ([⟨5, 100, none⟩, ⟨6, 101, none⟩] : List HoldEntry) := h
    rcases List.mem_cons.1 h with rfl | h
    · decide
    · rcases List.mem_cons.1 h with rfl | h
      · decide
      · exact absurd h (List.not_mem_nil)
  · intro ch lo hi
    have : ch = 1 ∨ ch = 2 ∨ ch = 3 ∨ ch = 4 ∨ ch = 5 ∨ ch = 6 := by omega
    rcases this with rfl | rfl | rfl | rfl | rfl | rfl <;> decide

/-- One slot of each view: slot 3 waits at URGENT below its floor, slot 4 at ALARM, slot 5 at ROUTINE in a pause. -/
def viewing : State :=
  ((withSlot 3 { slotText .waiting (.port .a) with cls := .urgent }
    (withSlot 4 (slotText .waiting (.port .a))
      (withSlot 5 { slotText .waiting (.port .a) with cls := .routine } radioUp))).onPw fun pw =>
        { pw with soc := 149, act := { pw.act with routineFloor := 149 } }).onLink fun l => { l with pause := some 2000000000 }

theorem witness_RadioIsAskedForAndListenedTo :
    radioUp.link.cfg.listenLength * 10000000 + radioUp.link.cfg.warmup * 1000000 <
        radioUp.link.cfg.listenInterval * 10000000 ∧
      viewing.nt.slots.length = 12 ∧ viewing.nt.energyHolds ≤ 65535 ∧ (slotAt 3 viewing).state = .waiting ∧
      viewing.pw.soc < viewing.pw.act.urgentFloor ∧ (slotAt 3 viewing).view = .notWaiting ∧ StartAllowed 4 viewing ∧
      (slotAt 5 viewing).state = .waiting ∧ ¬viewing.pw.soc < viewing.pw.act.routineFloor ∧ ¬StartAllowed 5 viewing ∧
      (slotAt 6 viewing).state ≠ .waiting :=
  ⟨by decide, by decide +kernel, by decide, rfl, by decide, rfl, (show LinkState.clear = .clear ∨ _ from .inl rfl), rfl, by decide,
    (fun h => nomatch h.2.1), by decide⟩

/-- A floor that has come to refuse a waiting notice is counted once (R138). -/
theorem test_energy_hold : (countEnergyHolds viewing).nt.energyHolds = 1 ∧
    (countEnergyHolds (countEnergyHolds viewing)).nt.energyHolds = 1 := by decide +kernel

/-- Slot 2 is an open ROUTINE notice that waits and slot 7 waits at the given class. -/
def rivals (cls : NoticeClass) : State :=
  withSlot 2 { slotText .waiting (.port .a) with cls := .routine, nextSegment := 1, preemptible := true }
    (withSlot 7 { slotText .waiting (.port .b) with cls := cls } (radioUp.onPw fun pw => { pw with soc := 300 }))

/-- A stack of two entries, the lower preempted by slot `by'`, the upper by slot 9. -/
def stacked (by' : Nat) : State :=
  withSlot 4 { slotText .preempted (.port .a) with cls := .routine, nextSegment := 1 }
    (withSlot 5 { slotText .preempted (.port .a) with cls := .urgent, nextSegment := 2 }
      (radioUp.onNt fun nt => { nt with stack := [⟨4, 1, .routine, by'⟩, ⟨5, 2, .urgent, 9⟩] }))

theorem witness_ThePreemptionStackMoves :
    openNotice radioUp = none ∧ openNotice (rivals .urgent) = some 2 ∧ (slotAt 2 (rivals .urgent)).preemptible = true ∧
      (slotAt 2 (rivals .urgent)).state = .waiting ∧ (rivals .urgent).nt.stack = [] ∧
      (slotAt 7 (rivals .urgent)).state = .waiting ∧
      (slotAt 2 (rivals .urgent)).cls.code < (slotAt 7 (rivals .urgent)).cls.code ∧
      ¬(slotAt 2 (rivals .routine)).cls.code < (slotAt 7 (rivals .routine)).cls.code ∧
      2 < (rivals .urgent).nt.slots.length ∧ (∀ e ∈ (stacked 8).nt.stack, e.by' ≠ 3) ∧
      (stacked 8).nt.stack = [⟨4, 1, .routine, 8⟩] ++ [⟨5, 2, .urgent, 9⟩] ∧ ((⟨4, 1, .routine, 8⟩ : StackEntry)).by' ≠ 9 ∧
      (stacked 9).nt.stack = [⟨4, 1, .routine, 9⟩, ⟨5, 2, .urgent, 9⟩] ∧ (slotAt 2 (rivals .urgent)).responder = false ∧
      ({ slotAt 2 (rivals .urgent) with responder := true }).responder = true := by decide +kernel

/-- The pushed slot and the slot that is sent in its place (R139), and a slot that preempted both entries ends (R144). -/
theorem test_push_and_pop :
    selectNotice (rivals .urgent) = some (7, some 2) ∧ selectNotice (rivals .routine) = some (2, none) ∧
      (pushNotice 2 7 (rivals .urgent)).nt.stack = [⟨2, 1, .routine, 7⟩] ∧
      (endPreempting 9 (stacked 9)).nt.stack = [⟨4, 1, .routine, 5⟩] ∧
      (slotAt 5 (endPreempting 9 (stacked 9))).state = .waiting ∧
      (slotAt 4 (endPreempting 9 (stacked 9))).state = .preempted := by decide +kernel

/-- Slot 6 names event 5 in a QUAKE_DECLARED notice. -/
def named (st : SlotState) : State :=
  withSlot 6 { slotText st .detector with kind := .quakeDeclared, cls := .urgent, event := some 5 } (opened none)

theorem witness_PayloadsAreBuiltAndEscalated :
    (slotAt 6 (named .waiting)).event = some 5 ∧ (named .waiting).ev.records = [] ++ openRecord :: [] ∧
      openRecord.seq = 5 ∧ (∀ x ∈ ([] : List Record), x.seq ≠ 5) ∧ (slotAt 6 (named .waiting)).kind = .quakeDeclared ∧
      (slotText .held (.port .a)).payload = some (zeros 70) ∧ (slotText .held (.port .a)).kind = .text ∧
      (∀ n, n < 12 → (slotAt n (opened none)).kind ≠ .quakeDeclared) ∧ (slotAt 6 (named .sending)).state ≠ .waiting ∧
      (slotAt 6 (named .sending)).state ≠ .backoff ∧ (slotAt 6 (named .backoff)).state = .backoff ∧
      (∀ m, m < 6 → (slotAt m (named .backoff)).kind ≠ .quakeDeclared) := by decide +kernel

/-- The payload of a POWER notice without a level, at 14,000 mV and −0.5 °C (R137). -/
theorem test_power_payload :
    buildPayload { Slot.clear with kind := .power, reason := .coldHold }
      (ready.onPw fun pw => { pw with
        soc := 500, vb := { pw.vb with value := 14000 }, tb := { pw.tb with value := -5 } }) =
      [4, 2, 0xFF, 0x01, 0xF4, 0x36, 0xB0, 0xFF, 0xFB] := by decide +kernel

/-! ### Behaviours that the review asked for -/

/-- An off-match at the next boundary does not fire (R34). -/
theorem test_off_match_at_boundary :
    let s := onPaired .hb (fun p => { p with offMatch := some 50000000000 }) heated
    after (.heaterOffMatch .hb) s = s := by decide +kernel

/-- A channel that turns OFF keeps its warm-up count (R77, R78). -/
theorem test_off_keeps_warm :
    let s := ready.onDet fun d => { d with channels := d.channels.update 1 fun c => { c with warm := 9 } }
    let args (enabled : Byte) : List Byte := [1, enabled, 1, 8, 3, 10, 48, 24, 0, 64, 1]
    ((after (.setDetectorChannel .a 1 (args 0)) s).det.channels.c1.warm,
      (after (.setDetectorChannel .a 1 (args 1)) s).det.channels.c1.warm) = (9, 0) := by decide +kernel

/-- A last gasp while the slot of an earlier one has not ended asks for no second notice (R171). -/
theorem test_gasp_slot_serves :
    let s := (atLevel .survival).onPw fun pw => { pw with cutoffCount := 10, gaspRef := some 3 }
    let t := after .lastGaspStart (withSlot 3 { slotText .waiting .power with kind := .power } s)
    t.nt.slots.length = 12 ∧ (slotAt 0 t).state = .empty ∧ t.pw.lastGasp.isSome = true ∧ t.pw.level = some .critical := by
  decide +kernel

/-- Bytes that do not end a reception yet are collected, and the 200 ms run from them (R119). -/
theorem test_bytes_are_collected :
    let s := hearing.onPace fun p => { p with cycles := 999999999 }
    let t := after (.badFrame [0x7E]) s
    (t.link.reception.map fun r => (r.bytes, r.lastByte)) = some ([0x7E], 999999999) ∧
      (after .receptionTimeout t).link.reception.isSome = true ∧
      (after .receptionTimeout (t.onPace fun p => { p with cycles := 1001999999 })).link.reception.isSome = false := by
  decide +kernel

/-- UNVERIFIED clears as the empty count reaches 10, and stands if it is set afterwards (R159). -/
theorem test_empty_recalibration :
    let s (n : Nat) := ready.onPw fun pw => { pw with emptyCount := n }
    let r : Readings := ⟨11000, -100, 200, 200, 200, 0⟩
    ((after (.emptyRecalibration r) (s 9)).pw.unverified, (after (.emptyRecalibration r) (s 10)).pw.unverified) =
      (false, true) := by decide +kernel

/-- SET_DISCIPLINE raises the limit past the uncertainty; the next growth above it asks for GNSS (R57). -/
theorem test_refresh_rises :
    let s := { aboveLimit with
      disc := { aboveLimit.disc with
        cfg := { aboveLimit.disc.cfg with refreshLimit := aboveLimit.tb.uncertainty }, takenLow := false } }
    (after .disciplineSecond s).disc.refresh.isSome = true ∧
      (after .disciplineSecond { s with disc := { s.disc with cfg := aboveLimit.disc.cfg } }).disc.refresh = none := by
  decide +kernel

/-! ### States that meet the bounds, and a step from each -/

theorem none_some {α : Type} {o : Option α} {P : α → Prop} (h : o = none) : ∀ x, o = some x → P x := by
  intro x e; rw [h] at e; cases e

/-- Cycles wait. -/
def waiting : State := { fast with pending := [.oscillatorCycle, .accountingSecond ⟨13000, 0, 200, 200, 200, 0⟩] }

theorem witness_StepsKeepFractionAndCapacities :
    FractionOk waiting ∧ CapacityOk waiting ∧ step waiting = .next (after .oscillatorCycle { waiting with pending := waiting.pending.tail }) := by
  refine ⟨by unfold FractionOk; decide +kernel, ⟨by decide +kernel, by decide +kernel, by decide +kernel, by decide +kernel,
    by decide +kernel, by decide +kernel, none_some rfl, none_some rfl⟩, rfl⟩

theorem witness_StepsKeepTheChargeAccount :
    AccountOk waiting ∧ step waiting = .next (after .oscillatorCycle { waiting with pending := waiting.pending.tail }) := by
  refine ⟨by unfold AccountOk; decide +kernel, rfl⟩

/-- A full stack, with slot 9 on air. -/
def preempting : State :=
  withSlot 9 { slotText .sending (.port .a) with segments := 3 }
    ((stacked 5).onLink fun l => { l with tx := .onAir (zeros 42) (.segment 9) 999999999 9600 })

theorem witness_StepsKeepTheStack :
    StackOk preempting ∧ step { preempting with pending := [.markerCapture] } = .next (after .markerCapture preempting) := by
  refine ⟨⟨by decide +kernel, by decide, ?_, ?_, ?_, ?_, ?_, ?_, ?_⟩, rfl⟩
  · exact List.pairwise_cons.2 ⟨fun e h => by cases List.mem_singleton.1 h; decide, List.pairwise_singleton _ _⟩
  · intro e h
    have h : e ∈ ([⟨4, 1, .routine, 5⟩, ⟨5, 2, .urgent, 9⟩] : List StackEntry) := h
    rcases List.mem_cons.1 h with rfl | h
    · decide
    · cases List.mem_singleton.1 h; decide
  · intro n
    by_cases h : n < 12
    · have few : ∀ n, n < 12 → ((slotAt n preempting).state = .preempted ↔ ∃ e ∈ preempting.nt.stack, e.slot = n) := by
        decide +kernel
      exact few n h
    · have size : preempting.nt.slots.length = 12 := by decide +kernel
      have gone : preempting.nt.slots[n]? = none := List.getElem?_eq_none (by omega)
      constructor
      · intro p
        simp [slotAt, gone, Slot.clear] at p
      · rintro ⟨e, m, rfl⟩
        have few : ∀ e ∈ preempting.nt.stack, e.slot < 12 := by decide
        exact absurd (few e m) h
  · intro n frame leadEnd rate e; cases e
  · intro n frame start rate e; cases e; decide +kernel
  · intro w n e; cases e
  · intro; rfl

theorem witness_StepsKeepTheRights :
    AllRightsOk State.reset ∧ step State.reset = .next State.reset := by
  refine ⟨⟨?_, none_some rfl, none_some rfl⟩, rfl⟩
  unfold RightsOk; decide +kernel

theorem witness_LoadsAreOnOnlyWhenAllowed :
    LoadsAllowed (sensorIs .critical 30 true) ∧ step (sensorIs .critical 30 true) = .next (sensorIs .critical 30 true) := by
  refine ⟨?_, rfl⟩
  intro l h; cases l <;> first | rfl | exact absurd h (by decide)

theorem witness_HeaterDutiesStayUnderTheirCaps :
    HeaterOk waiting ∧ step waiting = .next (after .oscillatorCycle { waiting with pending := waiting.pending.tail }) := by
  refine ⟨⟨by decide, rfl, ⟨?_, by decide⟩, none_some rfl, none_some rfl, ?_⟩, rfl⟩
  · intro h l; cases h <;> cases l <;> decide
  · intro h; cases h <;> exact ⟨rfl, by decide, by decide, none_some rfl⟩

end Sys2Proof.Tests
end

section
/-! What every command but the oscillator cycle and the cold reset keeps: the queue, the fraction F and the capacities
(R2, R53, R65, R70, R102, R130, section 8.1). One lemma per shared operation, in the order of the model's files; the
lemma says that an operation done after a change that keeps these keeps them too, so that lemmas chain as the
operations do. -/

namespace Sys2Proof.Machine

/-- The queue and F are those of `s`, and the tables are within their capacities where they were in `s`. -/
structure KeepsBounds (s t : State) : Prop where
  pending : t.pending = s.pending
  fraction : t.tb.f = s.tb.f
  capacity : CapacityOk s → CapacityOk t

theorem KeepsBounds.refl (s : State) : KeepsBounds s s := ⟨rfl, rfl, id⟩

theorem KeepsBounds.trans {s t u : State} (h : KeepsBounds s t) (k : KeepsBounds t u) : KeepsBounds s u :=
  ⟨k.pending.trans h.pending, k.fraction.trans h.fraction, fun c => k.capacity (h.capacity c)⟩

variable {s t : State}

/-! ### One block changed -/

theorem State.onPace_bounds {f : Pace → Pace} (h : KeepsBounds s t) : KeepsBounds s (t.onPace f) :=
  ⟨h.pending, h.fraction, h.capacity⟩
theorem State.onCcu_bounds {f : Ccu → Ccu} (h : KeepsBounds s t) : KeepsBounds s (t.onCcu f) :=
  ⟨h.pending, h.fraction, h.capacity⟩
theorem State.onDet_bounds {f : Detector → Detector} (h : KeepsBounds s t) : KeepsBounds s (t.onDet f) :=
  ⟨h.pending, h.fraction, h.capacity⟩
theorem State.onPw_bounds {f : Power → Power} (h : KeepsBounds s t) : KeepsBounds s (t.onPw f) :=
  ⟨h.pending, h.fraction, h.capacity⟩
theorem State.onHt_bounds {f : HeaterUnit → HeaterUnit} (h : KeepsBounds s t) : KeepsBounds s (t.onHt f) :=
  ⟨h.pending, h.fraction, h.capacity⟩
theorem State.onPorts_bounds {f : PerPort PortRec → PerPort PortRec} (h : KeepsBounds s t) :
    KeepsBounds s (t.onPorts f) := ⟨h.pending, h.fraction, h.capacity⟩
theorem State.onPort_bounds {p : Port} {f : PortRec → PortRec} (h : KeepsBounds s t) : KeepsBounds s (t.onPort p f) :=
  State.onPorts_bounds h
theorem State.onLoad_bounds {l : Load} {f : LoadRec → LoadRec} (h : KeepsBounds s t) : KeepsBounds s (t.onLoad l f) :=
  State.onPw_bounds h

theorem State.onTb_bounds {f : Timebase → Timebase} (h : KeepsBounds s t)
    (hf : (f t.tb).f = t.tb.f) : KeepsBounds s (t.onTb f) := ⟨h.pending, hf.trans h.fraction, h.capacity⟩

theorem State.onDisc_bounds {f : Discipline → Discipline} (h : KeepsBounds s t)
    (hf : (f t.disc).bins.length = t.disc.bins.length) : KeepsBounds s (t.onDisc f) := by
  refine ⟨h.pending, h.fraction, fun c => ?_⟩
  obtain ⟨ring, holds, records, replies, slots, bins, stored⟩ := h.capacity c
  exact ⟨ring, holds, records, replies, slots, hf.trans bins, stored⟩

theorem State.onAcq_bounds {f : Acquisition → Acquisition} (h : KeepsBounds s t)
    (hr : t.acq.ring.length ≤ 8192 → (f t.acq).ring.length ≤ 8192)
    (hh : t.acq.holds.length ≤ 4 → (f t.acq).holds.length ≤ 4) : KeepsBounds s (t.onAcq f) := by
  refine ⟨h.pending, h.fraction, fun c => ?_⟩
  obtain ⟨ring, holds, rest⟩ := h.capacity c
  exact ⟨hr ring, hh holds, rest⟩

theorem State.onEv_bounds {f : EventTable → EventTable} (h : KeepsBounds s t)
    (hf : t.ev.records.length ≤ 32 → (f t.ev).records.length ≤ 32) : KeepsBounds s (t.onEv f) := by
  refine ⟨h.pending, h.fraction, fun c => ?_⟩
  obtain ⟨ring, holds, records, rest⟩ := h.capacity c
  exact ⟨ring, holds, hf records, rest⟩

theorem State.onLink_bounds {f : Link → Link} (h : KeepsBounds s t)
    (hf : t.link.replies.length ≤ 4 → (f t.link).replies.length ≤ 4) : KeepsBounds s (t.onLink f) := by
  refine ⟨h.pending, h.fraction, fun c => ?_⟩
  obtain ⟨ring, holds, records, replies, rest⟩ := h.capacity c
  exact ⟨ring, holds, records, hf replies, rest⟩

theorem State.onNt_bounds {f : NoticeTable → NoticeTable} (h : KeepsBounds s t)
    (hf : (f t.nt).slots.length = t.nt.slots.length) : KeepsBounds s (t.onNt f) := by
  refine ⟨h.pending, h.fraction, fun c => ?_⟩
  obtain ⟨ring, holds, records, replies, slots, rest⟩ := h.capacity c
  exact ⟨ring, holds, records, replies, hf.trans slots, rest⟩

/-- A choice between two operations that keep the bounds. -/
theorem ite_bounds {c : Prop} [Decidable c] {x y : State} (hx : KeepsBounds s x) (hy : KeepsBounds s y) :
    KeepsBounds s (if c then x else y) := by split <;> assumption

/-- A fold of operations that keep the bounds. -/
theorem foldl_bounds {α : Type} {f : State → α → State} (hf : ∀ {x a}, KeepsBounds s x → KeepsBounds s (f x a))
    (l : List α) (h : KeepsBounds s t) : KeepsBounds s (l.foldl f t) := by
  induction l generalizing t with
  | nil => exact h
  | cons a l ih => exact ih (hf h)

/-! ### Notifications, requests and replies -/

theorem notify_bounds {p : Port} {k : Kind} (h : KeepsBounds s t) : KeepsBounds s (notify p k t) := State.onPort_bounds h
theorem notifyAll_bounds {k : Kind} (h : KeepsBounds s t) : KeepsBounds s (notifyAll k t) := State.onPorts_bounds h
theorem setAsk_bounds {l : Load} {r : Requester} {v : Ask} (h : KeepsBounds s t) : KeepsBounds s (setAsk l r v t) :=
  State.onLoad_bounds h
theorem replyReady_bounds {p : Port} {st : Status} {tag : Byte} {data : List Byte} (h : KeepsBounds s t) :
    KeepsBounds s (replyReady p st tag data t) := State.onPort_bounds h
theorem portReply_bounds {p : Port} {st : Status} {tag : Byte} (h : KeepsBounds s t) :
    KeepsBounds s (portReply p st tag t) := State.onPort_bounds (State.onPort_bounds (State.onPort_bounds h))

theorem finishReply_bounds {p : Port} {tag : Byte} {a : Answer} (h : KeepsBounds s a.after) :
    KeepsBounds s (finishReply p tag a) := by
  unfold finishReply; repeat' split
  all_goals first | exact h | exact replyReady_bounds h

/-! ### The Event Table -/

theorem updateOpen_bounds {f : Record → Record} (h : KeepsBounds s t) : KeepsBounds s (updateOpen f t) :=
  State.onEv_bounds h (by simp)
theorem updateRecord_bounds {seq : Nat} {f : Record → Record} (h : KeepsBounds s t) :
    KeepsBounds s (updateRecord seq f t) := State.onEv_bounds h (by simp)
theorem closeRecord_bounds {seq : Nat} {x : Time} (h : KeepsBounds s t) : KeepsBounds s (closeRecord seq x t) :=
  notifyAll_bounds (State.onEv_bounds h (by simp))

/-- The lowest sequence of a list is that of one of its records. -/
theorem lowestSeq_mem {rs : List Record} {m : Nat} (h : lowestSeq rs = some m) : ∃ r ∈ rs, r.seq = m := by
  have go : ∀ (l : List Record) (acc : Option Nat), (∀ n, acc = some n → ∃ r ∈ rs, r.seq = n) → (∀ r ∈ l, r ∈ rs) →
      ∀ n, l.foldl (fun acc r => match acc with | none => some r.seq | some m => some (min m r.seq)) acc = some n →
        ∃ r ∈ rs, r.seq = n := by
    intro l
    induction l with
    | nil => intro acc hacc _ n e; exact hacc n e
    | cons r l ih =>
      intro acc hacc hl
      refine ih _ (fun n e => ?_) fun q hq => hl q (List.mem_cons_of_mem _ hq)
      have hr : r ∈ rs := hl r List.mem_cons_self
      cases acc with
      | none => exact ⟨r, hr, by simpa using e⟩
      | some k =>
        obtain ⟨q, hq, hk⟩ := hacc k rfl
        rcases Nat.le_total k r.seq with hle | hle
        · exact ⟨q, hq, by simpa [Nat.min_eq_left hle, hk] using e⟩
        · exact ⟨r, hr, by simpa [Nat.min_eq_right hle] using e⟩
  exact go rs none (by simp) (fun _ hr => hr) m h

/-- A filter that drops a member leaves fewer. -/
theorem length_filter_lt {α : Type} {p : α → Bool} {l : List α} {a : α} (ha : a ∈ l) (hp : p a = false) :
    (l.filter p).length < l.length :=
  List.length_filter_lt_length_iff_exists.2 ⟨a, ha, by simp [hp]⟩

/-- The records that a declaration goes beside are fewer than 32 (R102). -/
theorem roomForRecord_length {kept : List Record} (h : roomForRecord t = some kept) (hr : t.ev.records.length ≤ 32) :
    kept.length < 32 := by
  unfold roomForRecord at h
  split at h
  next room => cases h; exact room
  next =>
    split at h
    next => cases h
    next m low =>
      cases h
      obtain ⟨r, hmem, hseq⟩ := lowestSeq_mem low
      have := length_filter_lt (p := fun r => r.seq != m) (List.mem_of_mem_filter hmem) (by simp [hseq])
      omega

theorem declareRecord_bounds {make : Nat → Nat → Record} (h : KeepsBounds s t) :
    KeepsBounds s (declareRecord make t).1 := by
  unfold declareRecord; dsimp only; split
  next kept room =>
    exact notifyAll_bounds (State.onEv_bounds h fun hr => by
      have := roomForRecord_length room hr
      simp; omega)
  next => exact State.onEv_bounds (f := fun ev => { ev with
      nextSeq := seqAfterThis t.ev.nextSeq, lost := rollInc seqSpan ev.lost, lostPending := satInc 255 ev.lostPending }) h id

/-! ### The Acquisition Unit -/

theorem ringLostAll_bounds {es : List Nat} (h : KeepsBounds s t) : KeepsBounds s (ringLostAll es t) :=
  foldl_bounds (fun h => updateRecord_bounds h) es h

theorem enterRing_bounds {f : Frame} (h : KeepsBounds s t) : KeepsBounds s (enterRing f t) := by
  have full {oldest : Frame} {rest : List Frame} (e : t.acq.ring = oldest :: rest) :
      t.acq.ring.length ≤ 8192 → (rest ++ [f]).length ≤ 8192 := by simp [e]
  unfold enterRing; split
  next e => exact State.onAcq_bounds h (by simp) id
  next oldest rest e =>
    dsimp only; repeat' split
    next room => exact State.onAcq_bounds h (by simp; omega) id
    all_goals first
      | exact State.onAcq_bounds h (full e) id
      | exact ringLostAll_bounds
          (State.onAcq_bounds h (full e) (by exact fun hh => (List.length_filter_le ..).trans hh))

theorem storeFrame_bounds {fl : InFlight} {x : Option Samples} (h : KeepsBounds s t) :
    KeepsBounds s (storeFrame fl x t) := by
  unfold storeFrame
  exact State.onDet_bounds (enterRing_bounds (State.onAcq_bounds (State.onCcu_bounds h) id id))

theorem storeMissing_bounds {fl : InFlight} (h : KeepsBounds s t) : KeepsBounds s (storeMissing fl t) :=
  storeFrame_bounds (State.onAcq_bounds h id id)

theorem convertStrobe_bounds {x : Time} {passed period : Nat} {mark : Bool} (h : KeepsBounds s t) :
    KeepsBounds s (convertStrobe x passed mark period t) := by
  unfold convertStrobe; dsimp only
  refine State.onAcq_bounds ?_ id id
  repeat' split
  · exact State.onCcu_bounds h
  · exact storeMissing_bounds (State.onAcq_bounds (State.onCcu_bounds h) id id)
  · exact storeMissing_bounds (State.onCcu_bounds h)

theorem strobeByCounting_bounds (h : KeepsBounds s t) : KeepsBounds s (strobeByCounting t) :=
  convertStrobe_bounds (State.onCcu_bounds h)

theorem strobeAtStep_bounds {new : Time} (h : KeepsBounds s t) : KeepsBounds s (strobeAtStep new t) := by
  unfold strobeAtStep; split
  · exact convertStrobe_bounds (State.onCcu_bounds h)
  · exact h

theorem strobeAtSet_bounds {new : Time} (h : KeepsBounds s t) : KeepsBounds s (strobeAtSet new t) := by
  unfold strobeAtSet; split
  · exact h
  · exact convertStrobe_bounds (State.onCcu_bounds h)

theorem releaseHolds_bounds (h : KeepsBounds s t) : KeepsBounds s (releaseHolds t) :=
  State.onAcq_bounds h id (fun hh => (List.length_filter_le ..).trans hh)

theorem closeFrame_bounds {event frame : Nat} (h : KeepsBounds s t) : KeepsBounds s (closeFrame event frame t) :=
  releaseHolds_bounds (State.onAcq_bounds h id (by simp))

/-- The entry that a full list gives up is one of the list. -/
theorem foldl_lowerEntry_mem (first : HoldEntry) (rest : List HoldEntry) :
    rest.foldl lowerEntry first ∈ first :: rest := by
  induction rest generalizing first with
  | nil => simp
  | cons e rest ih =>
    have pick : lowerEntry first e = first ∨ lowerEntry first e = e := by
      unfold lowerEntry; repeat' split
      all_goals simp
    have := ih (lowerEntry first e)
    rcases pick with hp | hp <;> rw [hp] at this <;> simp only [List.foldl_cons, hp, List.mem_cons] at this ⊢ <;> tauto

theorem holdRequest_bounds {event onset : Nat} (h : KeepsBounds s t) : KeepsBounds s (holdRequest event onset t) := by
  unfold holdRequest; split
  · exact h
  · dsimp only; split
    next => exact State.onAcq_bounds h id (by simp)
    next first rest e =>
      split
      next room => exact State.onAcq_bounds h id (by simp; omega)
      next =>
        refine updateRecord_bounds (State.onAcq_bounds h id (fun hh => ?_))
        have := length_filter_lt (p := fun x => x != rest.foldl lowerEntry first)
          (e ▸ foldl_lowerEntry_mem first rest) (by simp)
        simp only [List.length_append, List.length_singleton]
        omega

/-! ### Heaters -/

theorem onPaired_bounds {k : Heater} {f : Paired → Paired} (h : KeepsBounds s t) : KeepsBounds s (onPaired k f t) :=
  State.onCcu_bounds h
theorem onThermostat_bounds {k : Heater} {f : Thermostat → Thermostat} (h : KeepsBounds s t) :
    KeepsBounds s (onThermostat k f t) := State.onHt_bounds h

theorem driveOutput_bounds {k : Heater} {level sw : Bool} {x : Time} (h : KeepsBounds s t) :
    KeepsBounds s (driveOutput k level x sw t) := by
  have edge : KeepsBounds s
      (((onThermostat k (fun u => { u with edges := rollInc seqSpan u.edges, lastEdge := some x })
        (onPaired k (fun p => { p with output := level }) t)).onDet fun d => { d with lastEdge := some x }).onAcq
          fun a => { a with edgePending := true }) :=
    State.onAcq_bounds (State.onDet_bounds (onThermostat_bounds (onPaired_bounds h))) id id
  unfold driveOutput; dsimp only; repeat' split
  · exact h
  · exact updateOpen_bounds edge
  · exact edge

theorem releaseAtLimit_bounds {k : Heater} (h : KeepsBounds s t) : KeepsBounds s (releaseAtLimit k t) :=
  driveOutput_bounds (onThermostat_bounds (onPaired_bounds h))

theorem firingCallsFor_bounds {k : Heater} {level : Bool} {x : Time} (h : KeepsBounds s t) :
    KeepsBounds s (firingCallsFor k level x t) := by
  unfold firingCallsFor; dsimp only; repeat' split
  · exact releaseAtLimit_bounds (onThermostat_bounds h)
  · exact onThermostat_bounds h
  · exact h
  · exact driveOutput_bounds h

theorem boundaryFires_bounds {k : Heater} (h : KeepsBounds s t) : KeepsBounds s (boundaryFires k t) :=
  firingCallsFor_bounds (onPaired_bounds h)

theorem pairedStep_bounds {k : Heater} {new : Time} (h : KeepsBounds s t) : KeepsBounds s (pairedStep k new t) := by
  unfold pairedStep; dsimp only; repeat' split
  · exact firingCallsFor_bounds (onPaired_bounds h)
  · exact h
  · exact firingCallsFor_bounds h
  · exact h

theorem pairedSet_bounds {k : Heater} {new : Time} (h : KeepsBounds s t) : KeepsBounds s (pairedSet k new t) := by
  unfold pairedSet; dsimp only; split
  · exact h
  · exact firingCallsFor_bounds (onPaired_bounds h)

theorem cutHeater_bounds {k : Heater} {v : Nat} (h : KeepsBounds s t) : KeepsBounds s (cutHeater k v t) := by
  unfold cutHeater; dsimp only; repeat' split
  · exact h
  · exact driveOutput_bounds (onPaired_bounds h)
  · exact onPaired_bounds h

theorem quietHeater_bounds {k : Heater} {q : Bool} (h : KeepsBounds s t) : KeepsBounds s (quietHeater k q t) := by
  unfold quietHeater; dsimp only; repeat' split
  · exact onPaired_bounds (onThermostat_bounds h)
  · exact h
  · exact driveOutput_bounds (onPaired_bounds (onThermostat_bounds h))
  · exact onPaired_bounds (onThermostat_bounds h)

theorem reportQuiet_bounds {q : Bool} (h : KeepsBounds s t) : KeepsBounds s (reportQuiet q t) :=
  quietHeater_bounds (quietHeater_bounds (State.onHt_bounds h))

theorem formCap_bounds {k : Heater} (h : KeepsBounds s t) : KeepsBounds s (formCap k t) := by
  unfold formCap; dsimp only; split
  · exact cutHeater_bounds (onThermostat_bounds h)
  · exact onThermostat_bounds h

theorem formCaps_bounds (h : KeepsBounds s t) : KeepsBounds s (formCaps t) := formCap_bounds (formCap_bounds h)

theorem startHeaters_bounds (h : KeepsBounds s t) : KeepsBounds s (startHeaters t) := by
  unfold startHeaters
  exact State.onPace_bounds (onPaired_bounds (onPaired_bounds h))

theorem computeHeater_bounds {k : Heater} (h : KeepsBounds s t) : KeepsBounds s (computeHeater k t) :=
  onPaired_bounds (onThermostat_bounds h)

theorem testVault_bounds (h : KeepsBounds s t) : KeepsBounds s (testVault t) := by
  unfold testVault; dsimp only; repeat' split
  · exact h
  · exact State.onHt_bounds h
  · exact h
  · exact cutHeater_bounds (onThermostat_bounds (cutHeater_bounds (onThermostat_bounds (State.onHt_bounds h))))
  · exact h

theorem applyLimit_bounds {k : Heater} (h : KeepsBounds s t) : KeepsBounds s (applyLimit k t) := by
  unfold applyLimit; repeat' split
  · exact releaseAtLimit_bounds h
  all_goals exact h

/-! ### Notice slots -/

theorem onSlot_bounds {n : Nat} {f : Slot → Slot} (h : KeepsBounds s t) : KeepsBounds s (onSlot n f t) :=
  State.onNt_bounds h (by simp)

theorem alarmWaiting_bounds (h : KeepsBounds s t) : KeepsBounds s (alarmWaiting t) := by
  unfold alarmWaiting; split
  · exact State.onLink_bounds h id
  · exact h

theorem waitAgain_bounds {n : Nat} (h : KeepsBounds s t) : KeepsBounds s (waitAgain n t) := by
  unfold waitAgain; split
  · exact alarmWaiting_bounds (onSlot_bounds h)
  · exact onSlot_bounds h

theorem waitWithTag_bounds {n : Nat} (h : KeepsBounds s t) : KeepsBounds s (waitWithTag n t) :=
  waitAgain_bounds (onSlot_bounds (State.onNt_bounds h rfl))

theorem dropEntry_bounds {i : Nat} (h : KeepsBounds s t) : KeepsBounds s (dropEntry i t) := State.onNt_bounds h rfl
theorem setPreempting_bounds {i m : Nat} (h : KeepsBounds s t) : KeepsBounds s (setPreempting i m t) :=
  State.onNt_bounds h rfl

theorem endEntry_bounds {n i : Nat} (h : KeepsBounds s t) : KeepsBounds s (endEntry n i t) := by
  unfold endEntry; repeat' split
  all_goals first | exact h | exact setPreempting_bounds h | exact waitAgain_bounds (dropEntry_bounds h)

theorem endPreempting_bounds {n : Nat} (h : KeepsBounds s t) : KeepsBounds s (endPreempting n t) :=
  foldl_bounds (fun h => endEntry_bounds h) _ h

theorem removeEntryOf_bounds {n : Nat} (h : KeepsBounds s t) : KeepsBounds s (removeEntryOf n t) := by
  unfold removeEntryOf; repeat' split
  all_goals first | exact h | exact dropEntry_bounds h | exact setPreempting_bounds (dropEntry_bounds h)

theorem pushNotice_bounds {o n : Nat} (h : KeepsBounds s t) : KeepsBounds s (pushNotice o n t) :=
  onSlot_bounds (State.onNt_bounds h rfl)

theorem emptySlot_bounds {n : Nat} (h : KeepsBounds s t) : KeepsBounds s (emptySlot n t) := by
  unfold emptySlot; dsimp only; split
  · exact onSlot_bounds h
  · exact updateRecord_bounds (onSlot_bounds h)

theorem tellOrigin_bounds {n : Nat} {o : NoticeOrigin} (h : KeepsBounds s t) : KeepsBounds s (tellOrigin n o t) := by
  unfold tellOrigin; split
  · exact State.onTb_bounds h rfl
  · exact State.onPw_bounds h
  all_goals exact h

theorem serveOrigin_bounds {n : Nat} (h : KeepsBounds s t) : KeepsBounds s (serveOrigin n t) := by
  unfold serveOrigin; dsimp only; repeat' split
  all_goals first
    | exact notify_bounds h
    | exact emptySlot_bounds h
    | exact emptySlot_bounds (notify_bounds h)
    | exact emptySlot_bounds (updateRecord_bounds h)
    | exact emptySlot_bounds (tellOrigin_bounds h)

theorem finishSlot_bounds {n : Nat} {st : SlotState} {o : SlotOutcome} (h : KeepsBounds s t) :
    KeepsBounds s (finishSlot n st o t) := serveOrigin_bounds (endPreempting_bounds (onSlot_bounds h))

theorem completeResponder_bounds {n : Nat} {o : SlotOutcome} (h : KeepsBounds s t) :
    KeepsBounds s (completeResponder n o t) := by
  unfold completeResponder; dsimp only
  refine endPreempting_bounds ?_
  split
  · exact notify_bounds (onSlot_bounds h)
  all_goals exact onSlot_bounds h

theorem endNotice_bounds {n : Nat} {d : Bool} (h : KeepsBounds s t) : KeepsBounds s (endNotice n d t) := by
  unfold endNotice; dsimp only; split
  · exact completeResponder_bounds h
  · exact finishSlot_bounds h

theorem abortSlot_bounds {n : Nat} (h : KeepsBounds s t) : KeepsBounds s (abortSlot n t) := finishSlot_bounds h

theorem obtainSlot_bounds {c : NoticeClass} (h : KeepsBounds s t) : KeepsBounds s (obtainSlot c t).1 := by
  unfold obtainSlot; repeat' split
  all_goals dsimp only
  all_goals first | exact h | exact State.onNt_bounds (finishSlot_bounds h) rfl

theorem requestNotice_bounds {a : NoticeAsk} (h : KeepsBounds s t) : KeepsBounds s (requestNotice a t).1 := by
  have obtained := obtainSlot_bounds (c := a.cls) h
  unfold requestNotice
  revert obtained
  generalize obtainSlot a.cls t = o
  obtain ⟨x, slot⟩ := o
  intro obtained
  cases slot with
  | none =>
    have counted : KeepsBounds s (x.onNt fun nt => { nt with unqueued := satInc 65535 nt.unqueued }) :=
      State.onNt_bounds obtained rfl
    cases a.event with
    | none => exact counted
    | some e => exact updateRecord_bounds counted
  | some n =>
    cases a.event with
    | none => exact waitWithTag_bounds (onSlot_bounds obtained)
    | some e => exact waitWithTag_bounds (updateRecord_bounds (updateRecord_bounds (onSlot_bounds obtained)))

theorem quakeNotice_bounds {k : NoticeKind} {c : NoticeClass} {e : Nat} (h : KeepsBounds s t) :
    KeepsBounds s (quakeNotice k c e t) := requestNotice_bounds h

theorem escalate_bounds {e : Nat} (h : KeepsBounds s t) : KeepsBounds s (escalate e t) := by
  unfold escalate; dsimp only; repeat' split
  all_goals first | exact quakeNotice_bounds h | exact waitAgain_bounds (onSlot_bounds h)

theorem timeNotice_bounds {u : Bool} (h : KeepsBounds s t) : KeepsBounds s (timeNotice u t) := by
  unfold timeNotice
  exact ite_bounds h (State.onTb_bounds (requestNotice_bounds h) (by dsimp only; split <;> rfl))

theorem countEnergyHolds_bounds (h : KeepsBounds s t) : KeepsBounds s (countEnergyHolds t) :=
  foldl_bounds (fun h => State.onNt_bounds (onSlot_bounds h) rfl) _ h

theorem startSlot_bounds {n : Nat} (h : KeepsBounds s t) : KeepsBounds s (startSlot n t) := by
  unfold startSlot; dsimp only
  refine onSlot_bounds ?_
  split
  · exact State.onNt_bounds h rfl
  · exact h

theorem slotAcked_bounds {n : Nat} (h : KeepsBounds s t) : KeepsBounds s (slotAcked n t) := by
  unfold slotAcked; dsimp only; split
  · exact waitAgain_bounds (onSlot_bounds h)
  · exact endNotice_bounds (onSlot_bounds h)

theorem slotFailed_bounds {n : Nat} (h : KeepsBounds s t) : KeepsBounds s (slotFailed n t) := by
  unfold slotFailed; dsimp only; split
  · exact endNotice_bounds (onSlot_bounds h)
  · exact onSlot_bounds (onSlot_bounds h)

theorem slotPowerCut_bounds {n : Nat} (h : KeepsBounds s t) : KeepsBounds s (slotPowerCut n t) := by
  unfold slotPowerCut; split
  · exact abortSlot_bounds h
  · exact waitAgain_bounds h

theorem pollSlots_bounds {topic : Nat} (h : KeepsBounds s t) : KeepsBounds s (pollSlots topic t) := by
  unfold pollSlots; dsimp only; repeat' split
  · exact State.onNt_bounds h rfl
  · exact waitWithTag_bounds h
  · exact State.onNt_bounds h rfl

/-! ### The Detector -/

theorem handUpdate_bounds (h : KeepsBounds s t) : KeepsBounds s (handUpdate t) := by
  unfold handUpdate; split
  · exact h
  · exact h
  · exact updateOpen_bounds h

theorem strongRequests_bounds (h : KeepsBounds s t) : KeepsBounds s (strongRequests t) := by
  unfold strongRequests; dsimp only; split
  · exact setAsk_bounds h
  · exact setAsk_bounds h
  · exact holdRequest_bounds (setAsk_bounds h)

theorem formQuiet_bounds (h : KeepsBounds s t) : KeepsBounds s (formQuiet t) := by
  unfold formQuiet; dsimp only; split
  · exact h
  · exact reportQuiet_bounds (State.onDet_bounds h)

theorem closeIfDone_bounds {x : Time} {n : Nat} (h : KeepsBounds s t) : KeepsBounds s (closeIfDone x n t) := by
  unfold closeIfDone; repeat' split
  · exact h
  · exact State.onDet_bounds h
  · exact quakeNotice_bounds (closeFrame_bounds (closeRecord_bounds (State.onDet_bounds h)))
  · exact h

theorem afterChannelChange_bounds (h : KeepsBounds s t) : KeepsBounds s (afterChannelChange t) :=
  formQuiet_bounds (closeIfDone_bounds (handUpdate_bounds h))

theorem declareEvent_bounds {f : Frame} {first : Nat} (h : KeepsBounds s t) :
    KeepsBounds s (declareEvent f first t) := by
  have declared {make : Nat → Nat → Record} {g : Detector → Detector} :
      KeepsBounds s (declareRecord make (t.onDet g)).1 :=
    declareRecord_bounds (State.onDet_bounds h)
  unfold declareEvent; dsimp only; split
  · exact ite_bounds (setAsk_bounds (State.onDet_bounds declared)) (State.onDet_bounds declared)
  · exact ite_bounds (strongRequests_bounds (quakeNotice_bounds (State.onDet_bounds declared)))
      (quakeNotice_bounds (State.onDet_bounds declared))

theorem classRise_bounds {old : Nat} (h : KeepsBounds s t) : KeepsBounds s (classRise old t) := by
  unfold classRise; dsimp only; repeat' split
  all_goals first
    | exact h
    | exact strongRequests_bounds h
    | exact notifyAll_bounds h
    | exact notifyAll_bounds (strongRequests_bounds h)
    | exact escalate_bounds (notifyAll_bounds h)
    | exact escalate_bounds (notifyAll_bounds (strongRequests_bounds h))

theorem voteAndUpdate_bounds {f : Frame} {js : List Nat} (h : KeepsBounds s t) :
    KeepsBounds s (voteAndUpdate f js t) := by
  unfold voteAndUpdate; dsimp only; repeat' split
  · exact h
  · exact declareEvent_bounds h
  · exact h
  · exact classRise_bounds (handUpdate_bounds (State.onDet_bounds h))
  · exact classRise_bounds (State.onDet_bounds h)

theorem workFrame_bounds {f : Frame} (h : KeepsBounds s t) : KeepsBounds s (workFrame f t) := by
  unfold workFrame; dsimp only
  refine formQuiet_bounds (closeIfDone_bounds (voteAndUpdate_bounds (State.onDet_bounds ?_)))
  split
  · exact State.onDet_bounds h
  · exact State.onDet_bounds (State.onDet_bounds h)

theorem takeFrame_bounds (h : KeepsBounds s t) : KeepsBounds s (takeFrame t) := by
  unfold takeFrame; split
  · exact h
  · exact workFrame_bounds (State.onDet_bounds h)

theorem detectorLevel_bounds {o n : Option Level} (h : KeepsBounds s t) : KeepsBounds s (detectorLevel o n t) := by
  unfold detectorLevel; repeat' split
  · exact afterChannelChange_bounds (State.onDet_bounds h)
  · exact State.onDet_bounds h
  · exact h

theorem startStream_bounds (h : KeepsBounds s t) : KeepsBounds s (startStream t) :=
  State.onDet_bounds (State.onAcq_bounds (State.onCcu_bounds h) id id)

theorem sensorOn_bounds (h : KeepsBounds s t) : KeepsBounds s (sensorOn t) := by
  unfold sensorOn; dsimp only; split
  · exact startStream_bounds (State.onAcq_bounds h id id)
  · exact State.onAcq_bounds h id id

theorem sensorOff_bounds (h : KeepsBounds s t) : KeepsBounds s (sensorOff t) := by
  unfold sensorOff detectorSensorOff
  exact afterChannelChange_bounds (State.onDet_bounds (State.onAcq_bounds (State.onCcu_bounds h) id id))

theorem changeRate_bounds {r : SampleRate} (h : KeepsBounds s t) : KeepsBounds s (changeRate r t) := by
  unfold changeRate; dsimp only
  refine afterChannelChange_bounds (State.onDet_bounds ?_)
  split
  · exact State.onCcu_bounds (State.onAcq_bounds h id id)
  · exact State.onAcq_bounds h id id

/-! ### The alert link -/

theorem setLinkState_bounds {n : LinkState} (h : KeepsBounds s t) : KeepsBounds s (setLinkState n t) := by
  unfold setLinkState; split
  · exact h
  · exact notifyAll_bounds (State.onLink_bounds h id)

theorem countDropped_bounds {n : Nat} (h : KeepsBounds s t) : KeepsBounds s (countDropped n t) := State.onLink_bounds h id

theorem enterSilent_bounds (h : KeepsBounds s t) : KeepsBounds s (enterSilent t) :=
  countDropped_bounds (State.onLink_bounds h (by simp))

theorem setHealth_bounds {n : LinkState} (h : KeepsBounds s t) : KeepsBounds s (setHealth n t) := by
  unfold setHealth; dsimp only; repeat' split
  · exact h
  · exact setLinkState_bounds (enterSilent_bounds (State.onLink_bounds h id))
  · exact setLinkState_bounds (State.onLink_bounds h id)

theorem evaluateHealth_bounds (h : KeepsBounds s t) : KeepsBounds s (evaluateHealth t) := by
  unfold evaluateHealth; repeat' split
  all_goals first | exact h | exact setHealth_bounds h

theorem countSendFailure_bounds (h : KeepsBounds s t) : KeepsBounds s (countSendFailure t) :=
  evaluateHealth_bounds (State.onLink_bounds h id)
theorem countSendSuccess_bounds (h : KeepsBounds s t) : KeepsBounds s (countSendSuccess t) :=
  evaluateHealth_bounds (State.onLink_bounds h id)
theorem probeAcked_bounds (h : KeepsBounds s t) : KeepsBounds s (probeAcked t) :=
  setHealth_bounds (State.onLink_bounds h id)
theorem probeFailed_bounds (h : KeepsBounds s t) : KeepsBounds s (probeFailed t) := State.onLink_bounds h id

theorem listenPoint_bounds (h : KeepsBounds s t) : KeepsBounds s (listenPoint t) := by
  unfold listenPoint
  exact State.onCcu_bounds (State.onLink_bounds h id)

theorem listenLevel_bounds {l : Option Level} (h : KeepsBounds s t) : KeepsBounds s (listenLevel l t) := by
  unfold listenLevel; dsimp only; split
  case h_4 => exact listenPoint_bounds h
  all_goals exact State.onCcu_bounds (State.onLink_bounds h id)

theorem formRadioRequest_bounds (h : KeepsBounds s t) : KeepsBounds s (formRadioRequest t) :=
  State.onPw_bounds (setAsk_bounds h)

theorem cutOrigin_bounds {o : AirOrigin} (h : KeepsBounds s t) : KeepsBounds s (cutOrigin o t) := by
  cases o
  case segment => exact slotPowerCut_bounds h
  all_goals exact h

theorem radioCut_bounds (h : KeepsBounds s t) : KeepsBounds s (radioCut t) := by
  have cut : KeepsBounds s (t.onLink fun l => { l with warm := false, tx := .idle, window := none, reception := none }) :=
    State.onLink_bounds h id
  unfold radioCut; dsimp only; repeat' split
  all_goals first
    | exact cut
    | exact cutOrigin_bounds cut
    | exact cutOrigin_bounds (cutOrigin_bounds cut)

theorem keyUp_bounds {o : AirOrigin} {f : List Byte} (h : KeepsBounds s t) : KeepsBounds s (keyUp o f t) :=
  State.onLink_bounds h id

theorem sendSegment_bounds {n : Nat} {pushed : Option Nat} (h : KeepsBounds s t) :
    KeepsBounds s (sendSegment n pushed t) := by
  refine keyUp_bounds (startSlot_bounds ?_)
  split
  · exact h
  · exact pushNotice_bounds h

theorem takeOpportunity_bounds (h : KeepsBounds s t) : KeepsBounds s (takeOpportunity t) := by
  unfold takeOpportunity; repeat' split
  · exact keyUp_bounds (State.onLink_bounds h id)
  · exact h
  · exact keyUp_bounds h
  · exact h
  · exact sendSegment_bounds h

theorem endOfAir_bounds {o : AirOrigin} (h : KeepsBounds s t) : KeepsBounds s (endOfAir o t) := by
  have idle : KeepsBounds s (t.onLink fun l => { l with tx := .idle }) := State.onLink_bounds h id
  unfold endOfAir; dsimp only; repeat' split
  · exact abortSlot_bounds idle
  · exact State.onLink_bounds (onSlot_bounds idle) id
  · exact State.onLink_bounds idle id
  · exact State.onLink_bounds idle fun hr => by
      split
      · simp only [List.length_tail]; omega
      · exact hr

theorem decideWindow_bounds {w : AckWindow} {acked : Bool} (h : KeepsBounds s t) :
    KeepsBounds s (decideWindow w acked t) := by
  have closed : KeepsBounds s (t.onLink fun l => { l with window := none }) := State.onLink_bounds h id
  unfold decideWindow; dsimp only; repeat' split
  · exact countSendSuccess_bounds (slotAcked_bounds closed)
  · exact countSendFailure_bounds (slotFailed_bounds closed)
  · exact probeAcked_bounds closed
  · exact probeFailed_bounds closed
  · exact closed

theorem settleWindow_bounds (h : KeepsBounds s t) : KeepsBounds s (settleWindow t) := by
  unfold settleWindow; repeat' split
  all_goals first | exact h | exact decideWindow_bounds h

theorem windowEnds_bounds {w : AckWindow} (h : KeepsBounds s t) : KeepsBounds s (windowEnds w t) := by
  unfold windowEnds
  exact ite_bounds (State.onLink_bounds h id) (decideWindow_bounds h)

theorem closeReception_bounds (h : KeepsBounds s t) : KeepsBounds s (closeReception t) := State.onLink_bounds h id

theorem badFrame_bounds (h : KeepsBounds s t) : KeepsBounds s (badFrame t) :=
  settleWindow_bounds (evaluateHealth_bounds (State.onLink_bounds (closeReception_bounds h) id))

theorem goodFrame_bounds {effect : State → State} (he : ∀ {x}, KeepsBounds s x → KeepsBounds s (effect x))
    (h : KeepsBounds s t) : KeepsBounds s (goodFrame effect t) :=
  settleWindow_bounds (he (evaluateHealth_bounds (State.onLink_bounds (closeReception_bounds h) id)))

theorem answerFrame_bounds {f : HeardFrame} {inWindow acked : Bool} (h : KeepsBounds s t) :
    KeepsBounds s (answerFrame f inWindow acked t) := by
  unfold answerFrame; dsimp only; repeat' split
  · exact State.onLink_bounds h id
  · exact decideWindow_bounds h
  · exact State.onLink_bounds h id

theorem startOfFrame_bounds (h : KeepsBounds s t) : KeepsBounds s (startOfFrame t) := by
  have captured : KeepsBounds s (t.onCcu fun c => { c with ch2 := (c.ch2.edge t.tb.now).read }) := State.onCcu_bounds h
  unfold startOfFrame; dsimp only; repeat' split
  all_goals first
    | exact captured
    | exact State.onLink_bounds captured id
    | exact State.onLink_bounds (badFrame_bounds captured) id

theorem queueReply_bounds {f : HeardFrame} {r : Nat} (h : KeepsBounds s t) : KeepsBounds s (queueReply f r t) := by
  unfold queueReply; repeat' split
  · exact h
  · exact State.onLink_bounds h (by simp; omega)
  · exact countDropped_bounds h

theorem disabledCommand_bounds {f : HeardFrame} (h : KeepsBounds s t) : KeepsBounds s (disabledCommand f t) :=
  queueReply_bounds (State.onLink_bounds h id)

theorem dropOldReplies_bounds (h : KeepsBounds s t) : KeepsBounds s (dropOldReplies t) :=
  countDropped_bounds (State.onLink_bounds h fun hr => (List.length_filter_le ..).trans hr)

theorem closeWindowOf_bounds {n : Nat} (h : KeepsBounds s t) : KeepsBounds s (closeWindowOf n t) :=
  State.onLink_bounds h id

theorem abortEffect_bounds {n : Nat} (h : KeepsBounds s t) : KeepsBounds s (abortEffect n t) := by
  unfold abortEffect; split
  all_goals first
    | exact h
    | exact abortSlot_bounds h
    | exact abortSlot_bounds (removeEntryOf_bounds h)
    | exact abortSlot_bounds (closeWindowOf_bounds h)
    | exact onSlot_bounds h

/-! ### Time and discipline -/

theorem refreshRequest_bounds (h : KeepsBounds s t) : KeepsBounds s (refreshRequest t) :=
  setAsk_bounds (State.onDisc_bounds h rfl)
theorem openGnssWindow_bounds (h : KeepsBounds s t) : KeepsBounds s (openGnssWindow t) :=
  setAsk_bounds (State.onDisc_bounds h rfl)

theorem disciplineLevel_bounds {l : Option Level} (h : KeepsBounds s t) : KeepsBounds s (disciplineLevel l t) := by
  unfold disciplineLevel; dsimp only; split
  case h_1 => exact h
  case h_4 => exact openGnssWindow_bounds (State.onDisc_bounds h rfl)
  all_goals exact setAsk_bounds (State.onDisc_bounds h rfl)

theorem setUncertainty_bounds {n : Nat} (h : KeepsBounds s t) : KeepsBounds s (setUncertainty n t) := by
  unfold setUncertainty; dsimp only; split
  · exact refreshRequest_bounds (State.onDisc_bounds (State.onTb_bounds h rfl) rfl)
  · exact State.onDisc_bounds (State.onTb_bounds h rfl) rfl

theorem changeTimeState_bounds {new : TimeState} {c : Bool} (h : KeepsBounds s t) :
    KeepsBounds s (changeTimeState new c t) := by
  have moved : KeepsBounds s ((notifyAll .timeState (t.onTb fun tb =>
      { tb with state := new, entry := tb.now, ctemp := if tb.state = .holdover then 0 else tb.ctemp })).onDisc fun d =>
        let d1 := { d with lockRun := 0, unlockRun := 0 }
        if new = .free then { d1 with conflicts := 0, conflictLatch := false, heldP := none } else d1) :=
    State.onDisc_bounds (notifyAll_bounds (State.onTb_bounds h rfl)) (by dsimp only; split <;> rfl)
  unfold changeTimeState
  exact ite_bounds h (ite_bounds (timeNotice_bounds moved) moved)

theorem listenFired_bounds (h : KeepsBounds s t) : KeepsBounds s (listenFired t) := by
  unfold listenFired; split
  · exact listenPoint_bounds h
  · exact h

theorem listenAtStep_bounds {new : Time} (h : KeepsBounds s t) : KeepsBounds s (listenAtStep new t) := by
  unfold listenAtStep; split
  · exact listenFired_bounds (State.onCcu_bounds h)
  · exact h

theorem listenAtSet_bounds {new : Time} (h : KeepsBounds s t) : KeepsBounds s (listenAtSet new t) := by
  unfold listenAtSet; split
  · exact h
  · exact listenFired_bounds (State.onCcu_bounds h)

theorem realign_bounds {strobe heaters : State → State} (hs : ∀ {x}, KeepsBounds s x → KeepsBounds s (strobe x))
    (hh : ∀ {x}, KeepsBounds s x → KeepsBounds s (heaters x)) (h : KeepsBounds s t) :
    KeepsBounds s (realign strobe heaters t) := by
  unfold realign; split
  · exact hs (hh h)
  · exact hh (hs h)

theorem forwardStep_bounds {n : Nat} (h : KeepsBounds s t) : KeepsBounds s (forwardStep n t) := by
  unfold forwardStep; dsimp only; split
  · exact h
  · exact listenAtStep_bounds (realign_bounds strobeAtStep_bounds (fun h => pairedStep_bounds (pairedStep_bounds h))
      (State.onLink_bounds (State.onAcq_bounds (State.onDisc_bounds (State.onTb_bounds h rfl) rfl) id id) id))

theorem backwardSet_bounds {new : Time} (h : KeepsBounds s t) : KeepsBounds s (backwardSet new t) :=
  listenAtSet_bounds (realign_bounds strobeAtSet_bounds (fun h => pairedSet_bounds (pairedSet_bounds h))
    (State.onLink_bounds (State.onTb_bounds h rfl) id))

theorem learnBin_bounds (h : KeepsBounds s t) : KeepsBounds s (learnBin t) := by
  unfold learnBin; split
  · exact h
  · exact State.onDisc_bounds h (by simp)

theorem steer_bounds {p : Int} (h : KeepsBounds s t) : KeepsBounds s (steer p t) := by
  unfold steer; split
  · exact State.onTb_bounds (forwardStep_bounds h) rfl
  · exact State.onTb_bounds h rfl

theorem steerAndJudge_bounds {p : Int} (h : KeepsBounds s t) : KeepsBounds s (steerAndJudge p t) :=
  setUncertainty_bounds (steer_bounds h)

theorem moveLockRun_bounds {p : Int} (h : KeepsBounds s t) : KeepsBounds s (moveLockRun p t) := by
  unfold moveLockRun
  exact ite_bounds (changeTimeState_bounds (State.onDisc_bounds h rfl)) (State.onDisc_bounds h rfl)

theorem moveUnlockRun_bounds {p : Int} (h : KeepsBounds s t) : KeepsBounds s (moveUnlockRun p t) := by
  unfold moveUnlockRun
  exact ite_bounds (changeTimeState_bounds (State.onDisc_bounds h rfl)) (State.onDisc_bounds h rfl)

theorem validPps_bounds {x : Time} (h : KeepsBounds s t) : KeepsBounds s (validPps x t) := by
  have recorded : KeepsBounds s (recordPps x t) := State.onDisc_bounds (State.onTb_bounds h rfl) rfl
  unfold validPps; dsimp only; split
  · exact recorded
  · exact moveLockRun_bounds (steerAndJudge_bounds recorded)
  · exact learnBin_bounds (moveUnlockRun_bounds (steerAndJudge_bounds recorded))
  · exact State.onDisc_bounds recorded rfl
  · exact State.onDisc_bounds recorded rfl

theorem qualifyPps_bounds {x : Time} (h : KeepsBounds s t) : KeepsBounds s (qualifyPps x t) := by
  unfold qualifyPps; repeat' split
  · exact h
  · exact validPps_bounds h
  · exact State.onDisc_bounds h rfl

theorem loseState_bounds (h : KeepsBounds s t) : KeepsBounds s (loseState t) := by
  unfold loseState; dsimp only; split
  · exact changeTimeState_bounds (setUncertainty_bounds (State.onDisc_bounds (State.onTb_bounds h rfl) rfl))
  · exact changeTimeState_bounds h
  all_goals exact h

theorem becomeAbsent_bounds (h : KeepsBounds s t) : KeepsBounds s (becomeAbsent t) :=
  loseState_bounds (State.onDisc_bounds h rfl)

theorem gnssOff_bounds (h : KeepsBounds s t) : KeepsBounds s (gnssOff t) := by
  unfold gnssOff; dsimp only; split
  · exact becomeAbsent_bounds (State.onDisc_bounds h rfl)
  · exact State.onDisc_bounds h rfl

theorem returnToAcquiring_bounds (h : KeepsBounds s t) : KeepsBounds s (returnToAcquiring t) := by
  unfold returnToAcquiring; dsimp only; split
  · exact changeTimeState_bounds h
  · exact State.onDisc_bounds (steerAndJudge_bounds (changeTimeState_bounds h)) rfl

theorem labelAgrees_bounds (h : KeepsBounds s t) : KeepsBounds s (labelAgrees t) := by
  unfold labelAgrees; dsimp only; split
  · exact returnToAcquiring_bounds (State.onDisc_bounds h rfl)
  · exact returnToAcquiring_bounds (State.onDisc_bounds h rfl)
  all_goals exact State.onDisc_bounds h rfl

/-- The conflict's step forward, by some ticks, with the agreement that follows it (R42). -/
def conflictStep (n : Nat) (s : State) : State :=
  ((forwardStep n s).onTb fun tb => { tb with cslew := 0 }).onDisc fun d => { d with lockRun := 0 }

theorem conflictStep_bounds {n : Nat} (h : KeepsBounds s t) : KeepsBounds s (conflictStep n t) :=
  State.onDisc_bounds (State.onTb_bounds (forwardStep_bounds h) rfl) rfl

/-- A label conflict ahead of station time (R42). -/
theorem labelConflict_ahead {label r : Nat} (h : r < label) (s : State) :
    labelConflict label r s =
      let stepped := conflictStep ((label - r) * perSecond) (timeNotice true (s.onDisc fun d => { d with conflicts := 0 }))
      if s.tb.state = .locked then changeTimeState .acquiring false (labelAgrees stepped) else labelAgrees stepped := by
  unfold labelConflict
  rw [if_pos h, conflictStep]
  generalize ((forwardStep _ _).onTb _).onDisc _ = stepped
  cases s.tb.state <;> simp

/-- A label conflict at or behind station time (R42). -/
theorem labelConflict_behind {label r : Nat} (h : ¬r < label) (s : State) :
    labelConflict label r s =
      (changeTimeState .adrift true (timeNotice true (s.onDisc fun d => { d with conflicts := 0 }))).onDisc
        fun d => { d with conflictLatch := true } := by
  unfold labelConflict
  rw [if_neg h]

theorem labelConflict_bounds {label r : Nat} (h : KeepsBounds s t) : KeepsBounds s (labelConflict label r t) := by
  have asked : KeepsBounds s (timeNotice true (t.onDisc fun d => { d with conflicts := 0 })) :=
    timeNotice_bounds (State.onDisc_bounds h rfl)
  by_cases ahead : r < label
  · rw [labelConflict_ahead ahead]
    have agreed := labelAgrees_bounds (conflictStep_bounds (n := (label - r) * perSecond) asked)
    exact ite_bounds (changeTimeState_bounds agreed) agreed
  · rw [labelConflict_behind ahead]
    exact State.onDisc_bounds (changeTimeState_bounds asked) rfl

theorem compareLabel_bounds {label : Nat} {m : MatchedPps} (h : KeepsBounds s t) :
    KeepsBounds s (compareLabel label m t) := by
  unfold compareLabel; dsimp only; repeat' split
  · exact labelAgrees_bounds h
  · exact h
  · exact labelConflict_bounds h
  · exact State.onDisc_bounds h rfl

theorem setFromLabel_bounds {label : Nat} {m : MatchedPps} (h : KeepsBounds s t) :
    KeepsBounds s (setFromLabel label m t) := by
  unfold setFromLabel; dsimp only
  refine changeTimeState_bounds (setUncertainty_bounds (State.onTb_bounds (State.onDisc_bounds ?_ rfl) rfl))
  split
  · exact forwardStep_bounds h
  · exact backwardSet_bounds h

theorem completeLabel_bounds {label : List Byte} (h : KeepsBounds s t) : KeepsBounds s (completeLabel label t) := by
  have taken : KeepsBounds s (t.onDisc fun d => { d with label := [] }) := State.onDisc_bounds h rfl
  unfold completeLabel matchLabel; dsimp only; repeat' split
  all_goals first
    | exact State.onDisc_bounds taken rfl
    | exact setFromLabel_bounds (State.onDisc_bounds taken rfl)
    | exact compareLabel_bounds (State.onDisc_bounds taken rfl)

theorem labelByte_bounds {b : Byte} (h : KeepsBounds s t) : KeepsBounds s (labelByte b t) := by
  unfold labelByte; repeat' split
  · exact State.onDisc_bounds h rfl
  · exact h
  · exact State.onDisc_bounds h rfl
  · exact completeLabel_bounds h

theorem holdoverSecond_bounds (h : KeepsBounds s t) : KeepsBounds s (holdoverSecond t) := by
  unfold holdoverSecond
  exact ite_bounds (changeTimeState_bounds (setUncertainty_bounds h)) (State.onTb_bounds (setUncertainty_bounds h) rfl)

theorem disciplineSecondWork_bounds (h : KeepsBounds s t) : KeepsBounds s (disciplineSecondWork t) := by
  unfold disciplineSecondWork
  exact ite_bounds (holdoverSecond_bounds (State.onDisc_bounds (State.onPace_bounds h) rfl))
    (State.onDisc_bounds (State.onPace_bounds h) rfl)

/-! ### Power, loads and the Settings Store -/

theorem powerNotice_bounds {c : PowerCause} (h : KeepsBounds s t) : KeepsBounds s (powerNotice c t) := by
  unfold powerNotice; dsimp only; split
  · exact h
  · exact State.onPw_bounds (requestNotice_bounds h)

theorem formStanding_bounds (h : KeepsBounds s t) : KeepsBounds s (formStanding t) :=
  foldl_bounds (fun h => setAsk_bounds h) _ h

theorem reportToWatchers_bounds {o : Option Level} {n : Level} (h : KeepsBounds s t) :
    KeepsBounds s (reportToWatchers o n t) := by
  unfold reportToWatchers; dsimp only; split
  · exact formCaps_bounds (State.onHt_bounds (detectorLevel_bounds h))
  · exact detectorLevel_bounds (formCaps_bounds (State.onHt_bounds h))

theorem reportLevel_bounds {o : Option Level} {n : Level} (h : KeepsBounds s t) : KeepsBounds s (reportLevel o n t) := by
  have told : KeepsBounds s (linkLevel (disciplineLevel (some n) t)) :=
    listenLevel_bounds (setLinkState_bounds (disciplineLevel_bounds h))
  have begun := ite_bounds (c := o.isNone = true) (startHeaters_bounds told) told
  unfold reportLevel
  exact ite_bounds (updateOpen_bounds (reportToWatchers_bounds begun)) (reportToWatchers_bounds (updateOpen_bounds begun))

theorem entryNotice_bounds {n : Level} (h : KeepsBounds s t) : KeepsBounds s (entryNotice n t) := by
  unfold entryNotice; split
  · exact powerNotice_bounds h
  · exact powerNotice_bounds h
  all_goals exact h

theorem changeLevel_bounds {n : Level} {b : Bool} (h : KeepsBounds s t) : KeepsBounds s (changeLevel n b t) := by
  have told {f : Power → Power} {o : Option Level} : KeepsBounds s
      (notifyAll .levelChanged (reportLevel o n (if o.isNone then formStanding (t.onPw f) else t.onPw f))) :=
    notifyAll_bounds (reportLevel_bounds (ite_bounds (formStanding_bounds (State.onPw_bounds h)) (State.onPw_bounds h)))
  unfold changeLevel
  exact ite_bounds h (ite_bounds (entryNotice_bounds told) told)

/-- A save takes the table of bins as it stands. -/
theorem startSave_bounds {a : Bool} {r : Option Port} (h : KeepsBounds s t) : KeepsBounds s (startSave a r t) := by
  refine ⟨h.pending, h.fraction, fun c => ?_⟩
  obtain ⟨ring, holds, records, replies, slots, bins, -, -⟩ := h.capacity c
  exact ⟨ring, holds, records, replies, slots, bins, fun _ e => (by cases e), fun _ e => (by cases e; exact bins)⟩

theorem automaticSave_bounds (h : KeepsBounds s t) : KeepsBounds s (automaticSave t) := by
  unfold automaticSave; split
  · exact ⟨h.pending, h.fraction, h.capacity⟩
  · exact startSave_bounds h

theorem endSave_bounds {sv : Save} (h : KeepsBounds s t) (saved : t.store.save = some sv) :
    KeepsBounds s (endSave sv t) := by
  have stored : KeepsBounds s (t.onStore fun st => { st with image := some sv.copy, invalid := false, save := none }) := by
    refine ⟨h.pending, h.fraction, fun c => ?_⟩
    obtain ⟨ring, holds, records, replies, slots, bins, -, save⟩ := h.capacity c
    exact ⟨ring, holds, records, replies, slots, bins, fun _ e => (by cases e; exact save sv saved),
      fun _ e => (by cases e)⟩
  have replied : KeepsBounds s (match sv.replyTo with
      | none => t.onStore fun st => { st with image := some sv.copy, invalid := false, save := none }
      | some p => replySaved p (t.onStore fun st => { st with image := some sv.copy, invalid := false, save := none })) := by
    split
    · exact stored
    · unfold replySaved; split
      · exact stored
      · exact stored
      · exact replyReady_bounds stored
  unfold endSave
  exact ite_bounds (startSave_bounds replied) replied

theorem enterDormant_bounds (h : KeepsBounds s t) : KeepsBounds s (enterDormant t) :=
  automaticSave_bounds (changeLevel_bounds (State.onPw_bounds h))

theorem beginGasp_bounds {n : Nat} (h : KeepsBounds s t) : KeepsBounds s (beginGasp n t) :=
  changeLevel_bounds (State.onPw_bounds h)

theorem startLastGasp_bounds (h : KeepsBounds s t) : KeepsBounds s (startLastGasp t) := by
  unfold startLastGasp; dsimp only; repeat' split
  · exact beginGasp_bounds h
  · exact enterDormant_bounds (requestNotice_bounds h)
  · exact beginGasp_bounds (requestNotice_bounds h)

theorem tellOn_bounds {l : Load} (h : KeepsBounds s t) : KeepsBounds s (tellOn l t) := by
  unfold tellOn radioOn; split
  · exact sensorOn_bounds h
  · exact State.onLink_bounds h id
  all_goals exact h

theorem tellOff_bounds {l : Load} (h : KeepsBounds s t) : KeepsBounds s (tellOff l t) := by
  cases l
  case sensor => exact sensorOff_bounds h
  case gnss => exact gnssOff_bounds h
  case recorder => exact State.onPort_bounds h
  case telemetry => exact State.onPort_bounds h
  case radio => exact radioCut_bounds h
  case aux => exact h

theorem formLoad_bounds {l : Load} (h : KeepsBounds s t) : KeepsBounds s (formLoad l t) := by
  have on : KeepsBounds s (turnOn l t) := tellOn_bounds (notifyAll_bounds (State.onLoad_bounds h))
  have off : KeepsBounds s (turnOff l t) := tellOff_bounds (notifyAll_bounds (State.onLoad_bounds h))
  unfold formLoad; dsimp only; repeat' split
  all_goals first | exact h | exact on | exact off | exact State.onLoad_bounds h

theorem settleRound_bounds (h : KeepsBounds s t) : KeepsBounds s (settleRound t) := by
  refine foldl_bounds (fun h => formLoad_bounds h) _ (formRadioRequest_bounds ?_)
  unfold endGasp; split
  · exact enterDormant_bounds h
  · exact h

theorem settle_bounds (h : KeepsBounds s t) : KeepsBounds s (settle t) :=
  countEnergyHolds_bounds (settleRound_bounds (settleRound_bounds (settleRound_bounds (settleRound_bounds h))))

theorem tellHeater_bounds (h : KeepsBounds s t) : KeepsBounds s (tellHeater t) := by
  unfold tellHeater; dsimp only; split
  · exact State.onHt_bounds h
  · exact formCaps_bounds (State.onHt_bounds (State.onHt_bounds h))

theorem levelSecond_bounds (h : KeepsBounds s t) : KeepsBounds s (levelSecond t) := by
  unfold levelSecond; repeat' split
  all_goals first | exact h | exact changeLevel_bounds h

theorem acquisitionSecond_bounds (h : KeepsBounds s t) : KeepsBounds s (t.onAcq Acquisition.second) := by
  refine State.onAcq_bounds h ?_ ?_ <;> unfold Acquisition.second <;> split <;> exact id

theorem accountingWork_bounds {r : Readings} (h : KeepsBounds s t) : KeepsBounds s (accountingWork r t) := by
  unfold accountingWork; dsimp only
  refine settle_bounds (acquisitionSecond_bounds (levelSecond_bounds (State.onPw_bounds (tellHeater_bounds ?_))))
  split
  · exact powerNotice_bounds (State.onPw_bounds (State.onPace_bounds h))
  · exact State.onPw_bounds (State.onPace_bounds h)

theorem setCeilingTo_bounds {l : Level} (h : KeepsBounds s t) : KeepsBounds s (setCeilingTo l t) := by
  unfold setCeilingTo; dsimp only; repeat' split
  all_goals first | exact State.onPw_bounds h | exact changeLevel_bounds (State.onPw_bounds h)

/-! ### The resets -/

theorem restoreImage_bounds {im : Image} (e : s.store.image = some im) : KeepsBounds s (restoreImage im s) := by
  refine ⟨by simp [restoreImage], by simp [restoreImage], fun c => ?_⟩
  obtain ⟨ring, holds, records, replies, slots, -, image, save⟩ := c
  simp only [CapacityOk, restoreImage]
  exact ⟨ring, holds, records, replies, slots, image im e, image, save⟩

theorem releaseReset_bounds (s : State) : KeepsBounds s (releaseReset s) := by
  unfold releaseReset
  refine State.onPace_bounds ?_
  split
  · exact ⟨rfl, rfl, id⟩
  next im e => exact restoreImage_bounds e

theorem warmBlocks_bounds (h : KeepsBounds s t) : KeepsBounds s (warmBlocks t) := by
  refine ⟨h.pending, h.fraction, fun c => ?_⟩
  obtain ⟨-, -, -, -, -, bins, image, save⟩ := h.capacity c
  refine ⟨by simp [warmBlocks, Acquisition.warm], by simp [warmBlocks, Acquisition.warm],
    by simp [warmBlocks, EventTable.cold], by simp [warmBlocks, Link.warmReset, Link.cold],
    by simp [warmBlocks, NoticeTable.cold], bins, image, ?_⟩
  intro sv e
  obtain ⟨old, hold, rfl⟩ := Option.map_eq_some_iff.1 e
  exact save old hold

theorem warmReset_bounds (h : KeepsBounds s t) : KeepsBounds s (warmReset t) :=
  settle_bounds (reportQuiet_bounds (warmBlocks_bounds h))

/-- After a cold reset every table is within its capacity, also the stored one. -/
theorem coldReset_capacity (cause : ColdCause) (h : CapacityOk s) : CapacityOk (coldReset cause s) := by
  obtain ⟨-, -, -, -, -, -, image, -⟩ := h
  refine ⟨by simp [coldReset, State.cold, Acquisition.cold], by simp [coldReset, State.cold, Acquisition.cold],
    by simp [coldReset, State.cold, EventTable.cold], by simp [coldReset, State.cold, Link.cold],
    by simp [coldReset, State.cold, NoticeTable.cold], by simp [coldReset, State.cold, Discipline.cold], ?_,
    fun _ e => by cases e⟩
  intro im e
  have e : (if s.store.save.isSome then none else s.store.image) = some im := e
  split at e
  · cases e
  · exact image im e

end Sys2Proof.Machine
end

section
/-! How a command runs: the three commands of reset and counting apart, a command is an event that is taken when it is due
or a request on a port (R187, R195). What the effects of all of them have in common, all commands have. -/

namespace Sys2Proof.Machine

/-- An outcome from a state: that of an event, or that of a request, whose effect stands in the relation to the state it
acts on. -/
inductive Acts (R : State → State → Prop) (s : State) : Host.Outcome State Fault Refusal → Prop
  | event (due : State → Bool) (effect : State → State) (h : R s (effect s)) : Acts R s (takeEvent due effect s)
  | request (p : Port) (tag : Byte) (right : Right) (run : State → Answer) (h : ∀ x, R x (run x).after) :
      Acts R s (request p tag right run s)

/-- While RESET is held low an event and a request are ignored (R195). -/
theorem Acts.of_held {R : State → State → Prop} {s : State} {o : Host.Outcome State Fault Refusal} (h : Acts R s o)
    (held : s.pace.held = true) : o = .next s := by
  cases h with
  | event => exact takeEvent_idle (.inl held)
  | request => exact request_held held ..

/-- A request changes only its port's record before and after its command runs. -/
theorem request_next (p : Port) (tag : Byte) (right : Right) (run : State → Answer) (s : State) :
    ∃ t, request p tag right run s = .next t ∧
      (t = s ∨ (∃ f, t = s.onPort p f) ∨ t = finishReply p tag (run (s.taking p tag))) := by
  cases held : s.pace.held with
  | true => exact ⟨s, request_held held .., .inl rfl⟩
  | false =>
    cases has : (s.ports.get p).rights.has right with
    | false => exact ⟨_, request_denied held has .., .inr (.inl ⟨_, rfl⟩)⟩
    | true => exact ⟨_, request_admitted ⟨held, has⟩ .., .inr (.inr rfl)⟩

/-- Every command but the cold reset, its release and the oscillator cycle answers a next state with the same bounds. -/
theorem Acts.keepsBounds {s : State} {o : Host.Outcome State Fault Refusal} (h : Acts KeepsBounds s o) :
    ∃ t, o = .next t ∧ KeepsBounds s t := by
  cases h with
  | event due effect h =>
    refine ⟨_, takeEvent_next .., ?_⟩
    split
    · exact h
    · exact .refl s
  | request p tag right run h =>
    obtain ⟨t, e, rfl | ⟨f, rfl⟩ | rfl⟩ := request_next p tag right run s
    · exact ⟨_, e, .refl _⟩
    · exact ⟨_, e, State.onPort_bounds (.refl s)⟩
    · exact ⟨_, e, finishReply_bounds ((State.onPort_bounds (.refl s)).trans (h _))⟩

/-! ### The answers of the commands -/

section
variable {s t : State}

theorem taken_bounds {data : List Byte} (h : KeepsBounds s t) : KeepsBounds s (taken data t).after := h
theorem refuse_bounds {st : Status} (h : KeepsBounds s t) : KeepsBounds s (refuse st t).after := h

end

theorem withoutArgs_bounds {args : List Byte} {run : State → Answer} (h : ∀ x, KeepsBounds x (run x).after) (x : State) :
    KeepsBounds x (withoutArgs args run x).after := by
  unfold withoutArgs; split
  · exact h x
  · exact .refl x

theorem readBack_bounds (data : Option (List Byte)) (x : State) : KeepsBounds x (readBack data x).after := by
  unfold readBack; split <;> exact .refl x

section
variable (p : Port) (args : List Byte) (x : State)

theorem runSetNotifyMask_bounds : KeepsBounds x (runSetNotifyMask p args x).after := by
  unfold runSetNotifyMask; split
  · exact taken_bounds (State.onPort_bounds (.refl x))
  · exact refuse_bounds (.refl x)

theorem runSetRights_bounds : KeepsBounds x (runSetRights args x).after := by
  unfold runSetRights; dsimp only; repeat' split
  · exact refuse_bounds (.refl x)
  · exact taken_bounds (State.onPorts_bounds (.refl x))
  · exact refuse_bounds (.refl x)
  · exact refuse_bounds (.refl x)

theorem runSaveSettings_bounds : KeepsBounds x (runSaveSettings p x).after := by
  unfold runSaveSettings; split
  · exact refuse_bounds (.refl x)
  · exact startSave_bounds (.refl x)

theorem runSetTime_bounds : KeepsBounds x (runSetTime args x).after := by
  unfold runSetTime; dsimp only; repeat' split
  · exact refuse_bounds (.refl x)
  · exact refuse_bounds (.refl x)
  · exact refuse_bounds (.refl x)
  · exact taken_bounds (settle_bounds (changeTimeState_bounds (setUncertainty_bounds (forwardStep_bounds (.refl x)))))

theorem runResetTime_bounds : KeepsBounds x (runResetTime x).after := by
  unfold runResetTime
  exact taken_bounds (settle_bounds (changeTimeState_bounds (setUncertainty_bounds (State.onTb_bounds (.refl x) rfl))))

theorem runGetMarker_bounds : KeepsBounds x (runGetMarker x).after := by
  unfold runGetMarker; split
  · exact refuse_bounds (.refl x)
  · exact taken_bounds (State.onCcu_bounds (.refl x))

theorem runSetDiscipline_bounds : KeepsBounds x (runSetDiscipline args x).after := by
  unfold runSetDiscipline; split
  · exact taken_bounds (settle_bounds (State.onDisc_bounds (.refl x) rfl))
  · exact refuse_bounds (.refl x)

theorem runReadTempBins_bounds : KeepsBounds x (runReadTempBins args x).after := by
  unfold runReadTempBins; dsimp only; split
  · exact taken_bounds (State.onDisc_bounds (.refl x) rfl)
  · exact refuse_bounds (.refl x)

/-- Writing entries of the temperature table leaves its length (R53, R55). -/
theorem foldl_set_length {α β : Type} (place : β → Nat) (entry : β → α) (l : List β) (bins : List α) :
    (l.foldl (fun bins i => bins.set (place i) (entry i)) bins).length = bins.length := by
  induction l generalizing bins with
  | nil => rfl
  | cons i l ih => rw [List.foldl_cons, ih, List.length_set]

theorem runLoadTempBins_bounds : KeepsBounds x (runLoadTempBins args x).after := by
  unfold runLoadTempBins; dsimp only; split
  · exact taken_bounds (State.onDisc_bounds (.refl x) (foldl_set_length ..))
  · exact refuse_bounds (.refl x)

theorem runDrainSamples_bounds : KeepsBounds x (runDrainSamples args x).after := by
  unfold runDrainSamples; dsimp only; split
  · exact taken_bounds (releaseHolds_bounds (State.onAcq_bounds (.refl x) id id))
  · exact refuse_bounds (.refl x)

theorem runSetAcquisition_bounds : KeepsBounds x (runSetAcquisition args x).after := by
  unfold runSetAcquisition; split
  · exact taken_bounds (State.onAcq_bounds (.refl x) id id)
  · exact refuse_bounds (.refl x)

theorem runGetDetectorChannel_bounds : KeepsBounds x (runGetDetectorChannel args x).after := by
  unfold runGetDetectorChannel; dsimp only; split <;> exact .refl x

theorem runSetDetector_bounds : KeepsBounds x (runSetDetector args x).after := by
  unfold runSetDetector; split
  · exact refuse_bounds (.refl x)
  · exact taken_bounds (settle_bounds (ite_bounds (State.onDet_bounds (.refl x))
      (changeRate_bounds (State.onDet_bounds (.refl x)))))

theorem runSetDetectorChannel_bounds : KeepsBounds x (runSetDetectorChannel args x).after := by
  unfold runSetDetectorChannel; split
  · exact taken_bounds (settle_bounds (afterChannelChange_bounds (State.onDet_bounds (.refl x))))
  · exact refuse_bounds (.refl x)

theorem runGetEvent_bounds : KeepsBounds x (runGetEvent args x).after := by
  unfold runGetEvent; repeat' split
  all_goals exact .refl x

theorem runAckEvents_bounds : KeepsBounds x (runAckEvents p args x).after := by
  unfold runAckEvents; dsimp only; split
  · exact taken_bounds (State.onEv_bounds (.refl x) id)
  · exact refuse_bounds (.refl x)

theorem runSetEventTable_bounds : KeepsBounds x (runSetEventTable args x).after := by
  unfold runSetEventTable; split
  · exact taken_bounds (State.onEv_bounds (.refl x) id)
  · exact refuse_bounds (.refl x)

theorem runSetLink_bounds : KeepsBounds x (runSetLink args x).after := by
  have written : KeepsBounds x (x.onLink fun l => { l with cfg := linkCfgOf args }) := State.onLink_bounds (.refl x) id
  have closed (c : Prop) [Decidable c] := ite_bounds (c := c) (settleWindow_bounds (closeReception_bounds written)) written
  unfold runSetLink; dsimp only; split
  · exact taken_bounds (settle_bounds (ite_bounds (listenFired_bounds (closed _)) (closed _)))
  · exact refuse_bounds (.refl x)

theorem runSetGroups_bounds : KeepsBounds x (runSetGroups args x).after := by
  unfold runSetGroups; split
  · exact taken_bounds (State.onLink_bounds (.refl x) id)
  · exact refuse_bounds (.refl x)

theorem slotForQueue_bounds (named : Nat) (cls : NoticeClass) : KeepsBounds x (slotForQueue named cls x).1 := by
  unfold slotForQueue; dsimp only; repeat' split
  · exact obtainSlot_bounds (.refl x)
  · exact .refl x
  · exact .refl x

theorem runQueueNotice_bounds : KeepsBounds x (runQueueNotice p args x).after := by
  unfold runQueueNotice; dsimp only; repeat' split
  · exact refuse_bounds (.refl x)
  · exact refuse_bounds (.refl x)
  · exact refuse_bounds (.refl x)
  · exact taken_bounds (settle_bounds (onSlot_bounds (slotForQueue_bounds ..)))
  · exact taken_bounds (settle_bounds (waitWithTag_bounds (onSlot_bounds (slotForQueue_bounds ..))))

theorem runAppendNotice_bounds : KeepsBounds x (runAppendNotice p args x).after := by
  unfold runAppendNotice; dsimp only; repeat' split
  · exact refuse_bounds (.refl x)
  · exact refuse_bounds (.refl x)
  · exact refuse_bounds (.refl x)
  · exact taken_bounds (onSlot_bounds (.refl x))

theorem runReleaseNotice_bounds : KeepsBounds x (runReleaseNotice p args x).after := by
  unfold runReleaseNotice; dsimp only; repeat' split
  · exact refuse_bounds (.refl x)
  · exact refuse_bounds (.refl x)
  · exact taken_bounds (settle_bounds (waitWithTag_bounds (.refl x)))

theorem runAbortNotice_bounds : KeepsBounds x (runAbortNotice p args x).after := by
  unfold runAbortNotice; dsimp only; repeat' split
  · exact refuse_bounds (.refl x)
  · exact refuse_bounds (.refl x)
  · exact refuse_bounds (.refl x)
  · exact taken_bounds (settle_bounds (abortEffect_bounds (.refl x)))

theorem runFreeSlot_bounds : KeepsBounds x (runFreeSlot p args x).after := by
  unfold runFreeSlot; dsimp only; repeat' split
  · exact refuse_bounds (.refl x)
  · exact refuse_bounds (.refl x)
  · exact refuse_bounds (.refl x)
  · exact taken_bounds (settle_bounds (emptySlot_bounds (.refl x)))
  · exact refuse_bounds (.refl x)

theorem runSetResponder_bounds : KeepsBounds x (runSetResponder p args x).after := by
  unfold runSetResponder; dsimp only; repeat' split
  · exact refuse_bounds (.refl x)
  · exact taken_bounds (settle_bounds (onSlot_bounds (.refl x)))
  · exact refuse_bounds (.refl x)
  · exact taken_bounds (settle_bounds (onSlot_bounds (.refl x)))
  · exact refuse_bounds (.refl x)
  · exact refuse_bounds (.refl x)
  · exact refuse_bounds (.refl x)

theorem runSetNotices_bounds : KeepsBounds x (runSetNotices args x).after := by
  unfold runSetNotices; split
  · exact taken_bounds (State.onNt_bounds (.refl x) rfl)
  · exact refuse_bounds (.refl x)

theorem runSetCeiling_bounds : KeepsBounds x (runSetCeiling args x).after := by
  unfold runSetCeiling; split
  · exact refuse_bounds (.refl x)
  · exact taken_bounds (settle_bounds (setCeilingTo_bounds (.refl x)))

theorem runRequestLoad_bounds : KeepsBounds x (runRequestLoad p args x).after := by
  unfold runRequestLoad; dsimp only; split
  · exact refuse_bounds (.refl x)
  · exact taken_bounds (settle_bounds (setAsk_bounds (.refl x)))

theorem runReleaseLoad_bounds : KeepsBounds x (runReleaseLoad p args x).after := by
  unfold runReleaseLoad; split
  · exact refuse_bounds (.refl x)
  · exact taken_bounds (settle_bounds (setAsk_bounds (.refl x)))

theorem runSetPower_bounds : KeepsBounds x (runSetPower args x).after := by
  unfold runSetPower; dsimp only; split
  · exact taken_bounds (settle_bounds (ite_bounds (formStanding_bounds (State.onPw_bounds (.refl x)))
      (State.onPw_bounds (.refl x))))
  · exact refuse_bounds (.refl x)

theorem runSetHeater_bounds : KeepsBounds x (runSetHeater args x).after := by
  unfold runSetHeater; dsimp only; split
  · exact refuse_bounds (.refl x)
  · exact taken_bounds (applyLimit_bounds (onThermostat_bounds (.refl x)))

theorem runSetHeaterLimits_bounds : KeepsBounds x (runSetHeaterLimits args x).after := by
  unfold runSetHeaterLimits; split
  · exact taken_bounds (formCaps_bounds (State.onHt_bounds (.refl x)))
  · exact refuse_bounds (.refl x)

end

/-! ### The effects of the events -/

theorem frameEvent_acts {bytes : List Byte} {found : State → Option HeardFrame} {effect : HeardFrame → State → State}
    {s : State} (h : ∀ {f x}, KeepsBounds s x → KeepsBounds s (effect f x)) :
    Acts KeepsBounds s (frameEvent bytes found effect s) := by
  refine .event _ _ ?_
  split
  · exact State.onLink_bounds (.refl s) id
  · exact settle_bounds (goodFrame_bounds h (.refl s))

section
variable {s t : State} {f : HeardFrame}

theorem dropFrame_bounds (h : KeepsBounds s t) : KeepsBounds s (dropFrame f t) :=
  State.onLink_bounds h (by split <;> exact id)

theorem remoteStatusEffect_bounds (h : KeepsBounds s t) : KeepsBounds s (remoteStatusEffect f t) := by
  unfold remoteStatusEffect
  exact ite_bounds (disabledCommand_bounds h) (queueReply_bounds (requestNotice_bounds h))

theorem remoteCeilingEffect_bounds (h : KeepsBounds s t) : KeepsBounds s (remoteCeilingEffect f t) := by
  unfold remoteCeilingEffect; repeat' split
  · exact disabledCommand_bounds h
  · exact queueReply_bounds h
  · exact queueReply_bounds (setCeilingTo_bounds h)

theorem remoteWakeEffect_bounds (h : KeepsBounds s t) : KeepsBounds s (remoteWakeEffect f t) := by
  unfold remoteWakeEffect; repeat' split
  · exact disabledCommand_bounds h
  · exact queueReply_bounds h
  · exact queueReply_bounds (setAsk_bounds h)

theorem remoteQuietEffect_bounds (h : KeepsBounds s t) : KeepsBounds s (remoteQuietEffect f t) := by
  unfold remoteQuietEffect
  exact ite_bounds (disabledCommand_bounds h) (queueReply_bounds (State.onLink_bounds h id))

theorem expireGnss_bounds (h : KeepsBounds s t) : KeepsBounds s (expireGnss t) := setAsk_bounds (State.onDisc_bounds h rfl)

end

/-! ### All commands -/

/-- Every command but the cold reset, its release and the oscillator cycle is an event or a request, and its effect keeps
the queue, F and the capacities. -/
theorem exec_acts (c : Instr) (s : State) :
    (∃ cause, c = .coldReset cause) ∨ c = .resetRelease ∨ c = .oscillatorCycle ∨ Acts KeepsBounds s (exec c s) := by
  have start : KeepsBounds s s := .refl s
  cases c
  case coldReset cause => exact .inl ⟨cause, rfl⟩
  case resetRelease => exact .inr (.inl rfl)
  case oscillatorCycle => exact .inr (.inr (.inl rfl))
  all_goals refine .inr (.inr (.inr ?_))
  all_goals dsimp only [exec, execAccountingSecond, execFullRecalibration, execEmptyRecalibration, execLastGaspStart,
    execLastGaspTimeout, execDormantRestart, execLoadRequestExpiry, execMinOffReached, execDisciplineSecond,
    execRefreshRepeat, execGnssWindowOpen, execPpsCapture, execMissedSecond, execPpsLoss, execLabelReceived,
    execCompareMatch, execHeaterBoundary, execHeaterOffMatch, execHeaterSecond, execDeferralLimitExpiry,
    execSettleComplete, execDataReadyCapture, execFrameReadComplete, execDataReadyDeadline, execMarkerCapture,
    execDetectorFrame, execDurationLimit, execWarmupEnd, execHoldoffEnd, execRadioWarm, execTransmitOpportunity,
    execKeyUpLeadEnd, execEndOfAir, execAckWindowEnd, execStartOfFrameCapture, execReceptionTimeout, execBadFrame,
    execFrameNotAccepted, execAckReceived, execNackReceived, execPollReceived, execPauseReceived, execRemoteStatus,
    execRemoteCeiling, execRemoteWake, execRemoteQuiet, execRemoteBadCommand, execRestExpiry, execPauseExpiry,
    execQuietExpiry, execReplyExpiry, execBackoffExpiry, execSaveComplete, execFramingError, execReplyRead,
    execUnknownCommand, execGetStatus, execGetNotifications, execSetNotifyMask, execGetRights, execSetRights,
    execSaveSettings, execResetPart, execGetTime, execGetTimeStatus, execSetTime, execResetTime, execGetChannel,
    execGetMarker, execGetDiscipline, execSetDiscipline, execReadTempBins, execLoadTempBins, execDrainSamples,
    execGetRing, execSetAcquisition, execGetDetector, execGetDetectorChannel, execSetDetector, execSetDetectorChannel,
    execListEvents, execGetEvent, execAckEvents, execGetEventTable, execSetEventTable, execGetLink,
    execGetLinkSettings, execSetLink, execSetGroups, execGetSlot, execGetNoticeTable, execQueueNotice,
    execAppendNotice, execReleaseNotice, execAbortNotice, execFreeSlot, execSetResponder, execSetNotices, execGetPower,
    execGetLoad, execSetCeiling, execRequestLoad, execReleaseLoad, execSetPower, execGetHeater, execGetHeaterLimits,
    execSetHeater, execSetHeaterLimits, execLabelByteReceived, execRequestBadLengthOrCheck]
  case accountingSecond => exact .event _ _ (accountingWork_bounds start)
  case fullRecalibration => exact .event _ _ (accountingWork_bounds start)
  case emptyRecalibration => exact .event _ _ (accountingWork_bounds start)
  case lastGaspStart => exact .event _ _ (settle_bounds (startLastGasp_bounds start))
  case lastGaspTimeout => exact .event _ _ (settle_bounds (enterDormant_bounds start))
  case dormantRestart => exact .event _ _ (settle_bounds (changeLevel_bounds start))
  case loadRequestExpiry => exact .event _ _ (settle_bounds (ite_bounds (expireGnss_bounds start) (setAsk_bounds start)))
  case minOffReached => exact .event _ _ (settle_bounds (State.onLoad_bounds start))
  case disciplineSecond => exact .event _ _ (settle_bounds (disciplineSecondWork_bounds start))
  case refreshRepeat => exact .event _ _ (settle_bounds (refreshRequest_bounds start))
  case gnssWindowOpen => exact .event _ _ (settle_bounds (openGnssWindow_bounds start))
  case ppsCapture => exact .event _ _ (settle_bounds (qualifyPps_bounds (State.onCcu_bounds start)))
  case missedSecond => exact .event _ _ (State.onDisc_bounds start rfl)
  case ppsLoss => exact .event _ _ (settle_bounds (becomeAbsent_bounds start))
  case labelReceived => exact .event _ _ (settle_bounds (labelByte_bounds start))
  case labelByteReceived => exact .event _ _ (settle_bounds (labelByte_bounds start))
  case compareMatch ch =>
    cases ch
    · exact .event _ _ (strobeByCounting_bounds start)
    · exact .event _ _ (settle_bounds (listenFired_bounds (State.onCcu_bounds start)))
  case heaterBoundary => exact .event _ _ (boundaryFires_bounds start)
  case heaterOffMatch =>
    refine .event _ _ ?_
    split
    · exact start
    · exact firingCallsFor_bounds start
  case heaterSecond =>
    exact .event _ _ (computeHeater_bounds (computeHeater_bounds (testVault_bounds (State.onPace_bounds start))))
  case deferralLimitExpiry => exact .event _ _ (releaseAtLimit_bounds start)
  case settleComplete => exact .event _ _ (startStream_bounds start)
  case dataReadyCapture =>
    refine .event _ _ (State.onAcq_bounds (State.onCcu_bounds start) ?_ ?_) <;> split <;> exact id
  case frameReadComplete =>
    refine .event _ _ ?_
    split
    · exact start
    · exact storeFrame_bounds start
  case dataReadyDeadline =>
    refine .event _ _ ?_
    split
    · exact start
    · exact storeMissing_bounds start
  case markerCapture => exact .event _ _ (State.onCcu_bounds start)
  case detectorFrame => exact .event _ _ (settle_bounds (takeFrame_bounds start))
  case durationLimit => exact .event _ _ (settle_bounds (takeFrame_bounds start))
  case warmupEnd => exact .event _ _ (settle_bounds (takeFrame_bounds start))
  case holdoffEnd => exact .event _ _ (settle_bounds (takeFrame_bounds start))
  case radioWarm => exact .event _ _ (settle_bounds (State.onLink_bounds start id))
  case transmitOpportunity => exact .event _ _ (settle_bounds (takeOpportunity_bounds start))
  case keyUpLeadEnd =>
    refine .event _ _ ?_
    split
    · exact start
    · exact State.onLink_bounds start id
  case endOfAir =>
    refine .event _ _ ?_
    split
    · exact start
    · exact settle_bounds (endOfAir_bounds start)
  case ackWindowEnd =>
    refine .event _ _ ?_
    split
    · exact start
    · exact settle_bounds (windowEnds_bounds start)
  case startOfFrameCapture => exact .event _ _ (settle_bounds (startOfFrame_bounds start))
  case receptionTimeout => exact .event _ _ (settle_bounds (badFrame_bounds start))
  case badFrame => exact .event _ _ (ite_bounds (settle_bounds (badFrame_bounds start)) (State.onLink_bounds start id))
  case frameNotAccepted => exact frameEvent_acts dropFrame_bounds
  case ackReceived => exact frameEvent_acts answerFrame_bounds
  case nackReceived => exact frameEvent_acts answerFrame_bounds
  case pollReceived => exact frameEvent_acts pollSlots_bounds
  case pauseReceived => exact frameEvent_acts fun h => State.onLink_bounds h id
  case remoteStatus => exact frameEvent_acts remoteStatusEffect_bounds
  case remoteCeiling => exact frameEvent_acts remoteCeilingEffect_bounds
  case remoteWake => exact frameEvent_acts remoteWakeEffect_bounds
  case remoteQuiet => exact frameEvent_acts remoteQuietEffect_bounds
  case remoteBadCommand => exact frameEvent_acts queueReply_bounds
  case restExpiry => exact .event _ _ (settle_bounds (State.onLink_bounds start id))
  case pauseExpiry => exact .event _ _ (settle_bounds (State.onLink_bounds start id))
  case quietExpiry => exact .event _ _ (settle_bounds (State.onLink_bounds start id))
  case replyExpiry => exact .event _ _ (settle_bounds (dropOldReplies_bounds start))
  case backoffExpiry => exact .event _ _ (settle_bounds (waitAgain_bounds start))
  case saveComplete =>
    refine .event _ _ ?_
    split
    · exact start
    next saved => exact endSave_bounds start saved
  case framingError => exact .event _ _ (State.onPort_bounds start)
  case replyRead => exact .event _ _ (State.onPort_bounds start)
  case unknownCommand => exact .event _ _ (portReply_bounds start)
  case requestBadLengthOrCheck =>
    exact .event _ _ (ite_bounds (portReply_bounds start) (State.onPort_bounds (portReply_bounds start)))
  case getNotifications => exact .request _ _ _ _ (withoutArgs_bounds fun x => taken_bounds (State.onPort_bounds (.refl x)))
  case getLink => exact .request _ _ _ _ (withoutArgs_bounds fun x => taken_bounds (State.onLink_bounds (.refl x) id))
  case setNotifyMask => exact .request _ _ _ _ (runSetNotifyMask_bounds _ _)
  case setRights => exact .request _ _ _ _ (runSetRights_bounds _)
  case saveSettings => exact .request _ _ _ _ (withoutArgs_bounds (runSaveSettings_bounds _))
  case resetPart => exact .request _ _ _ _ (withoutArgs_bounds fun x => replyReady_bounds (warmReset_bounds (.refl x)))
  case getTimeStatus => exact .request _ _ _ _ (withoutArgs_bounds fun x => taken_bounds (State.onTb_bounds (.refl x) rfl))
  case setTime => exact .request _ _ _ _ (runSetTime_bounds _)
  case resetTime => exact .request _ _ _ _ (withoutArgs_bounds runResetTime_bounds)
  case getChannel => exact .request _ _ _ _ fun x => readBack_bounds _ x
  case getMarker => exact .request _ _ _ _ (withoutArgs_bounds runGetMarker_bounds)
  case setDiscipline => exact .request _ _ _ _ (runSetDiscipline_bounds _)
  case readTempBins => exact .request _ _ _ _ (runReadTempBins_bounds _)
  case loadTempBins => exact .request _ _ _ _ (runLoadTempBins_bounds _)
  case drainSamples => exact .request _ _ _ _ (runDrainSamples_bounds _)
  case setAcquisition => exact .request _ _ _ _ (runSetAcquisition_bounds _)
  case getDetectorChannel => exact .request _ _ _ _ (runGetDetectorChannel_bounds _)
  case setDetector => exact .request _ _ _ _ (runSetDetector_bounds _)
  case setDetectorChannel => exact .request _ _ _ _ (runSetDetectorChannel_bounds _)
  case getEvent => exact .request _ _ _ _ (runGetEvent_bounds _)
  case ackEvents => exact .request _ _ _ _ (runAckEvents_bounds _ _)
  case setEventTable => exact .request _ _ _ _ (runSetEventTable_bounds _)
  case setLink => exact .request _ _ _ _ (runSetLink_bounds _)
  case setGroups => exact .request _ _ _ _ (runSetGroups_bounds _)
  case getSlot => exact .request _ _ _ _ fun x => readBack_bounds _ x
  case queueNotice => exact .request _ _ _ _ (runQueueNotice_bounds _ _)
  case appendNotice => exact .request _ _ _ _ (runAppendNotice_bounds _ _)
  case releaseNotice => exact .request _ _ _ _ (runReleaseNotice_bounds _ _)
  case abortNotice => exact .request _ _ _ _ (runAbortNotice_bounds _ _)
  case freeSlot => exact .request _ _ _ _ (runFreeSlot_bounds _ _)
  case setResponder => exact .request _ _ _ _ (runSetResponder_bounds _ _)
  case setNotices => exact .request _ _ _ _ (runSetNotices_bounds _)
  case getLoad => exact .request _ _ _ _ fun x => readBack_bounds _ x
  case setCeiling => exact .request _ _ _ _ (runSetCeiling_bounds _)
  case requestLoad => exact .request _ _ _ _ (runRequestLoad_bounds _ _)
  case releaseLoad => exact .request _ _ _ _ (runReleaseLoad_bounds _ _)
  case setPower => exact .request _ _ _ _ (runSetPower_bounds _)
  case getHeater => exact .request _ _ _ _ fun x => readBack_bounds _ x
  case setHeater => exact .request _ _ _ _ (runSetHeater_bounds _)
  case setHeaterLimits => exact .request _ _ _ _ (runSetHeaterLimits_bounds _)
  all_goals exact .request _ _ _ _ (withoutArgs_bounds fun x => .refl x)

/-! ### The oscillator cycle (R2) -/

/-- The effective rate lies within ±5,000,000 (R3). -/
theorem rate_bounds (tb : Timebase) : -5000000 ≤ tb.rate ∧ tb.rate ≤ 5000000 := by
  unfold Timebase.rate clampAbs; omega

/-- A cycle keeps F within ±(10^11 − 1) (R2). -/
theorem cycle_fraction {tb : Timebase} (h : -fractionTick < tb.f ∧ tb.f < fractionTick) :
    -fractionTick < tb.cycle.f ∧ tb.cycle.f < fractionTick := by
  have := rate_bounds tb
  unfold Timebase.cycle; dsimp only
  generalize tb.rate = rate at *
  unfold fractionTick at *
  split
  · dsimp only; omega
  · split
    · dsimp only; omega
    · dsimp only; omega

/-- The state after an oscillator cycle. -/
def afterCycle (s : State) : State := (s.onTb Timebase.cycle).onPace fun p => { p with cycles := p.cycles + 1 }

/-- An oscillator cycle counts unless RESET is held low. -/
theorem exec_oscillatorCycle (s : State) :
    exec .oscillatorCycle s = .next (if s.pace.held then s else afterCycle s) := by
  show takeEvent (fun _ => true) afterCycle s = _
  rw [takeEvent_next]
  cases s.pace.held <;> rfl

/-! ### What every command does -/

/-- Every command answers a next state, which has the same commands waiting. -/
theorem exec_next (c : Instr) (s : State) : ∃ t, exec c s = .next t ∧ t.pending = s.pending := by
  rcases exec_acts c s with ⟨cause, rfl⟩ | rfl | rfl | acts
  · exact ⟨_, rfl, rfl⟩
  · show ∃ t, execResetRelease s = .next t ∧ _
    unfold execResetRelease; split
    · exact ⟨_, rfl, (releaseReset_bounds s).pending⟩
    · exact ⟨_, rfl, rfl⟩
  · refine ⟨_, exec_oscillatorCycle s, ?_⟩
    split <;> rfl
  · obtain ⟨t, e, keeps⟩ := acts.keepsBounds
    exact ⟨t, e, keeps.pending⟩

/-- While RESET is held low every command but a cold reset and the release leaves the state (R4, R195). -/
theorem exec_held {c : Instr} {s : State} (held : s.pace.held = true) (noReset : ∀ cause, c ≠ .coldReset cause)
    (noRelease : c ≠ .resetRelease) : exec c s = .next s := by
  rcases exec_acts c s with ⟨cause, rfl⟩ | rfl | rfl | acts
  · exact absurd rfl (noReset cause)
  · exact absurd rfl noRelease
  · rw [exec_oscillatorCycle, held, if_pos rfl]
  · exact acts.of_held held

/-- Settles O2: every command is a reset, a cycle, an event or a request, and each of these answers. -/
theorem commandsAnswerAndResetHolds : Obligations.CommandsAnswerAndResetHolds :=
  ⟨exec_next, fun _ _ => exec_held⟩

/-! ### The bounds at every step -/

theorem exec_fraction {c : Instr} {s t : State} (ok : FractionOk s) (h : exec c s = .next t) : FractionOk t := by
  rcases exec_acts c s with ⟨cause, rfl⟩ | rfl | rfl | acts
  · cases h; show -fractionTick < (0 : Int) ∧ (0 : Int) < fractionTick; decide
  · have h : execResetRelease s = .next t := h
    unfold execResetRelease at h
    split at h <;> cases h
    · unfold FractionOk; rw [(releaseReset_bounds s).fraction]; exact ok
    · exact ok
  · rw [exec_oscillatorCycle] at h
    cases h
    split
    · exact ok
    · exact cycle_fraction ok
  · obtain ⟨u, e, keeps⟩ := acts.keepsBounds
    cases e.symm.trans h
    unfold FractionOk; rw [keeps.fraction]; exact ok

theorem exec_capacity {c : Instr} {s t : State} (ok : CapacityOk s) (h : exec c s = .next t) : CapacityOk t := by
  rcases exec_acts c s with ⟨cause, rfl⟩ | rfl | rfl | acts
  · cases h; exact coldReset_capacity cause ok
  · have h : execResetRelease s = .next t := h
    unfold execResetRelease at h
    split at h <;> cases h
    · exact (releaseReset_bounds s).capacity ok
    · exact ok
  · rw [exec_oscillatorCycle] at h
    cases h
    split
    · exact ok
    · exact ok
  · obtain ⟨u, e, keeps⟩ := acts.keepsBounds
    cases e.symm.trans h
    exact keeps.capacity ok

/-- What every command keeps whatever waits, every step keeps. -/
theorem step_keeps {P : State → Prop} (exec_keeps : ∀ {c s t}, P s → exec c s = .next t → P t)
    (queue : ∀ {s rest}, P s → P { s with pending := rest }) {s t : State} (ok : P s) (h : step s = .next t) : P t := by
  unfold step at h
  split at h
  · cases h; exact ok
  · exact exec_keeps (queue ok) h

/-- Settles O55: F moves only at an oscillator cycle and a cold reset, and the operations that add to a table make room
in it. -/
theorem stepsKeepFractionAndCapacities : Obligations.StepsKeepFractionAndCapacities :=
  ⟨fun _ _ => step_keeps exec_fraction fun ok => ok, fun _ _ => step_keeps exec_capacity fun ok => ok⟩

end Sys2Proof.Machine
end

section
/-! Station time without its discipline: GET_TIME (R7), a run of oscillator cycles (R2) and the bounds after a reset. -/

namespace Sys2Proof.Machine

/-! ### Commands that only read -/

/-- A command without arguments that reads answers its data and changes nothing else; without the right it is DENIED
and with an argument byte OUT_OF_RANGE (R188). -/
theorem readCommand_of {mk : Port → Byte → List Byte → Instr} {data shown : Port → State → List Byte}
    (meaning : ∀ p tag args s, exec (mk p tag args) s =
      request p tag .read (withoutArgs args fun x => taken (data p x) x) s)
    (same : ∀ p tag s, data p (s.taking p tag) = shown p s) : ReadCommand mk shown := by
  intro p tag s released
  refine ⟨fun adm => ?_, fun args adm some => ?_, fun args denied => ?_⟩
  · rw [meaning]; exact request_answers adm (by rw [← same p tag]; rfl)
  · rw [meaning]; exact request_answers adm (by simp [withoutArgs, some, refuse])
  · rw [meaning]; exact request_denied released (right := .read) denied tag _

/-- Settles O10: GET_TIME only reads, and a reply in preparation is no part of its data. -/
theorem getTimeReadsTheTime : Obligations.GetTimeReadsTheTime :=
  readCommand_of (data := fun _ x => timeData x.tb) (fun _ _ _ _ => rfl) fun _ _ s => by
    show timeData s.tb = _
    unfold timeData timeBytes
    cases s.tb.state <;> rfl

/-! ### After a reset -/

theorem reset_fraction : FractionOk State.reset := by unfold FractionOk; decide

theorem reset_account : AccountOk State.reset := by unfold AccountOk; decide

theorem reset_rights : AllRightsOk State.reset :=
  ⟨by unfold RightsOk; decide, fun _ e => (by cases e), fun _ e => (by cases e)⟩

theorem reset_capacity : CapacityOk State.reset :=
  ⟨by decide, by decide, by decide, by decide, rfl, rfl, fun _ e => (by cases e), fun _ e => (by cases e)⟩

/-- Every load is OFF after a reset. -/
theorem reset_loads : LoadsAllowed State.reset := by intro l on; cases l <;> cases on

/-- The default caps are at most 64 (chapter 10). -/
theorem defaultLimits_bounded : HeaterLimits.default.bounded :=
  ⟨fun h l => by cases h <;> cases l <;> decide, by decide⟩

theorem reset_heaters : HeaterOk State.reset :=
  ⟨fun _ => rfl, rfl, defaultLimits_bounded, fun _ e => (by cases e), fun _ e => (by cases e), fun h => by
    cases h <;> exact ⟨rfl, by decide, by decide, fun _ e => (by cases e)⟩⟩

/-- Every slot is EMPTY after a reset. -/
theorem slotAt_reset (n : Nat) : slotAt n State.reset = .clear := by
  show (List.replicate 12 Slot.clear)[n]?.getD .clear = .clear
  rw [List.getElem?_replicate]; split <;> rfl

/-- No slot is PREEMPTED, the stack is empty and the line is idle after a reset. -/
theorem reset_stack : StackOk State.reset := by
  refine ⟨rfl, by decide, List.Pairwise.nil, fun _ m => (by cases m), fun n => ?_, fun _ _ _ _ e => (by cases e),
    fun _ _ _ _ e => (by cases e), fun _ _ e => (by cases e), fun busy => absurd rfl busy⟩
  rw [slotAt_reset]
  constructor
  · intro e; cases e
  · rintro ⟨_, m, _⟩; cases m

/-- Settles O54: each bound holds of the reset values. -/
theorem resetKeepsTheBounds : Obligations.ResetKeepsTheBounds :=
  ⟨reset_fraction, reset_account, reset_rights, reset_capacity, reset_loads, reset_heaters, reset_stack⟩

/-! ### A run of oscillator cycles -/

/-- What a cycle that does not wrap station time adds: with F counted as 10^-11 ticks, one tick and the rate (R2). -/
theorem cycle_advance {tb : Timebase} (room : tb.now + 2 < timeSpan) :
    (tb.cycle.now : Int) * fractionTick + tb.cycle.f = (tb.now + 1) * fractionTick + tb.f + tb.rate ∧
      tb.cycle.now ≤ tb.now + 2 ∧ tb.cycle.rate = tb.rate := by
  have two : addTime tb.now 2 = tb.now + 2 := Nat.mod_eq_of_lt room
  have one : addTime tb.now 1 = tb.now + 1 := Nat.mod_eq_of_lt (Nat.lt_of_succ_lt room)
  unfold Timebase.cycle; dsimp only
  split
  · exact ⟨by rw [two]; push_cast; ring, by rw [two], rfl⟩
  · split
    · exact ⟨by ring, by simp, rfl⟩
    · exact ⟨by rw [one]; push_cast; ring, by rw [one]; exact Nat.le_succ _, rfl⟩

theorem run_succ_of_next {n : Nat} {s t : core.State} (h : core.step s = .next t) :
    core.run (n + 1) s = core.run n t := by simp only [Host.Core.run, h]

/-- A step on a queue of cycles. -/
theorem step_cycle {s : State} (released : s.pace.held = false) (n : Nat) :
    core.step { s with pending := List.replicate (n + 1) .oscillatorCycle } =
      .next { afterCycle s with pending := List.replicate n .oscillatorCycle } := by
  show exec .oscillatorCycle { s with pending := List.replicate n .oscillatorCycle } = _
  rw [exec_oscillatorCycle]
  show Host.Outcome.next (if s.pace.held then _ else _) = _
  rw [released]; rfl

/-- The ticks of a run of cycles that does not wrap station time (R2). -/
theorem run_cycles (n : Nat) : ∀ s : State, s.pace.held = false → FractionOk s → s.tb.now + 2 * n < timeSpan →
    ∃ t, core.run n { s with pending := List.replicate n .oscillatorCycle } = .next t ∧ FractionOk t ∧
      (t.tb.now : Int) * fractionTick + t.tb.f = (s.tb.now + n) * fractionTick + s.tb.f + n * s.tb.rate := by
  induction n with
  | zero => exact fun s _ ok _ => ⟨{ s with pending := [] }, rfl, ok, by simp⟩
  | succ n ih =>
    intro s released ok room
    obtain ⟨sum, near, rate⟩ := cycle_advance (tb := s.tb) (lt_of_le_of_lt (Nat.add_le_add_left (by omega) _) room)
    obtain ⟨t, run, okT, sumT⟩ := ih (afterCycle s) released (cycle_fraction ok)
      (lt_of_le_of_lt ((Nat.add_le_add_right near _).trans_eq (by ring)) room)
    refine ⟨t, ?_, okT, ?_⟩
    · rw [run_succ_of_next (step_cycle released n)]; exact run
    · have first : (afterCycle s).tb = s.tb.cycle := rfl
      rw [sumT, first, rate]
      push_cast
      linear_combination sum

/-- Settles O9, by the meaning of one cycle and induction on the number of cycles. -/
theorem oscillatorCyclesKeepTime : Obligations.OscillatorCyclesKeepTime := by
  refine ⟨fun s released => ?_, run_cycles⟩
  rw [exec_oscillatorCycle, released]
  rfl

end Sys2Proof.Machine
end

section
/-! The warm reset of RESET_PART (R196): what the quiet report at its end does to a heater, and with it every block. -/

namespace Sys2Proof.Machine

/-! ### One heater's part -/

@[simp] theorem PerHeater.get_update_self {α : Type} (x : PerHeater α) (h : Heater) (f : α → α) :
    (x.update h f).get h = f (x.get h) := by cases h <;> rfl

theorem PerHeater.get_update_ne {α : Type} (x : PerHeater α) {h k : Heater} (ne : k ≠ h) (f : α → α) :
    (x.update h f).get k = x.get k := by
  cases h <;> cases k
  case hb.hb => exact absurd rfl ne
  case ho.ho => exact absurd rfl ne
  case hb.ho => rfl
  case ho.hb => rfl

theorem PerHeater.update_update {α : Type} (x : PerHeater α) (h : Heater) (f g : α → α) :
    (x.update h f).update h g = x.update h fun a => g (f a) := by cases h <;> rfl

/-- Two changes that agree on the value they change are one. -/
theorem PerHeater.update_congr {α : Type} {x : PerHeater α} {h : Heater} {f g : α → α}
    (e : f (x.get h) = g (x.get h)) : x.update h f = x.update h g := by
  cases h
  · exact congrArg (PerHeater.mk · x.ho) e
  · exact congrArg (PerHeater.mk x.hb) e

/-- The state after an edge of a heater's output that is not reported (R30, R66, R86). -/
def edgeAt (h : Heater) (level : Bool) (t : Time) (s : State) : State :=
  { s with
    ccu := { s.ccu with heaters := s.ccu.heaters.update h fun c => { c with output := level } }
    ht := { s.ht with
      units := s.ht.units.update h fun u => { u with edges := rollInc seqSpan u.edges, lastEdge := some t } }
    det := { s.det with lastEdge := some t }
    acq := { s.acq with edgePending := true } }

theorem driveOutput_same {h : Heater} {level : Bool} {s : State} (e : (s.ccu.heaters.get h).output = level) (t : Time)
    (switched : Bool) : driveOutput h level t switched s = s := if_pos e

theorem driveOutput_edge {h : Heater} {level : Bool} {s : State} (ne : (s.ccu.heaters.get h).output ≠ level) (t : Time) :
    driveOutput h level t false s = edgeAt h level t s := if_neg ne

/-! ### The quiet report of a reset (R32, R180) -/

/-- The end of a hold is an edge: the output is not at the level that the schedule calls for. -/
def Paired.releaseEdge (now : Time) (c : Paired) : Bool := c.hold && decide (c.output ≠ c.level now)

/-- A paired channel after the end of its hold. -/
def Paired.unheld (now : Time) (c : Paired) : Paired :=
  { c with hold := false, output := if c.hold then c.level now else c.output }

/-- A thermostat after the end of its deferral, with the edge counted where there is one. -/
def Thermostat.undeferred (edge : Bool) (now : Time) (u : Thermostat) : Thermostat :=
  if edge then { u with deferral := .none, edges := rollInc seqSpan u.edges, lastEdge := some now }
  else { u with deferral := .none }

/-- The state after the end of one heater's hold. -/
def unheld (h : Heater) (s : State) : State :=
  let now := s.tb.now
  let edge := (s.ccu.heaters.get h).releaseEdge now
  { s with
    ccu := { s.ccu with heaters := s.ccu.heaters.update h (Paired.unheld now) }
    ht := { s.ht with units := s.ht.units.update h (Thermostat.undeferred edge now) }
    det := { s.det with lastEdge := if edge then some now else s.det.lastEdge }
    acq := { s.acq with edgePending := edge || s.acq.edgePending } }

/-- The state in which a heater has neither a hold nor a deferral, with its output as it was. -/
def freed (h : Heater) (s : State) : State :=
  { s with
    ccu := { s.ccu with heaters := s.ccu.heaters.update h fun c => { c with hold := false } }
    ht := { s.ht with units := s.ht.units.update h fun u => { u with deferral := .none } } }

theorem unheld_of_no_edge {h : Heater} {s : State} (none : (s.ccu.heaters.get h).releaseEdge s.tb.now = false) :
    unheld h s = freed h s := by
  have paired : s.ccu.heaters.update h (Paired.unheld s.tb.now) =
      s.ccu.heaters.update h fun c => { c with hold := false } := by
    apply PerHeater.update_congr
    generalize s.ccu.heaters.get h = c at none
    cases hold : c.hold <;> simp_all [Paired.unheld, Paired.releaseEdge]
  unfold unheld
  simp only [none, paired]
  rfl

theorem unheld_of_edge {h : Heater} {s : State} (edge : (s.ccu.heaters.get h).releaseEdge s.tb.now = true) :
    unheld h s = edgeAt h ((s.ccu.heaters.get h).level s.tb.now) s.tb.now (freed h s) := by
  have paired : s.ccu.heaters.update h (Paired.unheld s.tb.now) =
      s.ccu.heaters.update h fun c => { c with hold := false, output := (s.ccu.heaters.get h).level s.tb.now } := by
    apply PerHeater.update_congr
    generalize s.ccu.heaters.get h = c at edge
    simp_all [Paired.unheld, Paired.releaseEdge]
  unfold unheld edgeAt freed
  simp only [edge, paired, PerHeater.update_update]
  rfl

/-- The freed heater driven to the level its schedule calls for, where it was held, ends its hold. -/
theorem driveOutput_freed {h : Heater} {s : State} (hold : (s.ccu.heaters.get h).hold = true) :
    driveOutput h ((s.ccu.heaters.get h).level s.tb.now) s.tb.now false (freed h s) = unheld h s := by
  have out : ((freed h s).ccu.heaters.get h).output = (s.ccu.heaters.get h).output := by simp [freed]
  by_cases e : (s.ccu.heaters.get h).output = (s.ccu.heaters.get h).level s.tb.now
  · rw [driveOutput_same (out.trans e), unheld_of_no_edge (by simp [Paired.releaseEdge, e])]
  · rw [driveOutput_edge (fun c => e (out.symm.trans c)), unheld_of_edge (by simp [Paired.releaseEdge, hold, e])]

/-- The report that the quiet request is clear ends the heater's hold. -/
theorem quietHeater_clear (h : Heater) (s : State) : quietHeater h false s = unheld h s := by
  have level : (pairedOf h (freed h s)).level s.tb.now = (s.ccu.heaters.get h).level s.tb.now := by
    simp [pairedOf, freed, Paired.level]
  show (if (s.ccu.heaters.get h).hold then
    driveOutput h ((pairedOf h (freed h s)).level s.tb.now) s.tb.now false (freed h s) else freed h s) = _
  split
  next hold => rw [level, driveOutput_freed hold]
  next hold => exact (unheld_of_no_edge (by simp [Paired.releaseEdge, hold])).symm

theorem reportQuiet_clear (s : State) :
    reportQuiet false s = unheld .ho (unheld .hb (s.onHt fun u => { u with quiet := false })) := by
  rw [reportQuiet, quietHeater_clear, quietHeater_clear]

/-! ### RESET_PART -/

/-- The blocks at their warm-reset values with both holds ended (R196). -/
def warmed (s : State) : State := reportQuiet false (warmBlocks s)

theorem warmed_eq (s : State) :
    warmed s = unheld .ho (unheld .hb ((warmBlocks s).onHt fun u => { u with quiet := false })) := reportQuiet_clear _

theorem exec_resetPart {p : Port} {tag : Byte} {s : State} (adm : Admits p .configure s) :
    exec (.resetPart p tag []) s =
      .next ((settle (warmed (s.taking p tag))).onPort p fun r => { r with reply := .ready (replyFrame .ok tag []) }) :=
  request_admitted adm tag _

theorem workingState_eq (c : ChannelCfg) (level : Option Level) :
    workingState c level =
      if c.enabled ∧ (c.critical ∨ (level ≠ some .critical ∧ level ≠ some .dormant)) then .warmup else .off := by
  unfold workingState
  cases c.enabled <;> cases c.critical <;> simp [← not_or]

/-- A reset clears the port counts and the notifications; the zeros sent during the write stay of the port that asked. -/
theorem warm_ports (p q : Port) (tag : Byte) (s : State) :
    ((s.taking p tag).ports.map PortRec.warm).get q =
      { s.ports.get q with
        transaction := .none, reply := .none, notices := 0, discarded := 0, badChecks := 0, framing := 0
        sdo := if q = p then [] else (s.ports.get q).sdo } := by
  cases p <;> cases q <;> rfl

/-- The link state of a warm reset (R124, R132). -/
theorem link_warmReset (level : Option Level) (l : Link) :
    l.warmReset level = { Link.cold with
      state := match level with | none => .off | some .dormant => .off | some _ => .clear
      worst := match level with
        | none => ⟨.off, .off, .off⟩
        | some .dormant => ⟨.off, .off, .off⟩
        | some _ => ⟨.clear, .clear, .clear⟩
      warm := l.warm, warmAt := l.warmAt, restPeriod := l.cfg.rest, listenAsk := l.listenAsk
      cfg := l.cfg, groups := l.groups } := by
  rcases level with _ | level
  · rfl
  · cases level <;> rfl

/-- The heaters at a warm reset: each hold ended. -/
theorem warmed_heater (s : State) (h : Heater) :
    (warmed s).ccu.heaters.get h = (s.ccu.heaters.get h).unheld s.tb.now ∧
      (warmed s).ht.units.get h =
        (s.ht.units.get h).undeferred ((s.ccu.heaters.get h).releaseEdge s.tb.now) s.tb.now := by
  rw [warmed_eq]; cases h <;> exact ⟨rfl, rfl⟩

/-- The end of some hold is an edge. -/
def holdEdge (s : State) : Bool := s.ccu.heaters.ho.releaseEdge s.tb.now || s.ccu.heaters.hb.releaseEdge s.tb.now

theorem Paired.releaseEdge_iff (now : Time) (c : Paired) :
    c.releaseEdge now = true ↔ c.hold = true ∧ c.level now ≠ c.output := by
  rw [releaseEdge, Bool.and_eq_true, decide_eq_true_iff, ne_comm]

theorem holdEdge_iff (s : State) : holdEdge s = true ↔ ∃ h, (s.ccu.heaters.get h).hold = true ∧
    (s.ccu.heaters.get h).level s.tb.now ≠ (s.ccu.heaters.get h).output := by
  simp only [holdEdge, Bool.or_eq_true, Paired.releaseEdge_iff]
  constructor
  · rintro (ho | hb)
    · exact ⟨.ho, ho⟩
    · exact ⟨.hb, hb⟩
  · rintro ⟨h, edge⟩
    cases h
    · exact .inr edge
    · exact .inl edge

/-- The edge mark and the last edge at a warm reset are those of the ends of the holds. -/
theorem warmed_edge (s : State) :
    (warmed s).acq.edgePending = holdEdge s ∧
      (warmed s).det.lastEdge = if holdEdge s then some s.tb.now else none := by
  have mark : (warmed s).acq.edgePending =
      (s.ccu.heaters.ho.releaseEdge s.tb.now || (s.ccu.heaters.hb.releaseEdge s.tb.now || false)) := by
    rw [warmed_eq]; rfl
  have last : (warmed s).det.lastEdge = if s.ccu.heaters.ho.releaseEdge s.tb.now then some s.tb.now
      else if s.ccu.heaters.hb.releaseEdge s.tb.now then some s.tb.now else none := by
    rw [warmed_eq]; rfl
  refine ⟨by rw [mark, Bool.or_false]; rfl, ?_⟩
  rw [last, holdEdge]
  cases s.ccu.heaters.ho.releaseEdge s.tb.now <;> rfl

theorem Paired.unheld_of_free {c : Paired} (free : c.hold = false) (now : Time) : c.unheld now = c := by
  obtain ⟨⟩ := c; simp_all [Paired.unheld]

/-- Settles O7: RESET_PART runs the warm reset, whose quiet report ends both holds. -/
theorem resetPartTakesWarmResetValues : Obligations.ResetPartTakesWarmResetValues := by
  intro p tag s adm
  have heater := warmed_heater (s.taking p tag)
  obtain ⟨mark, last⟩ := warmed_edge (s.taking p tag)
  refine ⟨warmed (s.taking p tag), exec_resetPart adm, ?pace, ?tb, ?ccu, ?disc, ?acq, ?det, ?ev, ?link, ?nt, ?pw, ?ht,
    ?kept, ?free, ?held, ?noEdge, ?edge, ?ports, ?store⟩
  case pace => rw [warmed_eq]; rfl
  case tb => rw [warmed_eq]; rfl
  case ccu => rw [warmed_eq]; rfl
  case disc => rw [warmed_eq]; rfl
  case acq => rw [warmed_eq]; rfl
  case det =>
    simp only [← workingState_eq]
    rw [warmed_eq]; rfl
  case ev => rw [warmed_eq]; rfl
  case link =>
    have reset : (warmed (s.taking p tag)).link = s.link.warmReset s.pw.level := by rw [warmed_eq]; rfl
    exact reset.trans (link_warmReset ..)
  case nt => rw [warmed_eq]; rfl
  case pw => rw [warmed_eq]; rfl
  case ht => rw [warmed_eq]; rfl
  case store => rw [warmed_eq]; rfl
  case ports => intro q; rw [← warm_ports, warmed_eq]; rfl
  case kept =>
    intro h
    obtain ⟨channel, unit⟩ := heater h
    rw [channel, unit]
    unfold Thermostat.undeferred
    split <;> exact ⟨rfl, rfl, rfl, rfl, rfl, rfl, rfl⟩
  case free =>
    intro h free
    obtain ⟨channel, unit⟩ := heater h
    have free : ((s.taking p tag).ccu.heaters.get h).hold = false := free
    rw [channel, unit, Paired.unheld_of_free free]
    simp only [Paired.releaseEdge, free]
    exact ⟨rfl, rfl⟩
  case held =>
    intro h hold
    obtain ⟨channel, unit⟩ := heater h
    have driven := driveOutput_freed (s := s) hold
    unfold freed at driven
    dsimp only
    rw [driven, channel, unit]
    exact ⟨(PerHeater.get_update_self ..).symm, (PerHeater.get_update_self ..).symm⟩
  case noEdge =>
    intro same
    have none : holdEdge (s.taking p tag) = false :=
      Bool.eq_false_iff.2 fun edge =>
        have ⟨h, hold, ne⟩ := (holdEdge_iff s).1 edge
        ne (same h hold)
    exact ⟨mark.trans none, by rw [last, none]; rfl⟩
  case edge =>
    intro h hold ne
    have edge : holdEdge (s.taking p tag) = true := (holdEdge_iff s).2 ⟨h, hold, ne⟩
    exact ⟨mark.trans edge, by rw [last, edge]; rfl⟩

end Sys2Proof.Machine
end

section
/-! What a forward step and the backward set realign (R33 to R35): each of the strobe, the two heater outputs and the
listen test changes a part of the state of its own, whatever the order they are taken in, and what it makes of its part
depends on that part and on what none of them changes. -/

namespace Sys2Proof.Machine

/-! ### The parts -/

/-- The parts of the state that a realignment works on. -/
inductive Part where
  | strobe
  | heater (h : Heater)
  | listen

/-- Channel 4 with the pulses on CONV, and the Acquisition Unit but for its edge mark. -/
def State.strobePart (s : State) : Compare × Nat × Acquisition :=
  (s.ccu.ch4, s.ccu.convPulses, { s.acq with edgePending := false })

/-- A heater's paired channel and its thermostat record. -/
def State.heaterPart (s : State) (h : Heater) : Paired × Thermostat := (s.ccu.heaters.get h, s.ht.units.get h)

/-- Channel 7 and the listen request. -/
def State.listenPart (s : State) : Compare × Bool := (s.ccu.ch7, s.link.listenAsk)

/-- The state without what a realignment can change. -/
def State.beside (s : State) : State :=
  { s with
    ccu := .cold, acq := .cold, ht := s.ht.kept, link := { s.link with listenAsk := false }
    det := { s.det with lastEdge := none, waiting := [], lastHanded := 0 }, ev := { s.ev with records := [] } }

/-- An operation on one part: every other part and what is beside them stay. -/
structure OnlyChanges (a : Part) (s t : State) : Prop where
  beside : t.beside = s.beside
  strobe : a ≠ .strobe → t.strobePart = s.strobePart
  heater : ∀ h, a ≠ .heater h → t.heaterPart h = s.heaterPart h
  listen : a ≠ .listen → t.listenPart = s.listenPart

variable {a : Part} {h : Heater} {s t : State}

theorem OnlyChanges.refl (a : Part) (s : State) : OnlyChanges a s s := ⟨rfl, fun _ => rfl, fun _ _ => rfl, fun _ => rfl⟩

theorem OnlyChanges.trans {u : State} (p : OnlyChanges a s t) (q : OnlyChanges a t u) : OnlyChanges a s u :=
  ⟨q.beside.trans p.beside, fun n => (q.strobe n).trans (p.strobe n), fun h n => (q.heater h n).trans (p.heater h n),
    fun n => (q.listen n).trans (p.listen n)⟩

theorem ite_only {c : Prop} [Decidable c] {x y : State} (hx : OnlyChanges a s x) (hy : OnlyChanges a s y) :
    OnlyChanges a s (if c then x else y) := by split <;> assumption

/-! ### The operations of a heater -/

theorem onPaired_only (f : Paired → Paired) : OnlyChanges (.heater h) s (onPaired h f s) :=
  ⟨rfl, fun _ => rfl, fun k ne => by
    simp only [State.heaterPart, onPaired, State.onCcu]
    rw [PerHeater.get_update_ne _ (fun e => ne (congrArg Part.heater e.symm))], fun _ => rfl⟩

theorem onThermostat_only {f : Thermostat → Thermostat} (kept : ∀ u, (f u).kept = u.kept) :
    OnlyChanges (.heater h) s (onThermostat h f s) := by
  refine ⟨?_, fun _ => rfl, fun k ne => ?_, fun _ => rfl⟩
  · have ht : (onThermostat h f s).ht.kept = s.ht.kept := by
      cases h <;> simp [onThermostat, HeaterUnit.kept, PerHeater.update, kept]
    exact congrArg (fun u => { s.beside with ht := u }) ht
  · simp only [State.heaterPart, onThermostat, State.onHt]
    rw [PerHeater.get_update_ne _ (fun e => ne (congrArg Part.heater e.symm))]

theorem driveOutput_only (level : Bool) (x : Time) (switched : Bool) :
    OnlyChanges (.heater h) s (driveOutput h level x switched s) := by
  unfold driveOutput; dsimp only
  have edge := (onPaired_only (h := h) (s := s) fun p => { p with output := level }).trans
    (onThermostat_only (f := fun u => { u with edges := rollInc seqSpan u.edges, lastEdge := some x }) fun _ => rfl)
  split
  · exact .refl ..
  · split
    · exact ⟨edge.beside, fun n => edge.strobe n, edge.heater, edge.listen⟩
    · exact ⟨edge.beside, fun n => edge.strobe n, edge.heater, edge.listen⟩

theorem releaseAtLimit_only (h : Heater) (s : State) : OnlyChanges (.heater h) s (releaseAtLimit h s) :=
  have freed := (onPaired_only (h := h) (s := s) fun p => { p with hold := false }).trans
    (onThermostat_only (f := fun u => { u with deferral := .released }) fun _ => rfl)
  freed.trans (driveOutput_only ..)

theorem firingCallsFor_only (level : Bool) (x : Time) :
    OnlyChanges (.heater h) s (firingCallsFor h level x s) := by
  have deferred := onThermostat_only (h := h) (s := s) (f := fun u => { u with deferral := .deferring s.pace.cycles })
    fun _ => rfl
  exact ite_only (ite_only (ite_only (deferred.trans (releaseAtLimit_only ..)) deferred) (.refl ..))
    (driveOutput_only ..)

theorem pairedStep_only (h : Heater) (new : Time) (s : State) : OnlyChanges (.heater h) s (pairedStep h new s) := by
  unfold pairedStep; dsimp only
  split
  · exact (onPaired_only _).trans (firingCallsFor_only ..)
  · split
    · exact .refl ..
    · exact ite_only (firingCallsFor_only ..) (.refl ..)

theorem pairedSet_only (h : Heater) (new : Time) (s : State) : OnlyChanges (.heater h) s (pairedSet h new s) :=
  ite_only (.refl ..) ((onPaired_only _).trans (firingCallsFor_only ..))

/-! ### The operations of the listen test -/

theorem onListen_only (f : Compare → Compare) (g : Link → Bool) (s : State) :
    OnlyChanges .listen s
      ((s.onLink fun l => { l with listenAsk := g l }).onCcu fun c => { c with ch7 := f c.ch7 }) :=
  ⟨rfl, fun _ => rfl, fun _ _ => rfl, fun n => absurd rfl n⟩

theorem listenPoint_only (s : State) : OnlyChanges .listen s (listenPoint s) := onListen_only _ _ s

theorem listenFired_only (s : State) : OnlyChanges .listen s (listenFired s) := ite_only (listenPoint_only s) (.refl ..)

theorem onCh7_only (f : Compare → Compare) (s : State) :
    OnlyChanges .listen s (s.onCcu fun c => { c with ch7 := f c.ch7 }) :=
  ⟨rfl, fun _ => rfl, fun _ _ => rfl, fun n => absurd rfl n⟩

theorem listenAtStep_only (new : Time) (s : State) : OnlyChanges .listen s (listenAtStep new s) :=
  ite_only ((onCh7_only _ s).trans (listenFired_only _)) (.refl ..)

theorem listenAtSet_only (new : Time) (s : State) : OnlyChanges .listen s (listenAtSet new s) :=
  ite_only (.refl ..) ((onCh7_only _ s).trans (listenFired_only _))

/-! ### The operations of the strobe -/

/-- What the storing of a frame keeps of the Acquisition Unit. -/
structure KeepsCounts (s t : State) : Prop where
  only : OnlyChanges .strobe s t
  ccu : t.ccu.ch4 = s.ccu.ch4 ∧ t.ccu.convPulses = s.ccu.convPulses
  missing : t.acq.missing = s.acq.missing
  aborted : t.acq.aborted = s.acq.aborted

theorem KeepsCounts.trans {u : State} (p : KeepsCounts s t) (q : KeepsCounts t u) : KeepsCounts s u :=
  ⟨p.only.trans q.only, ⟨q.ccu.1.trans p.ccu.1, q.ccu.2.trans p.ccu.2⟩, q.missing.trans p.missing,
    q.aborted.trans p.aborted⟩

theorem ringLostAll_counts (es : List Nat) (s : State) : KeepsCounts s (ringLostAll es s) := by
  induction es generalizing s with
  | nil => exact ⟨.refl .., ⟨rfl, rfl⟩, rfl, rfl⟩
  | cons e es ih =>
    have one : KeepsCounts s (flagRingLost e s) :=
      ⟨⟨rfl, fun _ => rfl, fun _ _ => rfl, fun _ => rfl⟩, ⟨rfl, rfl⟩, rfl, rfl⟩
    exact one.trans (ih _)

theorem enterRing_counts (f : Frame) (s : State) : KeepsCounts s (enterRing f s) := by
  have ring (g : Acquisition → Acquisition) (missing : (g s.acq).missing = s.acq.missing)
      (aborted : (g s.acq).aborted = s.acq.aborted) : KeepsCounts s (s.onAcq g) :=
    ⟨⟨rfl, fun n => absurd rfl n, fun _ _ => rfl, fun _ => rfl⟩, ⟨rfl, rfl⟩, missing, aborted⟩
  unfold enterRing; split
  · exact ring _ rfl rfl
  · dsimp only; split
    · exact ring _ rfl rfl
    · split
      · exact (ring _ rfl rfl).trans (ringLostAll_counts ..)
      · exact ring _ rfl rfl

theorem storeFrame_counts (fl : InFlight) (x : Option Samples) (s : State) : KeepsCounts s (storeFrame fl x s) := by
  unfold storeFrame; dsimp only
  generalize e : enterRing _ _ = u
  have entered := e ▸ enterRing_counts _ _
  have marks : KeepsCounts s ((s.onCcu fun c => { c with markerPending := false }).onAcq fun a =>
      { a with nextSeq := rollInc seqSpan ((s.acq.nextSeq + fl.passed) % seqSpan), edgePending := false
               inFlight := none }) :=
    ⟨⟨rfl, fun n => absurd rfl n, fun _ _ => rfl, fun _ => rfl⟩, ⟨rfl, rfl⟩, rfl, rfl⟩
  exact (marks.trans entered).trans ⟨⟨rfl, fun _ => rfl, fun _ _ => rfl, fun _ => rfl⟩, ⟨rfl, rfl⟩, rfl, rfl⟩

/-- What a firing of channel 4 leaves: one pulse on CONV, a new frame in flight, and the counts of a frame that was in
flight (R28, R62). -/
structure Strobed (x : Time) (passed : Nat) (mark : Bool) (period : Nat) (s t : State) : Prop where
  only : OnlyChanges .strobe s t
  ch4 : t.ccu.ch4 = s.ccu.ch4
  pulses : t.ccu.convPulses = s.ccu.convPulses + 1
  inFlight : t.acq.inFlight =
    some { timestamp := x, passed := passed, setMark := mark, deadline := x + period * 4 / 5, reading := false }
  missing : t.acq.missing = if s.acq.inFlight = none then s.acq.missing else (s.acq.missing + 1) % 2 ^ 32
  aborted : t.acq.aborted = if s.acq.inFlight.any (·.reading) then min 65535 (s.acq.aborted + 1) else s.acq.aborted

theorem convertStrobe_strobed (x : Time) (passed : Nat) (mark : Bool) (period : Nat) (s : State) :
    Strobed x passed mark period s (convertStrobe x passed mark period s) := by
  unfold convertStrobe; dsimp only
  have pulse : OnlyChanges .strobe s (s.onCcu fun c => { c with convPulses := c.convPulses + 1 }) :=
    ⟨rfl, fun n => absurd rfl n, fun _ _ => rfl, fun _ => rfl⟩
  have flight (y : State) (f : InFlight) : OnlyChanges .strobe y (y.onAcq fun a => { a with inFlight := some f }) :=
    ⟨rfl, fun n => absurd rfl n, fun _ _ => rfl, fun _ => rfl⟩
  split
  next none =>
    have none : s.acq.inFlight = Option.none := none
    exact ⟨pulse.trans (flight _ _), rfl, rfl, rfl, by rw [none]; rfl, by rw [none]; rfl⟩
  next fl some =>
    have some : s.acq.inFlight = Option.some fl := some
    generalize from_ : (if fl.reading then _ else _ : State) = y
    have aborts : OnlyChanges .strobe s y ∧ y.ccu.ch4 = s.ccu.ch4 ∧ y.ccu.convPulses = s.ccu.convPulses + 1 ∧
        y.acq.missing = s.acq.missing ∧
        y.acq.aborted = if fl.reading then min 65535 (s.acq.aborted + 1) else s.acq.aborted := by
      subst from_
      split
      · exact ⟨pulse.trans ⟨rfl, fun n => absurd rfl n, fun _ _ => rfl, fun _ => rfl⟩, rfl, rfl, rfl, satInc_eq ..⟩
      · exact ⟨pulse, rfl, rfl, rfl, rfl⟩
    obtain ⟨only, ch4, pulses, missing, aborted⟩ := aborts
    have counted : OnlyChanges .strobe y (y.onAcq fun a => { a with missing := rollInc seqSpan a.missing }) :=
      ⟨rfl, fun n => absurd rfl n, fun _ _ => rfl, fun _ => rfl⟩
    have stored := storeFrame_counts fl Option.none (y.onAcq fun a => { a with missing := rollInc seqSpan a.missing })
    obtain ⟨channel, convs⟩ := stored.ccu
    refine ⟨((only.trans counted).trans stored.only).trans (flight _ _), channel.trans ch4, convs.trans pulses, rfl,
      stored.missing.trans ?_, stored.aborted.trans ?_⟩
    · rw [some]; exact congrArg (fun m => (m + 1) % 2 ^ 32) missing
    · rw [some]; exact aborted

/-! ### The single firing of a compare channel (R33, R35) -/

theorem Compare.stepFire_eq (c : Compare) (new : Time) :
    c.stepFire new = c.afterMove new ((new - c.next) / c.period) := by
  unfold stepFire afterMove takePending passed
  rw [Nat.add_sub_cancel]
  rcases c with ⟨mode, period, phase, next, waiting, skipped⟩
  rcases waiting with _ | ⟨p, ph, _ | l⟩ <;> cases mode <;> simp [firstMatch, nextCongruent]

theorem Compare.setFire_eq (c : Compare) (new : Time) :
    c.setFire new = { c.afterMove new 0 with skipped := c.skipped } := by
  unfold setFire afterMove takePending
  rcases c with ⟨mode, period, phase, next, waiting, skipped⟩
  rcases waiting with _ | ⟨p, ph, _ | l⟩ <;> cases mode <;> simp [firstMatch, nextCongruent]
  all_goals split <;> rfl

/-! ### What an operation makes of its part -/

/-- An edge of a heater's output in its part (R30). -/
def drivePart (level : Bool) (x : Time) (p : Paired × Thermostat) : Paired × Thermostat :=
  if p.1.output = level then p
  else ({ p.1 with output := level }, { p.2 with edges := rollInc seqSpan p.2.edges, lastEdge := some x })

/-- A firing that calls for a level, in a heater's part (R29, R32, R180). -/
def callPart (level : Bool) (x now : Time) (cycles : Nat) (p : Paired × Thermostat) : Paired × Thermostat :=
  if p.1.hold then
    if p.2.deferral = .holding ∧ p.1.output ≠ level then
      if p.2.cfg.limit = 0 then
        drivePart (p.1.level now) now ({ p.1 with hold := false }, { p.2 with deferral := .released })
      else (p.1, { p.2 with deferral := .deferring cycles })
    else p
  else drivePart level x p

theorem onPaired_part (h : Heater) (f : Paired → Paired) (s : State) :
    (onPaired h f s).heaterPart h = (f (s.heaterPart h).1, (s.heaterPart h).2) :=
  Prod.ext (PerHeater.get_update_self ..) rfl

theorem onThermostat_part (h : Heater) (f : Thermostat → Thermostat) (s : State) :
    (onThermostat h f s).heaterPart h = ((s.heaterPart h).1, f (s.heaterPart h).2) :=
  Prod.ext rfl (PerHeater.get_update_self ..)

theorem driveOutput_part (h : Heater) (level : Bool) (x : Time) (switched : Bool) (s : State) :
    (driveOutput h level x switched s).heaterPart h = drivePart level x (s.heaterPart h) := by
  unfold driveOutput drivePart; dsimp only
  have edge : (onThermostat h (fun u => { u with edges := rollInc seqSpan u.edges, lastEdge := some x })
      (onPaired h (fun p => { p with output := level }) s)).heaterPart h =
      ({ (s.heaterPart h).1 with output := level },
        { (s.heaterPart h).2 with edges := rollInc seqSpan (s.heaterPart h).2.edges, lastEdge := some x }) := by
    rw [onThermostat_part, onPaired_part]
  split
  next same => rw [if_pos (show (s.heaterPart h).1.output = level from same)]
  next edges =>
    rw [if_neg (show ¬(s.heaterPart h).1.output = level from edges)]
    split <;> exact edge

/-- The release at a deferral limit, in the heater's part (R181). -/
theorem releaseAtLimit_part (h : Heater) (s : State) :
    (releaseAtLimit h s).heaterPart h = drivePart ((s.heaterPart h).1.level s.tb.now) s.tb.now
      ({ (s.heaterPart h).1 with hold := false }, { (s.heaterPart h).2 with deferral := .released }) := by
  have freed : (onThermostat h (fun u => { u with deferral := .released })
      (onPaired h (fun p => { p with hold := false }) s)).heaterPart h =
      ({ (s.heaterPart h).1 with hold := false }, { (s.heaterPart h).2 with deferral := .released }) := by
    rw [onThermostat_part, onPaired_part]
  have level : (pairedOf h (onThermostat h (fun u => { u with deferral := .released })
      (onPaired h (fun p => { p with hold := false }) s))).level s.tb.now = (s.heaterPart h).1.level s.tb.now :=
    congrArg (fun p : Paired × Thermostat => p.1.level s.tb.now) freed
  unfold releaseAtLimit
  rw [driveOutput_part, freed]
  exact congrArg (drivePart · s.tb.now _) level

theorem firingCallsFor_part (h : Heater) (level : Bool) (x : Time) (s : State) :
    (firingCallsFor h level x s).heaterPart h = callPart level x s.tb.now s.pace.cycles (s.heaterPart h) := by
  have deferred := onThermostat_part h (fun u => { u with deferral := .deferring s.pace.cycles }) s
  show (if (s.heaterPart h).1.hold then
    if (s.heaterPart h).2.deferral = .holding ∧ (s.heaterPart h).1.output ≠ level then
      if (s.heaterPart h).2.cfg.limit = 0 then
        releaseAtLimit h (onThermostat h (fun u => { u with deferral := .deferring s.pace.cycles }) s)
      else onThermostat h (fun u => { u with deferral := .deferring s.pace.cycles }) s
    else s
  else driveOutput h level x _ s).heaterPart h = _
  unfold callPart
  split
  · split
    · split
      · rw [releaseAtLimit_part, deferred]; rfl
      · exact deferred
    · rfl
  · exact driveOutput_part ..

/-- A firing that calls for a level at the time of a step, as its effect is stated (R29, R32). -/
def called (h : Heater) (level : Bool) (new : Time) (s : State) : State :=
  if (s.ccu.heaters.get h).hold then heldFiring h level s else driveOutput h level new false s

theorem called_part (h : Heater) (level : Bool) (new : Time) (s : State) :
    (called h level new s).heaterPart h = callPart level new s.tb.now s.pace.cycles (s.heaterPart h) := by
  unfold called heldFiring
  show (if (s.heaterPart h).1.hold then
    if (s.heaterPart h).2.deferral = .holding ∧ (s.heaterPart h).1.output ≠ level then
      if (s.heaterPart h).2.cfg.limit = 0 then
        driveOutput h ((s.heaterPart h).1.level s.tb.now) s.tb.now s.ht.quiet
          (onThermostat h (fun u => { u with deferral := .released }) (onPaired h (fun p => { p with hold := false }) s))
      else onThermostat h (fun u => { u with deferral := .deferring s.pace.cycles }) s
    else s
  else driveOutput h level new false s).heaterPart h = _
  unfold callPart
  split
  · split
    · split
      · rw [driveOutput_part, onThermostat_part, onPaired_part]
      · exact onThermostat_part ..
    · rfl
  · exact driveOutput_part ..

/-- The listen test after a firing of channel 7, in its part (R127). -/
def testPart (level : Option Level) (now : Time) (cfg : LinkCfg) (p : Compare × Bool) : Compare × Bool :=
  if level = some .survival then (p.1.start .oneShot 1 0 (cfg.nextPoint now) now, cfg.listensAt now) else p

theorem listenFired_part (s : State) :
    (listenFired s).listenPart = testPart s.pw.level s.tb.now s.link.cfg s.listenPart := by
  unfold listenFired testPart
  split <;> rfl

/-! ### The order of a realignment -/

/-- Two states agree on a part. -/
def SamePart : Part → State → State → Prop
  | .strobe, s, t => t.strobePart = s.strobePart
  | .heater h, s, t => t.heaterPart h = s.heaterPart h
  | .listen, s, t => t.listenPart = s.listenPart

theorem OnlyChanges.same {b : Part} (only : OnlyChanges a s t) (ne : b ≠ a) : SamePart b s t := by
  cases b
  case strobe => exact only.strobe ne.symm
  case heater h => exact only.heater h ne.symm
  case listen => exact only.listen ne.symm

theorem SamePart.trans {u : State} (p : SamePart a s t) (q : SamePart a t u) : SamePart a s u := by
  cases a
  case strobe => exact Eq.trans q p
  case heater h => exact Eq.trans q p
  case listen => exact Eq.trans q p

theorem SamePart.refl (a : Part) (s : State) : SamePart a s s := by cases a <;> rfl

/-- Operations on different parts, one after the other, keep what is beside the parts, and each makes of its own part
what it makes of it alone. -/
theorem foldl_parts {op : Part → State → State} (only : ∀ a x, OnlyChanges a x (op a x)) (l : List Part) (s : State) :
    (l.foldl (fun x b => op b x) s).beside = s.beside ∧
      (∀ a, a ∉ l → SamePart a s (l.foldl (fun x b => op b x) s)) ∧
      (l.Nodup → ∀ a ∈ l, ∃ x, x.beside = s.beside ∧ SamePart a s x ∧
        SamePart a (op a x) (l.foldl (fun x b => op b x) s)) := by
  induction l generalizing s with
  | nil => exact ⟨rfl, fun a _ => .refl a s, fun _ _ m => by cases m⟩
  | cons b l ih =>
    obtain ⟨beside, out, inside⟩ := ih (op b s)
    have first := only b s
    refine ⟨beside.trans first.beside, fun a m => ?_, fun distinct a m => ?_⟩
    · obtain ⟨ne, m⟩ : a ≠ b ∧ a ∉ l := by simpa using m
      exact (first.same ne).trans (out a m)
    · obtain ⟨new, distinct⟩ := List.nodup_cons.1 distinct
      rcases List.mem_cons.1 m with rfl | m
      · exact ⟨s, rfl, .refl a s, out a new⟩
      · obtain ⟨x, same, part, made⟩ := inside distinct a m
        exact ⟨x, same.trans first.beside, (first.same fun e => new (e ▸ m)).trans part, made⟩

/-- The realignment of all parts, whatever the order of strobe and heaters. -/
theorem realigned {op : Part → State → State} (only : ∀ a x, OnlyChanges a x (op a x)) (s : State) :
    let t := op .listen (realign (op .strobe) (fun x => op (.heater .ho) (op (.heater .hb) x)) s)
    t.beside = s.beside ∧ ∀ a, ∃ x, x.beside = s.beside ∧ SamePart a s x ∧ SamePart a (op a x) t := by
  have all (a : Part) : a = .strobe ∨ a = .heater .hb ∨ a = .heater .ho ∨ a = .listen := by
    cases a <;> simp
    next h => cases h <;> simp
  unfold realign
  split
  · obtain ⟨beside, _, parts⟩ := foldl_parts only [.heater .hb, .heater .ho, .strobe, .listen] s
    exact ⟨beside, fun a => parts (by simp) a (by have := all a; simp; tauto)⟩
  · obtain ⟨beside, _, parts⟩ := foldl_parts only [.strobe, .heater .hb, .heater .ho, .listen] s
    exact ⟨beside, fun a => parts (by simp) a (by have := all a; simp; tauto)⟩

/-! ### A forward step and the backward set -/

/-- What a forward step does on each part. -/
def stepOp (new : Time) : Part → State → State
  | .strobe => strobeAtStep new
  | .heater h => pairedStep h new
  | .listen => listenAtStep new

/-- What the backward set does on each part. -/
def setOp (new : Time) : Part → State → State
  | .strobe => strobeAtSet new
  | .heater h => pairedSet h new
  | .listen => listenAtSet new

theorem onCh4_only (f : Compare → Compare) (s : State) :
    OnlyChanges .strobe s (s.onCcu fun c => { c with ch4 := f c.ch4 }) :=
  ⟨rfl, fun n => absurd rfl n, fun _ _ => rfl, fun _ => rfl⟩

theorem stepOp_only (new : Time) (a : Part) (x : State) : OnlyChanges a x (stepOp new a x) := by
  cases a
  case strobe => exact ite_only ((onCh4_only _ x).trans (convertStrobe_strobed ..).only) (.refl ..)
  case heater h => exact pairedStep_only h new x
  case listen => exact listenAtStep_only new x

theorem setOp_only (new : Time) (a : Part) (x : State) : OnlyChanges a x (setOp new a x) := by
  cases a
  case strobe => exact ite_only (.refl ..) ((onCh4_only _ x).trans (convertStrobe_strobed ..).only)
  case heater h => exact pairedSet_only h new x
  case listen => exact listenAtSet_only new x

/-- The state of a forward step before it realigns the CCU (R9, R33, R38, R41, R121). -/
def stepped (n : Nat) (s : State) : State :=
  { s with
    tb := { s.tb with now := addTime s.tb.now n, stepCount := rollInc 65536 s.tb.stepCount, lastStep := n }
    disc := { s.disc with
      expected := addTime s.disc.expected n
      matched := s.disc.matched.map fun m => { m with stepped := m.stepped + n } }
    acq := { s.acq with inFlight := s.acq.inFlight.map fun f => { f with deadline := f.deadline + n } }
    link := { s.link with window := s.link.window.map fun w => { w with finish := w.finish + n } } }

/-- The state of the backward set before it realigns the CCU (R10, R121). -/
def setBack (new : Time) (s : State) : State :=
  { s with
    tb := { s.tb with now := new }
    link := { s.link with window := s.link.window.map fun w => { w with finish := w.finish + new - s.tb.now } } }

theorem forwardStep_zero (s : State) : forwardStep 0 s = s := if_pos rfl

/-- A forward step realigns each part on its own (R33, R34). -/
theorem forwardStep_parts {n : Nat} (pos : n ≠ 0) (s : State) :
    (forwardStep n s).beside = (stepped n s).beside ∧ ∀ a, ∃ x, x.beside = (stepped n s).beside ∧
      SamePart a (stepped n s) x ∧ SamePart a (stepOp (addTime s.tb.now n) a x) (forwardStep n s) := by
  have e : forwardStep n s = _ := if_neg pos
  rw [e]
  exact realigned (stepOp_only (addTime s.tb.now n)) (stepped n s)

/-- The backward set realigns each part on its own (R35). -/
theorem backwardSet_parts (new : Time) (s : State) :
    (backwardSet new s).beside = (setBack new s).beside ∧ ∀ a, ∃ x, x.beside = (setBack new s).beside ∧
      SamePart a (setBack new s) x ∧ SamePart a (setOp new a x) (backwardSet new s) :=
  realigned (setOp_only new) (setBack new s)

/-- Channel 4 after a firing and what the strobe makes of the Acquisition Unit, from the frame in flight before it. -/
structure StrobeFired (fired : Compare) (x : Time) (passed : Nat) (mark : Bool) (s t : State) : Prop where
  ch4 : t.ccu.ch4 = fired
  pulses : t.ccu.convPulses = s.ccu.convPulses + 1
  inFlight : t.acq.inFlight =
    some { timestamp := x, passed := passed, setMark := mark, deadline := x + fired.period * 4 / 5, reading := false }
  missing : t.acq.missing = if s.acq.inFlight = none then s.acq.missing else (s.acq.missing + 1) % 2 ^ 32
  aborted : t.acq.aborted = if s.acq.inFlight.any (·.reading) then min 65535 (s.acq.aborted + 1) else s.acq.aborted

theorem strobeFired_of {fired : Compare} {x : Time} {passed : Nat} {mark : Bool} {s y t : State}
    (before : SamePart .strobe s y)
    (after : SamePart .strobe (convertStrobe x passed mark fired.period (y.onCcu fun c => { c with ch4 := fired })) t) :
    StrobeFired fired x passed mark s t := by
  obtain ⟨_, ch4, pulses, inFlight, missing, aborted⟩ :=
    convertStrobe_strobed x passed mark fired.period (y.onCcu fun c => { c with ch4 := fired })
  have acq : y.acq.inFlight = s.acq.inFlight ∧ y.acq.missing = s.acq.missing ∧ y.acq.aborted = s.acq.aborted :=
    ⟨congrArg (·.2.2.inFlight) before, congrArg (·.2.2.missing) before, congrArg (·.2.2.aborted) before⟩
  obtain ⟨flight, miss, abort⟩ := acq
  refine ⟨(congrArg (·.1) after).trans ch4, ?_, (congrArg (·.2.2.inFlight) after).trans inFlight, ?_, ?_⟩
  · exact ((congrArg (·.2.1) after).trans pulses).trans (congrArg (·.2.1 + 1) before)
  · rw [← flight, ← miss]; exact (congrArg (·.2.2.missing) after).trans missing
  · rw [← flight, ← abort]; exact (congrArg (·.2.2.aborted) after).trans aborted

/-! ### A heater at a step and at the set (R34, R35) -/

theorem Compare.due_iff (c : Compare) (new : Time) : c.due new = true ↔ c.mode ≠ .off ∧ c.next ≤ new := by simp [due]

theorem onPaired_congr {f g : Paired → Paired} (e : f (s.ccu.heaters.get h) = g (s.ccu.heaters.get h)) :
    onPaired h f s = onPaired h g s :=
  congrArg (fun hs => { s with ccu := { s.ccu with heaters := hs } }) (PerHeater.update_congr e)

/-- A paired channel whose boundary is reached at a step begins a period. -/
theorem pairedStep_begins {new : Time} (on : (s.ccu.heaters.get h).cmp.mode ≠ .off)
    (reached : (s.ccu.heaters.get h).cmp.next ≤ new) :
    let c := s.ccu.heaters.get h
    let begun := Paired.begun new (c.cmp.afterMove new ((new - c.cmp.next) / c.cmp.period)) c
    pairedStep h new s = firingCallsFor h (decide (0 < begun.duty)) new (onPaired h (fun _ => begun) s) := by
  intro c begun
  have fires : onPaired h (fun p => { p with cmp := p.cmp.stepFire new }.beginPeriod new) s =
      onPaired h (fun _ => begun) s :=
    onPaired_congr (congrArg (Paired.begun new · c) (Compare.stepFire_eq c.cmp new))
  have duty : (pairedOf h (onPaired h (fun _ => begun) s)).duty = begun.duty :=
    congrArg Paired.duty (PerHeater.get_update_self ..)
  unfold pairedStep; dsimp only
  rw [if_pos (show (pairedOf h s).cmp.due new = true from (Compare.due_iff ..).2 ⟨on, reached⟩), fires, duty]

/-- A paired channel whose off-match alone is reached at a step is called to OFF. -/
theorem pairedStep_ends {new m : Time} (on : (s.ccu.heaters.get h).cmp.mode ≠ .off)
    (ahead : new < (s.ccu.heaters.get h).cmp.next) (ends : (s.ccu.heaters.get h).offMatch = some m) (reached : m ≤ new) :
    pairedStep h new s = firingCallsFor h false new s := by
  have notDue : ¬(s.ccu.heaters.get h).cmp.due new = true := fun d =>
    Nat.not_le_of_lt ahead ((Compare.due_iff ..).1 d).2
  unfold pairedStep pairedOf; dsimp only
  rw [if_neg notDue, ends]
  exact if_pos ⟨on, reached⟩

/-- A paired channel that is OFF, or with no match reached, stays. -/
theorem pairedStep_idle {new : Time} (idle : (s.ccu.heaters.get h).cmp.mode = .off ∨
    (new < (s.ccu.heaters.get h).cmp.next ∧ ∀ m, (s.ccu.heaters.get h).offMatch = some m → new < m)) :
    pairedStep h new s = s := by
  have notDue : ¬(s.ccu.heaters.get h).cmp.due new = true := fun d => by
    obtain ⟨on, reached⟩ := (Compare.due_iff ..).1 d
    rcases idle with off | ⟨ahead, _⟩
    · exact on off
    · exact Nat.not_le_of_lt ahead reached
  unfold pairedStep pairedOf; dsimp only
  rw [if_neg notDue]
  split
  · rfl
  next m ends =>
    refine if_neg fun ⟨on, reached⟩ => ?_
    rcases idle with off | ⟨_, later⟩
    · exact on off
    · exact Nat.not_le_of_lt (later m ends) reached

/-- A running paired channel begins a period at the backward set. -/
theorem pairedSet_begins {new : Time} (on : (s.ccu.heaters.get h).cmp.mode ≠ .off) :
    let c := s.ccu.heaters.get h
    let begun := Paired.begun new { c.cmp.afterMove new 0 with skipped := c.cmp.skipped } c
    pairedSet h new s = firingCallsFor h (decide (0 < begun.duty)) new (onPaired h (fun _ => begun) s) := by
  intro c begun
  have fires : onPaired h (fun p => { p with cmp := p.cmp.setFire new }.beginPeriod new) s =
      onPaired h (fun _ => begun) s :=
    onPaired_congr (congrArg (Paired.begun new · c) (Compare.setFire_eq c.cmp new))
  have duty : (pairedOf h (onPaired h (fun _ => begun) s)).duty = begun.duty :=
    congrArg Paired.duty (PerHeater.get_update_self ..)
  unfold pairedSet; dsimp only
  rw [if_neg (show ¬(pairedOf h s).cmp.mode = .off from on), fires, duty]

/-- What a firing makes of a heater's part depends on the part, the time and the cycles. -/
structure SameHeater (h : Heater) (s t : State) : Prop where
  now : t.tb.now = s.tb.now
  cycles : t.pace.cycles = s.pace.cycles
  part : SamePart (.heater h) s t

theorem SameHeater.of_beside {w x y : State} (beside : x.beside = w.beside) (same : SamePart (.heater h) w x)
    (now : y.tb.now = w.tb.now) (cycles : y.pace.cycles = w.pace.cycles) (part : y.heaterPart h = w.heaterPart h) :
    SameHeater h y x :=
  ⟨(congrArg (·.tb.now) beside).trans now.symm, (congrArg (·.pace.cycles) beside).trans cycles.symm,
    Eq.trans same part.symm⟩

theorem SameHeater.calls (same : SameHeater h s t) (level : Bool) (new : Time) :
    (firingCallsFor h level new t).heaterPart h = (called h level new s).heaterPart h := by
  obtain ⟨now, cycles, part⟩ := same
  rw [firingCallsFor_part, called_part, now, cycles]
  exact congrArg (callPart level new _ _) part

theorem SameHeater.onPaired (same : SameHeater h s t) (f : Paired → Paired) :
    SameHeater h (onPaired h f s) (onPaired h f t) := by
  refine ⟨same.now, same.cycles, ?_⟩
  show (Machine.onPaired h f t).heaterPart h = (Machine.onPaired h f s).heaterPart h
  have part : t.heaterPart h = s.heaterPart h := same.part
  rw [onPaired_part, onPaired_part, part]

/-- What the listen test makes of its part depends on the part, the level, the time and the settings. -/
structure SameListen (s t : State) : Prop where
  now : t.tb.now = s.tb.now
  level : t.pw.level = s.pw.level
  cfg : t.link.cfg = s.link.cfg
  part : SamePart .listen s t

theorem SameListen.of_beside {w x y : State} (beside : x.beside = w.beside) (same : SamePart .listen w x)
    (now : y.tb.now = w.tb.now) (level : y.pw.level = w.pw.level) (cfg : y.link.cfg = w.link.cfg)
    (part : y.listenPart = w.listenPart) : SameListen y x :=
  ⟨(congrArg (·.tb.now) beside).trans now.symm, (congrArg (·.pw.level) beside).trans level.symm,
    (congrArg (·.link.cfg) beside).trans cfg.symm, Eq.trans same part.symm⟩

theorem SameListen.tests (same : SameListen s t) (ch7 : Compare) :
    (listenFired (t.onCcu fun c => { c with ch7 := ch7 })).listenPart =
      (listenFired (s.onCcu fun c => { c with ch7 := ch7 })).listenPart := by
  obtain ⟨now, level, cfg, part⟩ := same
  have ask : t.link.listenAsk = s.link.listenAsk := congrArg Prod.snd part
  rw [listenFired_part, listenFired_part]
  show testPart t.pw.level t.tb.now t.link.cfg (ch7, t.link.listenAsk) =
    testPart s.pw.level s.tb.now s.link.cfg (ch7, s.link.listenAsk)
  rw [now, level, cfg, ask]

/-! ### A forward step, part by part -/

section
variable {n : Nat} {new : Time} (pos : n ≠ 0) (arrives : addTime s.tb.now n = new)
include pos arrives

theorem forwardStep_strobe_idle (idle : s.ccu.ch4.mode = .off ∨ new < s.ccu.ch4.next) :
    SamePart .strobe (stepped n s) (forwardStep n s) := by
  subst arrives
  obtain ⟨x, beside, same, made⟩ := (forwardStep_parts pos s).2 .strobe
  have ch4 : x.ccu.ch4 = s.ccu.ch4 := congrArg Prod.fst same
  have stays : stepOp (addTime s.tb.now n) .strobe x = x := if_neg fun due => by
    obtain ⟨on, reached⟩ := (Compare.due_iff ..).1 (ch4 ▸ due)
    exact idle.elim on fun ahead => Nat.not_le_of_lt ahead reached
  rw [stays] at made
  exact same.trans made

theorem forwardStep_strobe_fires (on : s.ccu.ch4.mode ≠ .off) (reached : s.ccu.ch4.next ≤ new) :
    let passes := (new - s.ccu.ch4.next) / s.ccu.ch4.period
    StrobeFired (s.ccu.ch4.afterMove new passes) new passes false (stepped n s) (forwardStep n s) := by
  subst arrives
  obtain ⟨x, beside, same, made⟩ := (forwardStep_parts pos s).2 .strobe
  have ch4 : x.ccu.ch4 = s.ccu.ch4 := congrArg Prod.fst same
  have fires : stepOp (addTime s.tb.now n) .strobe x = _ :=
    if_pos ((Compare.due_iff ..).2 (ch4.symm ▸ ⟨on, reached⟩))
  rw [fires, Compare.passed, Nat.add_sub_cancel, ch4] at made
  refine strobeFired_of same ?_
  rw [← Compare.stepFire_eq, ← ch4]
  rw [← ch4] at made
  exact made

theorem forwardStep_heater_idle (idle : (s.ccu.heaters.get h).cmp.mode = .off ∨
    (new < (s.ccu.heaters.get h).cmp.next ∧ ∀ m, (s.ccu.heaters.get h).offMatch = some m → new < m)) :
    (forwardStep n s).heaterPart h = s.heaterPart h := by
  subst arrives
  obtain ⟨x, beside, same, made⟩ := (forwardStep_parts pos s).2 (.heater h)
  have channel : x.ccu.heaters.get h = s.ccu.heaters.get h := congrArg Prod.fst same
  have stays : stepOp (addTime s.tb.now n) (.heater h) x = x := pairedStep_idle (channel.symm ▸ idle)
  rw [stays] at made
  exact same.trans made

theorem forwardStep_heater_begins {y : State} (now : y.tb.now = new) (cycles : y.pace.cycles = s.pace.cycles)
    (part : y.heaterPart h = s.heaterPart h) (on : (s.ccu.heaters.get h).cmp.mode ≠ .off)
    (reached : (s.ccu.heaters.get h).cmp.next ≤ new) :
    let c := s.ccu.heaters.get h
    let begun := Paired.begun new (c.cmp.afterMove new ((new - c.cmp.next) / c.cmp.period)) c
    (forwardStep n s).heaterPart h =
      (called h (decide (0 < begun.duty)) new (onPaired h (fun _ => begun) y)).heaterPart h := by
  subst arrives
  intro c begun
  obtain ⟨x, beside, same, made⟩ := (forwardStep_parts pos s).2 (.heater h)
  have channel : x.ccu.heaters.get h = s.ccu.heaters.get h := congrArg Prod.fst same
  have fires := pairedStep_begins (s := x) (h := h) (channel.symm ▸ on) (channel.symm ▸ reached)
  rw [channel] at fires
  have sameY : SameHeater h y x := .of_beside beside same now cycles part
  exact (Eq.trans made (congrArg (State.heaterPart · h) fires)).trans ((sameY.onPaired _).calls _ _)

theorem forwardStep_heater_ends {m : Time} {y : State} (now : y.tb.now = new) (cycles : y.pace.cycles = s.pace.cycles)
    (part : y.heaterPart h = s.heaterPart h) (on : (s.ccu.heaters.get h).cmp.mode ≠ .off)
    (ahead : new < (s.ccu.heaters.get h).cmp.next) (ends : (s.ccu.heaters.get h).offMatch = some m)
    (reached : m ≤ new) :
    (forwardStep n s).heaterPart h = (called h false new y).heaterPart h := by
  subst arrives
  obtain ⟨x, beside, same, made⟩ := (forwardStep_parts pos s).2 (.heater h)
  have channel : x.ccu.heaters.get h = s.ccu.heaters.get h := congrArg Prod.fst same
  have fires := pairedStep_ends (s := x) (h := h) (channel.symm ▸ on) (channel.symm ▸ ahead) (channel.symm ▸ ends) reached
  have sameY : SameHeater h y x := .of_beside beside same now cycles part
  exact (Eq.trans made (congrArg (State.heaterPart · h) fires)).trans (sameY.calls _ _)

theorem forwardStep_listen_idle (idle : s.ccu.ch7.mode = .off ∨ new < s.ccu.ch7.next) :
    (forwardStep n s).listenPart = s.listenPart := by
  subst arrives
  obtain ⟨x, beside, same, made⟩ := (forwardStep_parts pos s).2 .listen
  have ch7 : x.ccu.ch7 = s.ccu.ch7 := congrArg Prod.fst same
  have stays : stepOp (addTime s.tb.now n) .listen x = x := if_neg fun due => by
    obtain ⟨on, reached⟩ := (Compare.due_iff ..).1 (ch7 ▸ due)
    exact idle.elim on fun ahead => Nat.not_le_of_lt ahead reached
  rw [stays] at made
  exact same.trans made

theorem forwardStep_listen_fires {y : State} (now : y.tb.now = new) (level : y.pw.level = s.pw.level)
    (cfg : y.link.cfg = s.link.cfg) (part : y.listenPart = s.listenPart) (on : s.ccu.ch7.mode ≠ .off)
    (reached : s.ccu.ch7.next ≤ new) :
    (forwardStep n s).listenPart = (listenFired (y.onCcu fun c =>
      { c with ch7 := s.ccu.ch7.afterMove new ((new - s.ccu.ch7.next) / s.ccu.ch7.period) })).listenPart := by
  subst arrives
  obtain ⟨x, beside, same, made⟩ := (forwardStep_parts pos s).2 .listen
  have ch7 : x.ccu.ch7 = s.ccu.ch7 := congrArg Prod.fst same
  have fires : stepOp (addTime s.tb.now n) .listen x = _ :=
    if_pos ((Compare.due_iff ..).2 (ch7.symm ▸ ⟨on, reached⟩))
  have sameY : SameListen y x := .of_beside beside same now level cfg part
  rw [fires] at made
  rw [← Compare.stepFire_eq, ← ch7]
  exact Eq.trans made (sameY.tests _)

end

/-! ### The backward set, part by part -/

section
variable {new : Time}

theorem backwardSet_strobe_idle (off : s.ccu.ch4.mode = .off) : SamePart .strobe s (backwardSet new s) := by
  obtain ⟨x, beside, same, made⟩ := (backwardSet_parts new s).2 .strobe
  have ch4 : x.ccu.ch4 = s.ccu.ch4 := congrArg Prod.fst same
  have stays : setOp new .strobe x = x := if_pos (ch4.symm ▸ off)
  rw [stays] at made
  exact same.trans made

theorem backwardSet_strobe_fires (on : s.ccu.ch4.mode ≠ .off) :
    StrobeFired { s.ccu.ch4.afterMove new 0 with skipped := s.ccu.ch4.skipped } new 0 true s (backwardSet new s) := by
  obtain ⟨x, beside, same, made⟩ := (backwardSet_parts new s).2 .strobe
  have ch4 : x.ccu.ch4 = s.ccu.ch4 := congrArg Prod.fst same
  have fires : setOp new .strobe x = _ := if_neg (ch4.symm ▸ on)
  rw [fires] at made
  refine strobeFired_of same ?_
  rw [← Compare.setFire_eq, ← ch4]
  exact made

theorem backwardSet_heater_idle (off : (s.ccu.heaters.get h).cmp.mode = .off) :
    (backwardSet new s).heaterPart h = s.heaterPart h := by
  obtain ⟨x, beside, same, made⟩ := (backwardSet_parts new s).2 (.heater h)
  have channel : x.ccu.heaters.get h = s.ccu.heaters.get h := congrArg Prod.fst same
  have stays : setOp new (.heater h) x = x :=
    if_pos (show (x.ccu.heaters.get h).cmp.mode = .off from channel.symm ▸ off)
  rw [stays] at made
  exact same.trans made

theorem backwardSet_heater_begins {y : State} (now : y.tb.now = new) (cycles : y.pace.cycles = s.pace.cycles)
    (part : y.heaterPart h = s.heaterPart h) (on : (s.ccu.heaters.get h).cmp.mode ≠ .off) :
    let c := s.ccu.heaters.get h
    let begun := Paired.begun new { c.cmp.afterMove new 0 with skipped := c.cmp.skipped } c
    (backwardSet new s).heaterPart h =
      (called h (decide (0 < begun.duty)) new (onPaired h (fun _ => begun) y)).heaterPart h := by
  intro c begun
  obtain ⟨x, beside, same, made⟩ := (backwardSet_parts new s).2 (.heater h)
  have channel : x.ccu.heaters.get h = s.ccu.heaters.get h := congrArg Prod.fst same
  have fires := pairedSet_begins (s := x) (h := h) (new := new) (channel.symm ▸ on)
  rw [channel] at fires
  have sameY : SameHeater h y x := .of_beside beside same now cycles part
  exact (Eq.trans made (congrArg (State.heaterPart · h) fires)).trans ((sameY.onPaired _).calls _ _)

theorem backwardSet_listen_idle (off : s.ccu.ch7.mode = .off) : (backwardSet new s).listenPart = s.listenPart := by
  obtain ⟨x, beside, same, made⟩ := (backwardSet_parts new s).2 .listen
  have ch7 : x.ccu.ch7 = s.ccu.ch7 := congrArg Prod.fst same
  have stays : setOp new .listen x = x := if_pos (ch7.symm ▸ off)
  rw [stays] at made
  exact same.trans made

theorem backwardSet_listen_fires {y : State} (now : y.tb.now = new) (level : y.pw.level = s.pw.level)
    (cfg : y.link.cfg = s.link.cfg) (part : y.listenPart = s.listenPart) (on : s.ccu.ch7.mode ≠ .off) :
    (backwardSet new s).listenPart = (listenFired (y.onCcu fun c =>
      { c with ch7 := { s.ccu.ch7.afterMove new 0 with skipped := s.ccu.ch7.skipped } })).listenPart := by
  obtain ⟨x, beside, same, made⟩ := (backwardSet_parts new s).2 .listen
  have ch7 : x.ccu.ch7 = s.ccu.ch7 := congrArg Prod.fst same
  have fires : setOp new .listen x = _ := if_neg (ch7.symm ▸ on)
  have sameY : SameListen y x := .of_beside beside same now level cfg part
  rw [fires] at made
  rw [← Compare.setFire_eq, ← ch7]
  exact Eq.trans made (sameY.tests _)

end

/-! ### The statement -/

/-- What is beside the parts and the moves of station time stays. -/
structure SameOthers (s t : State) : Prop where
  pending : t.pending = s.pending
  pace : t.pace = s.pace
  nt : t.nt = s.nt
  pw : t.pw = s.pw
  ports : t.ports = s.ports
  store : t.store = s.store
  link : { t.link with window := s.link.window, listenAsk := s.link.listenAsk } = s.link
  channels : t.det.channels = s.det.channels
  episode : t.det.episode = s.det.episode
  participants : t.det.participants = s.det.participants
  nextSeq : t.ev.nextSeq = s.ev.nextSeq

theorem sameOthers_of {tb : Timebase} {disc : Discipline} {acq : Acquisition} {window : Option AckWindow}
    (e : t.beside =
      ({ s with tb := tb, disc := disc, acq := acq, link := { s.link with window := window } } : State).beside) :
    SameOthers s t :=
  ⟨congrArg (·.pending) e, congrArg (·.pace) e, congrArg (·.nt) e, congrArg (·.pw) e, congrArg (·.ports) e,
    congrArg (·.store) e,
    congrArg (fun x => { x.link with window := s.link.window, listenAsk := s.link.listenAsk }) e,
    congrArg (·.det.channels) e, congrArg (·.det.episode) e, congrArg (·.det.participants) e,
    congrArg (·.ev.nextSeq) e⟩

theorem heated_of (part : t.heaterPart h = s.heaterPart h) :
    t.ccu.heaters.get h = s.ccu.heaters.get h ∧ t.ht.units.get h = s.ht.units.get h :=
  ⟨congrArg Prod.fst part, congrArg Prod.snd part⟩

theorem listened_of (part : t.listenPart = s.listenPart) :
    t.ccu.ch7 = s.ccu.ch7 ∧ t.link.listenAsk = s.link.listenAsk :=
  ⟨congrArg Prod.fst part, congrArg Prod.snd part⟩

/-- Settles O15: the parts of a realignment taken one by one, for the step and for the set. -/
theorem stepsRealignTheStation : Obligations.StepsRealignTheStation := by
  refine ⟨forwardStep_zero, fun n s positive room => ?step, fun new s => ?set⟩
  case step =>
    have pos : n ≠ 0 := Nat.ne_of_gt positive
    have arrives : addTime s.tb.now n = s.tb.now + n := Nat.mod_eq_of_lt room
    obtain ⟨beside, -⟩ := forwardStep_parts pos s
    obtain ⟨pending, pace, nt, pw, ports, store, link, channels, episode, participants, nextSeq⟩ := sameOthers_of beside
    intro new t moved passes
    refine ⟨?_, ⟨pending, pace, nt, pw, ports, store, link, channels, episode, participants, nextSeq⟩, ?_, ?_,
      fun idle => ?_, fun on reached => ?_,
      fun h => ⟨fun idle => ?_, fun on reached => ?_, fun m on ahead ends reached => ?_⟩,
      fun idle => ?_, fun on reached => ?_⟩
    · exact (congrArg (·.tb) beside).trans (congrArg (fun x => { moved.tb with now := x }) arrives)
    · exact congrArg (·.disc) beside
    · exact congrArg (·.link.window) beside
    · have same := forwardStep_strobe_idle pos arrives idle
      exact ⟨congrArg (·.1) same, congrArg (·.2.1) same,
        congrArg (fun p => { p.2.2 with edgePending := t.acq.edgePending }) same⟩
    · obtain ⟨ch4, pulses, inFlight, missing, aborted⟩ := forwardStep_strobe_fires pos arrives on reached
      exact ⟨ch4, pulses, inFlight, missing.trans (by simp [stepped]),
        aborted.trans (by cases e : s.acq.inFlight <;> simp [stepped, e])⟩
    · exact heated_of (forwardStep_heater_idle pos arrives idle)
    · exact heated_of (forwardStep_heater_begins (y := moved) pos arrives rfl rfl rfl on reached)
    · exact heated_of (forwardStep_heater_ends (y := moved) pos arrives rfl rfl rfl on ahead ends reached)
    · exact listened_of (forwardStep_listen_idle pos arrives idle)
    · exact listened_of (forwardStep_listen_fires (y := moved) pos arrives rfl rfl rfl rfl on reached)
  case set =>
    obtain ⟨beside, -⟩ := backwardSet_parts new s
    obtain ⟨pending, pace, nt, pw, ports, store, link, channels, episode, participants, nextSeq⟩ := sameOthers_of beside
    intro t moved fired
    refine ⟨congrArg (·.tb) beside,
      ⟨pending, pace, nt, pw, ports, store, link, channels, episode, participants, nextSeq⟩, congrArg (·.disc) beside,
      congrArg (·.link.window) beside, fun off => ?_, fun on => ?_, fun h => ⟨fun off => ?_, fun on => ?_⟩,
      fun off => ?_, fun on => ?_⟩
    · have same := backwardSet_strobe_idle (new := new) off
      exact ⟨congrArg (·.1) same, congrArg (·.2.1) same,
        congrArg (fun p => { p.2.2 with edgePending := t.acq.edgePending }) same⟩
    · obtain ⟨ch4, pulses, inFlight, missing, aborted⟩ := backwardSet_strobe_fires (new := new) on
      exact ⟨ch4, pulses, inFlight, missing, aborted⟩
    · exact heated_of (backwardSet_heater_idle (new := new) off)
    · exact heated_of (backwardSet_heater_begins (y := moved) rfl rfl rfl on)
    · exact listened_of (backwardSet_listen_idle (new := new) off)
    · exact listened_of (backwardSet_listen_fires (y := moved) rfl rfl rfl rfl on)

end Sys2Proof.Machine
end

section
/-! The time state, the uncertainty and the steering of station time by PPS (R3, R5, R6, R14, R38, R44 to R47, R53, R54). -/

namespace Sys2Proof.Machine

variable {s : State}

/-! ### A change of the time state (R5, R50) -/

/-- The state after the entry to a time state, before the notice it may ask for. -/
def entered (new : TimeState) (s : State) : State :=
  { s with
    tb := { s.tb with
      state := new, entry := s.tb.now, ctemp := if s.tb.state = .holdover then 0 else s.tb.ctemp }
    disc := { s.disc with
      lockRun := 0, unlockRun := 0
      conflicts := if new = .free then 0 else s.disc.conflicts
      conflictLatch := if new = .free then false else s.disc.conflictLatch
      heldP := if new = .free then none else s.disc.heldP }
    ports := s.ports.map fun r => { r with notices := r.notices ||| 0x10 } }

theorem changeTimeState_same {new : TimeState} (e : s.tb.state = new) (conflict : Bool) :
    changeTimeState new conflict s = s := if_pos e

theorem changeTimeState_changes {new : TimeState} (ne : s.tb.state ≠ new) (conflict : Bool) :
    changeTimeState new conflict s =
      if new = .adrift ∧ conflict = false then timeNotice false (entered new s) else entered new s := by
  unfold changeTimeState
  rw [if_neg ne]
  by_cases free : new = .free
  · subst free; rfl
  · simp only [if_neg free]
    unfold entered
    simp only [if_neg free]
    rfl

/-- A change of the time state that asks for no notice. -/
theorem changeTimeState_enters {new : TimeState} (ne : s.tb.state ≠ new) {conflict : Bool}
    (quiet : ¬(new = .adrift ∧ conflict = false)) : changeTimeState new conflict s = entered new s :=
  (changeTimeState_changes ne conflict).trans (if_neg quiet)

/-! ### The uncertainty (R6, R57) -/

theorem setUncertainty_tb (n : Nat) (s : State) :
    (setUncertainty n s).tb = { s.tb with uncertainty := min 4294967295 n } := by
  unfold setUncertainty; dsimp only; split <;> rfl

/-- An uncertainty at or below the refresh limit asks for nothing. -/
theorem setUncertainty_low {n : Nat} (low : min 4294967295 n ≤ s.disc.cfg.refreshLimit) :
    setUncertainty n s = { s with
      tb := { s.tb with uncertainty := min 4294967295 n }
      disc := { s.disc with takenLow := false, aboveRefresh := false } } := by
  have noRise : risesAbove (min 4294967295 n) s = false :=
    Bool.eq_false_iff.2 fun rise => Nat.not_lt_of_le low ((risesAbove_iff ..).1 rise).1
  have below : (false || (s.disc.aboveRefresh && decide (s.disc.cfg.refreshLimit < min 4294967295 n))) = false := by
    simp only [decide_eq_false (Nat.not_lt_of_le low), Bool.and_false, Bool.or_false]
  unfold setUncertainty; dsimp only
  rw [noRise, if_neg Bool.false_ne_true]
  exact congrArg (fun above => { s with
    tb := { s.tb with uncertainty := min 4294967295 n }
    disc := { s.disc with takenLow := false, aboveRefresh := above } }) below

/-! ### The steering action (R45) -/

/-- A forward step moves the expected PPS time and the matched PPS, and nothing else of the Discipline Unit (R38, R41). -/
theorem forwardStep_disc (n : Nat) (s : State) :
    ∃ expected matched, (forwardStep n s).disc = { s.disc with expected := expected, matched := matched } := by
  by_cases zero : n = 0
  · subst zero; exact ⟨s.disc.expected, s.disc.matched, congrArg State.disc (forwardStep_zero s)⟩
  · exact ⟨_, _, congrArg (·.disc) (forwardStep_parts zero s).1⟩

theorem steer_steps {err : Int} (beyond : err < -(s.disc.cfg.stepThreshold : Int)) :
    steer err s = (forwardStep (-err).toNat s).onTb fun tb => { tb with cslew := 0 } :=
  if_pos (decide_eq_true beyond)

theorem steer_slews {err : Int} (within : -(s.disc.cfg.stepThreshold : Int) ≤ err) :
    steer err s = s.onTb (Timebase.slew s.disc.cfg err) :=
  if_neg (by rw [steps, decide_eq_true_iff]; omega)

theorem Timebase.slew_eq (c : DisciplineCfg) (err : Int) (tb : Timebase) :
    tb.slew c err = { tb with
      cslew := max (-500000) (min 500000 (Int.tdiv (-err * 10000) c.slewConstant))
      cfreq := max (-5000000) (min 5000000 (tb.cfreq + Int.tdiv (-err * 10000) c.freqConstant)) } := by
  unfold slew; rw [← neg_mul]; rfl

theorem steer_cfg (err : Int) (s : State) : (steer err s).disc.cfg = s.disc.cfg := by
  by_cases beyond : err < -(s.disc.cfg.stepThreshold : Int)
  · obtain ⟨_, _, disc⟩ := forwardStep_disc (-err).toNat s
    rw [steer_steps beyond, State.onTb_disc, disc]
  · rw [steer_slews (Int.not_lt.1 beyond)]; rfl

theorem inLockWindow_iff (c : DisciplineCfg) (err : Int) :
    inLockWindow c err = true ↔ err.natAbs ≤ c.lockWindow ∧ -(c.stepThreshold : Int) ≤ err := by
  simp [inLockWindow, steps]

/-! ### The runs (R47) -/

/-- An entry to LOCKED or ACQUIRING from the other records the time and starts both runs over. -/
theorem entered_of_tracking {new : TimeState} (tracking : s.tb.state ≠ .holdover) (bound : new ≠ .free) :
    entered new s = { s with
      tb := { s.tb with state := new, entry := s.tb.now }
      disc := { s.disc with lockRun := 0, unlockRun := 0 }
      ports := s.ports.map fun r => { r with notices := r.notices ||| 0x10 } } := by
  unfold entered; simp only [if_neg tracking, if_neg bound]

/-- The lock run after a phase error (R47). -/
def nextLockRun (err : Int) (d : Discipline) : Nat :=
  if err.natAbs ≤ d.cfg.lockWindow ∧ -(d.cfg.stepThreshold : Int) ≤ err then min 255 (d.lockRun + 1) else 0

/-- The unlock run after a phase error (R47). -/
def nextUnlockRun (err : Int) (d : Discipline) : Nat :=
  if d.cfg.unlockWindow < err.natAbs then min 255 (d.unlockRun + 1) else 0

theorem moveLockRun_eq (err : Int) (s : State) :
    moveLockRun err s =
      if 0 < nextLockRun err s.disc ∧ s.disc.cfg.lockCount ≤ nextLockRun err s.disc then
        changeTimeState .locked false (s.onDisc fun d => { d with lockRun := nextLockRun err s.disc })
      else s.onDisc fun d => { d with lockRun := nextLockRun err s.disc } := by
  unfold moveLockRun nextLockRun
  simp only [inLockWindow_iff, satInc_eq]

theorem moveUnlockRun_eq (err : Int) (s : State) :
    moveUnlockRun err s =
      if 3 ≤ nextUnlockRun err s.disc then
        changeTimeState .acquiring false (s.onDisc fun d => { d with unlockRun := nextUnlockRun err s.disc })
      else s.onDisc fun d => { d with unlockRun := nextUnlockRun err s.disc } := by
  unfold moveUnlockRun nextUnlockRun
  simp only [satInc_eq]

theorem moveLockRun_locks {err : Int} (acquiring : s.tb.state = .acquiring)
    (locks : 0 < nextLockRun err s.disc ∧ s.disc.cfg.lockCount ≤ nextLockRun err s.disc) :
    moveLockRun err s = { s with
      tb := { s.tb with state := .locked, entry := s.tb.now }
      disc := { s.disc with lockRun := 0, unlockRun := 0 }
      ports := s.ports.map fun r => { r with notices := r.notices ||| 0x10 } } := by
  rw [moveLockRun_eq, if_pos locks, changeTimeState_enters (by simp [acquiring]) (by simp),
    entered_of_tracking (by simp [acquiring]) (by simp)]
  rfl

theorem moveUnlockRun_unlocks {err : Int} (locked : s.tb.state = .locked) (third : 3 ≤ nextUnlockRun err s.disc) :
    moveUnlockRun err s = { s with
      tb := { s.tb with state := .acquiring, entry := s.tb.now }
      disc := { s.disc with lockRun := 0, unlockRun := 0 }
      ports := s.ports.map fun r => { r with notices := r.notices ||| 0x10 } } := by
  rw [moveUnlockRun_eq, if_pos third, changeTimeState_enters (by simp [locked]) (by simp),
    entered_of_tracking (by simp [locked]) (by simp)]
  rfl

/-! ### The temperature table (R53, R54) -/

theorem binOf_eq {i : Nat} {v : Int} (e : (i : Int) = max 0 (min 15 ((v + 400) / 50))) : binOf v = i := by
  unfold binOf clampTo; rw [← e]; rfl

theorem learnBin_learns {i : Nat} {b : TempBin} (sound : s.pw.tosc.faulted = false)
    (at_ : (i : Int) = max 0 (min 15 ((s.pw.tosc.value + 400) / 50))) (bin : s.disc.bins[i]? = some b) :
    learnBin s = s.onDisc fun d => { d with bins := d.bins.set i (b.learn s.tb.cfreq) } := by
  unfold learnBin
  rw [sound, binOf_eq at_]
  simp only [Bool.false_eq_true, if_false, State.onDisc]
  rw [List.modify_eq_set_getElem?, bin]
  rfl

theorem TempBin.learn_eq (cfreq : Int) (b : TempBin) : b.learn cfreq =
    { value := if b.count = 0 then cfreq else b.value + Int.tdiv (cfreq - b.value) 8, count := min 255 (b.count + 1) } := by
  unfold learn; rw [satInc_eq]

/-! ### A PPS (R38, R44) -/

/-- A capture on channel 0, which the Discipline Unit reads at once (R18, R20). -/
def ppsCaptured (s : State) : State :=
  s.onCcu fun c => { c with ch0 := { last := some s.tb.now, unread := false, overwrites := 0 } }

theorem exec_ppsCapture (released : s.pace.held = false) :
    exec .ppsCapture s = .next (settle (qualifyPps s.tb.now (ppsCaptured s))) :=
  takeEvent_due (due := fun _ => true) (effect := fun x => settle (qualifyPps x.tb.now (ppsCaptured x))) released rfl

theorem qualifyPps_valid {t : Time} (on : s.pw.loads.gnss.on = true)
    (expected : s.disc.present = false ∨ (s.disc.expected ≤ t + 500000 ∧ t ≤ s.disc.expected + 500000)) :
    qualifyPps t s = validPps t s := by
  unfold qualifyPps
  rw [on, if_neg (by simp), if_pos]
  rcases expected with absent | window
  · simp [absent]
  · simp [ppsInWindow, window]

theorem qualifyPps_off {t : Time} (off : s.pw.loads.gnss.on = false) : qualifyPps t s = s := by simp [qualifyPps, off]

theorem qualifyPps_invalid {t : Time} (on : s.pw.loads.gnss.on = true) (present : s.disc.present = true)
    (outside : t + 500000 < s.disc.expected ∨ s.disc.expected + 500000 < t) :
    qualifyPps t s = s.onDisc fun d => { d with invalidPps := min 65535 (d.invalidPps + 1) } := by
  have beyond : ppsInWindow t s.disc = false := by
    unfold ppsInWindow
    rw [Bool.and_eq_false_iff, decide_eq_false_iff_not, decide_eq_false_iff_not]
    exact outside.imp Nat.not_le_of_lt Nat.not_le_of_lt
  unfold qualifyPps
  simp only [on, present, beyond, satInc_eq]
  rfl

/-- The record of a valid PPS (R8, R38, R40, R44). -/
theorem recordPps_eq (t : Time) (s : State) : recordPps t s = { s with
    tb := { s.tb with ppsSeen := ⟨true, true, true⟩ }
    disc := { s.disc with
      present := true, expected := (t + 10000000) % (2 ^ 40 * 10000000), absence := 0, lossDue := false
      matched := some { capture := t, stepped := 0, awaitsLabel := true }
      validPps := (s.disc.validPps + 1) % 2 ^ 32, lastP := phaseError t, label := []
      badChecks := if s.disc.label = [] then s.disc.badChecks else min 65535 (s.disc.badChecks + 1) } } := by
  unfold recordPps
  simp only [List.isEmpty_iff, satInc_eq]
  rfl

/-- The work of a valid PPS over its record (R44 to R47, R54). -/
theorem validPps_eq (t : Time) (s : State) : validPps t s =
    match s.tb.state with
    | .free => recordPps t s
    | .acquiring => moveLockRun (phaseError t) (steerAndJudge (phaseError t) (recordPps t s))
    | .locked => learnBin (moveUnlockRun (phaseError t) (steerAndJudge (phaseError t) (recordPps t s)))
    | .holdover => (recordPps t s).onDisc fun d => { d with heldP := some (phaseError t) }
    | .adrift => (recordPps t s).onDisc fun d => { d with heldP := some (phaseError t) } := rfl

/-- Settles O16, operation by operation. -/
theorem ppsCapturesSteerStationTime : Obligations.PpsCapturesSteerStationTime := by
  refine ⟨fun s released on expected => ?valid, fun s released => ?other, fun err s => ⟨steer_steps, fun within => ?slews,
    ⟨rfl, setUncertainty_tb .., fun low => ?judge⟩, fun acquiring => ⟨fun stays => ?waits, fun locks => ?locks⟩,
    fun locked => ⟨fun few => ?stays, fun third => ?unlocks⟩, fun faulted => if_pos faulted,
    fun i b sound at_ bin => ?learns⟩⟩
  case valid =>
    rw [exec_ppsCapture released, qualifyPps_valid (s := ppsCaptured s) on expected, validPps_eq, recordPps_eq]
    rfl
  case other =>
    refine ⟨fun off => ?_, fun on present outside => ?_⟩
    · rw [exec_ppsCapture released, qualifyPps_off (s := ppsCaptured s) off]; rfl
    · rw [exec_ppsCapture released, qualifyPps_invalid (s := ppsCaptured s) on present outside]; rfl
  case slews => rw [steer_slews within]; exact congrArg (fun tb => { s with tb := tb }) (Timebase.slew_eq ..)
  case judge => exact setUncertainty_low (steer_cfg err s ▸ low)
  case waits => rw [moveLockRun_eq]; exact if_neg stays
  case locks => exact moveLockRun_locks acquiring locks
  case stays => rw [moveUnlockRun_eq]; exact if_neg (Nat.not_le_of_lt few)
  case unlocks => exact moveUnlockRun_unlocks locked third
  case learns => rw [learnBin_learns sound at_ bin, TempBin.learn_eq]

end Sys2Proof.Machine
end

section
/-! Reading, setting and resetting station time (R8, R11 to R15, R50): what a forward step, the uncertainty, a change of the
time state and a TIME notice leave alone, and the commands over them. -/

namespace Sys2Proof.Machine

variable {s t : State}

/-! ### TIME notices (R14, R15) -/

/-- A request for a notice that is no ALARM and names no event changes the slot table, and of the link at most what a
waiting ALARM notice marks (R133). -/
theorem requestNotice_plain {a : NoticeAsk} (noAlarm : a.cls ≠ .alarm) (noEvent : a.event = none) (s : State) :
    (requestNotice a s).1 = { s with nt := (requestNotice a s).1.nt, link := (requestNotice a s).1.link } := by
  have waits (n : Nat) (x : State) : waitAgain n x = { x with nt := (waitAgain n x).nt, link := (waitAgain n x).link } := by
    unfold waitAgain alarmWaiting; dsimp only
    repeat' split
    all_goals rfl
  have obtained : (obtainSlot a.cls s).1 = s := by
    unfold obtainSlot
    split
    · rfl
    · rw [if_neg noAlarm]
  unfold requestNotice
  revert obtained
  generalize obtainSlot a.cls s = o
  obtain ⟨x, slot⟩ := o
  rintro rfl
  rw [noEvent]
  cases slot with
  | none => rfl
  | some n => exact waits n _

theorem timeNotice_live {urgent : Bool} (live : (if urgent then s.tb.urgentRef else s.tb.routineRef) ≠ none) :
    timeNotice urgent s = s := if_pos (Option.isSome_iff_ne_none.2 live)

/-- What the Timebase asks for (R14, R15). -/
def timeAsk (urgent : Bool) : NoticeAsk :=
  { kind := .time, cls := if urgent then .urgent else .routine, origin := .timebase, event := none, reason := .levelEntry }

theorem timeNotice_asks {urgent : Bool} (free : (if urgent then s.tb.urgentRef else s.tb.routineRef) = none) :
    timeNotice urgent s = { (requestNotice (timeAsk urgent) s).1 with
      tb := if urgent then { (requestNotice (timeAsk urgent) s).1.tb with urgentRef := (requestNotice (timeAsk urgent) s).2 }
            else { (requestNotice (timeAsk urgent) s).1.tb with routineRef := (requestNotice (timeAsk urgent) s).2 } } :=
  if_neg (by simp [free])

/-- A TIME notice changes the slot table, the Timebase's references and at most the probe marks of the link. -/
theorem timeNotice_only (urgent : Bool) (s : State) : timeNotice urgent s = { s with
    tb := { s.tb with
      routineRef := (timeNotice urgent s).tb.routineRef, urgentRef := (timeNotice urgent s).tb.urgentRef }
    nt := (timeNotice urgent s).nt, link := (timeNotice urgent s).link } := by
  by_cases free : (if urgent then s.tb.urgentRef else s.tb.routineRef) = none
  · have asked := requestNotice_plain (a := timeAsk urgent) (by cases urgent <;> simp [timeAsk]) rfl s
    rw [timeNotice_asks free]
    generalize (requestNotice (timeAsk urgent) s).2 = slot at *
    rw [asked]
    cases urgent <;> rfl
  · rw [timeNotice_live free]

/-! ### What the operations of station time leave -/

/-- The queue, the paces, the Settings Store, the records' sequence and the settings of the link, the Power Controller and the
heaters stay. -/
structure LeavesSettings (s t : State) : Prop where
  pending : t.pending = s.pending
  pace : t.pace = s.pace
  store : t.store = s.store
  nextSeq : t.ev.nextSeq = s.ev.nextSeq
  link : t.link.kept = s.link.kept
  pw : t.pw.kept = s.pw.kept
  ht : t.ht.kept = s.ht.kept

theorem LeavesSettings.trans {u : State} (p : LeavesSettings s t) (q : LeavesSettings t u) : LeavesSettings s u :=
  ⟨q.pending.trans p.pending, q.pace.trans p.pace, q.store.trans p.store, q.nextSeq.trans p.nextSeq, q.link.trans p.link,
    q.pw.trans p.pw, q.ht.trans p.ht⟩

theorem timeNotice_leaves (urgent : Bool) (s : State) : LeavesSettings s (timeNotice urgent s) := by
  have link : (timeNotice urgent s).link.kept = s.link.kept :=
    congrArg State.link (kept_of_fixed (timeNotice_fixed urgent s))
  have only := timeNotice_only urgent s
  exact ⟨congrArg (·.pending) only, congrArg (·.pace) only, congrArg (·.store) only, congrArg (·.ev.nextSeq) only, link,
    congrArg (·.pw.kept) only, congrArg (·.ht.kept) only⟩

theorem entered_leaves (new : TimeState) (s : State) : LeavesSettings s (entered new s) :=
  ⟨rfl, rfl, rfl, rfl, rfl, rfl, rfl⟩

theorem changeTimeState_leaves (new : TimeState) (conflict : Bool) (s : State) :
    LeavesSettings s (changeTimeState new conflict s) := by
  by_cases same : s.tb.state = new
  · rw [changeTimeState_same same]; exact ⟨rfl, rfl, rfl, rfl, rfl, rfl, rfl⟩
  · rw [changeTimeState_changes same]
    split
    · exact (entered_leaves new s).trans (timeNotice_leaves ..)
    · exact entered_leaves new s

theorem setUncertainty_leaves (n : Nat) (s : State) : LeavesSettings s (setUncertainty n s) := by
  unfold setUncertainty; dsimp only
  split <;> exact ⟨rfl, rfl, rfl, rfl, rfl, rfl, rfl⟩

/-- Setting the uncertainty changes it, the refresh request and GNSS's requesters. -/
theorem setUncertainty_only (n : Nat) (s : State) : setUncertainty n s = { s with
    tb := { s.tb with uncertainty := min 4294967295 n }
    disc := (setUncertainty n s).disc, pw := (setUncertainty n s).pw } ∧
    (setUncertainty n s).disc = { s.disc with
      refresh := (setUncertainty n s).disc.refresh, sinceRefresh := (setUncertainty n s).disc.sinceRefresh
      takenLow := (setUncertainty n s).disc.takenLow, aboveRefresh := (setUncertainty n s).disc.aboveRefresh } := by
  unfold setUncertainty; dsimp only
  split <;> exact ⟨rfl, rfl⟩

theorem setUncertainty_ports (n : Nat) (s : State) : (setUncertainty n s).ports = s.ports := by
  unfold setUncertainty; dsimp only; split <;> rfl

theorem forwardStep_leaves (n : Nat) (s : State) :
    LeavesSettings s (forwardStep n s) ∧ (forwardStep n s).ports = s.ports ∧ (forwardStep n s).nt = s.nt := by
  by_cases zero : n = 0
  · subst zero; rw [forwardStep_zero]; exact ⟨⟨rfl, rfl, rfl, rfl, rfl, rfl, rfl⟩, rfl, rfl⟩
  · have beside := (forwardStep_parts zero s).1
    obtain ⟨pending, pace, nt, pw, ports, store, link, _, _, _, nextSeq⟩ := sameOthers_of beside
    exact ⟨⟨pending, pace, store, nextSeq, (congrArg Link.kept link :), congrArg Power.kept pw, congrArg (·.ht) beside⟩,
      ports, nt⟩

/-- A forward step moves station time, the step count and the last step, and nothing else of the Timebase (R9, R33). -/
theorem forwardStep_tb_only (n : Nat) (s : State) : ∃ now count last,
    (forwardStep n s).tb = { s.tb with now := now, stepCount := count, lastStep := last } := by
  by_cases zero : n = 0
  · subst zero; exact ⟨s.tb.now, s.tb.stepCount, s.tb.lastStep, congrArg State.tb (forwardStep_zero s)⟩
  · exact ⟨_, _, _, congrArg (·.tb) (forwardStep_parts zero s).1⟩

/-- The Timebase after a forward step that does not wrap station time (R9, R33). -/
theorem forwardStep_tb {n : Nat} (room : s.tb.now + n < timeSpan) :
    (forwardStep n s).tb = { s.tb with
      now := s.tb.now + n
      stepCount := if n = 0 then s.tb.stepCount else (s.tb.stepCount + 1) % 65536
      lastStep := if n = 0 then s.tb.lastStep else n } := by
  by_cases zero : n = 0
  · subst zero; rw [forwardStep_zero]; rfl
  · have tb : (forwardStep n s).tb = (stepped n s).tb := congrArg (·.tb) (forwardStep_parts zero s).1
    rw [tb, if_neg zero, if_neg zero]
    exact congrArg (fun now => { (stepped n s).tb with now := now }) (Nat.mod_eq_of_lt room)

/-- The entry to ADRIFT that may ask for the ROUTINE TIME notice, at the Timebase and at the ports (R5, R14, R50). -/
theorem changeTimeState_adrift (s : State) :
    let x := changeTimeState .adrift false s
    x.tb = { s.tb with
      state := .adrift
      entry := if s.tb.state = .adrift then s.tb.entry else s.tb.now
      ctemp := if s.tb.state = .holdover then 0 else s.tb.ctemp
      routineRef := x.tb.routineRef, urgentRef := x.tb.urgentRef } ∧
    ∀ q, (x.ports.get q).notices =
      if s.tb.state = .adrift then (s.ports.get q).notices else (s.ports.get q).notices ||| 0x10 := by
  intro x
  by_cases adrift : s.tb.state = .adrift
  · have same : x = s := changeTimeState_same adrift false
    rw [same, if_pos adrift, if_neg (by simp [adrift])]
    refine ⟨?_, fun q => (if_pos adrift).symm⟩
    rw [← adrift]
  · have asks : x = timeNotice false (entered .adrift s) := changeTimeState_changes adrift false
    have only := timeNotice_only false (entered .adrift s)
    rw [← asks] at only
    refine ⟨?_, fun q => ?_⟩
    · rw [if_neg adrift]
      exact congrArg (·.tb) only
    · have ports : x.ports = (entered .adrift s).ports := congrArg (·.ports) only
      rw [ports, if_neg adrift]
      cases q <;> rfl

/-! ### GET_TIME_STATUS and the bytes of SET_TIME -/

theorem flagsByte_one (b : Bool) : flagsByte [b] = be 1 (if b then 1 else 0) := by cases b <;> rfl

theorem natOf_lt (bs : List Byte) : natOf bs < 256 ^ bs.length := by
  induction bs with
  | nil => simp [natOf]
  | cons b bs ih =>
    rw [natOf_cons, List.length_cons, Nat.pow_succ]
    have := b.isLt
    calc b.toNat * 256 ^ bs.length + natOf bs < (b.toNat + 1) * 256 ^ bs.length := by rw [Nat.succ_mul]; omega
      _ ≤ 256 ^ bs.length * 256 := by rw [Nat.mul_comm]; exact Nat.mul_le_mul_left _ (by omega)

/-- The time in the first 8 argument bytes (R16). -/
theorem timeOf_args (args : List Byte) : timeOf (fieldAt args 0 8) =
    if natOf ((args.drop 5).take 3) < perSecond then
      some (natOf (args.take 5) * perSecond + natOf ((args.drop 5).take 3)) else none := by
  have seconds : natAt (fieldAt args 0 8) 0 5 = natOf (args.take 5) := by
    simp [natAt, fieldAt, List.take_take]
  have ticks : natAt (fieldAt args 0 8) 5 3 = natOf ((args.drop 5).take 3) := by
    simp [natAt, fieldAt, List.drop_take, List.take_take]
  rw [timeOf, seconds, ticks]

/-- SET_TIME with a time that is not behind station time (R11, R12). -/
theorem runSetTime_takes {args : List Byte} {x : Time} (size : args.length = 12) (time : timeOf (fieldAt args 0 8) = some x)
    (ahead : s.tb.now ≤ x) : runSetTime args s =
      taken (timeBytes (x - s.tb.now)) (settle (changeTimeState .adrift false
        (setUncertainty (natOf (args.drop 8)) (forwardStep (x - s.tb.now) s)))) := by
  have last : natAt args 8 4 = natOf (args.drop 8) := by
    rw [natAt, fieldAt, List.take_of_length_le (by simp [size])]
  unfold runSetTime
  rw [if_neg (by simp [size]), time]
  dsimp only
  rw [if_neg (Nat.not_lt_of_le ahead), last]

/-! ### The statement -/

/-- A request that is taken leaves the notification sets. -/
theorem taking_notices (p q : Port) (tag : Byte) (s : State) :
    ((s.taking p tag).ports.get q).notices = (s.ports.get q).notices := by cases p <;> cases q <;> rfl

/-- GET_TIME_STATUS returns the time-state record and clears the requesting port's flag (R8). -/
theorem exec_getTimeStatus {p : Port} {tag : Byte} (adm : Admits p .read s) :
    exec (.getTimeStatus p tag []) s =
      .next ((s.onTb fun tb => { tb with ppsSeen := tb.ppsSeen.update p fun _ => false }).answered p tag .ok
        (timeStatusData p s.tb)) := by
  have ran : exec (.getTimeStatus p tag []) s = .next (finishReply p tag (taken (timeStatusData p s.tb)
      ((s.onTb fun tb => { tb with ppsSeen := tb.ppsSeen.update p fun _ => false }).taking p tag))) :=
    request_admitted adm tag _
  rw [ran]
  exact congrArg _ ((finishReply_preparing (State.taking_reply ..) _ _).trans (replyReady_taking ..))

/-- The state that SET_TIME makes before it is formed again (R11, R12). -/
def timeSet (step u : Nat) (s : State) : State := changeTimeState .adrift false (setUncertainty u (forwardStep step s))

theorem timeSet_leaves (step u : Nat) (s : State) : LeavesSettings s (timeSet step u s) :=
  ((forwardStep_leaves step s).1.trans (setUncertainty_leaves u _)).trans (changeTimeState_leaves ..)

theorem timeSet_tb {step u : Nat} (room : s.tb.now + step < timeSpan) (small : u ≤ 4294967295) :
    (timeSet step u s).tb = { s.tb with
      now := s.tb.now + step
      stepCount := if step = 0 then s.tb.stepCount else (s.tb.stepCount + 1) % 65536
      lastStep := if step = 0 then s.tb.lastStep else step
      uncertainty := u, state := .adrift
      entry := if s.tb.state = .adrift then s.tb.entry else s.tb.now + step
      ctemp := if s.tb.state = .holdover then 0 else s.tb.ctemp
      routineRef := (timeSet step u s).tb.routineRef, urgentRef := (timeSet step u s).tb.urgentRef } := by
  have entry := (changeTimeState_adrift (setUncertainty u (forwardStep step s))).1
  rw [setUncertainty_tb, forwardStep_tb room, Nat.min_eq_right small] at entry
  exact entry

theorem timeSet_notices (step u : Nat) (s : State) (q : Port) : ((timeSet step u s).ports.get q).notices =
    if s.tb.state = .adrift then (s.ports.get q).notices else (s.ports.get q).notices ||| 0x10 := by
  obtain ⟨now, count, last, moved⟩ := forwardStep_tb_only step s
  have state : (setUncertainty u (forwardStep step s)).tb.state = s.tb.state := by rw [setUncertainty_tb, moved]
  have notices := (changeTimeState_adrift (setUncertainty u (forwardStep step s))).2 q
  rw [state, setUncertainty_ports, (forwardStep_leaves step s).2.1] at notices
  exact notices

/-- The state that RESET_TIME makes before it is formed again (R13). -/
def timeReset (s : State) : State :=
  changeTimeState .free false (setUncertainty 4294967295 (s.onTb fun tb => { tb with cslew := 0, ctemp := 0 }))

/-- RESET_TIME puts the Timebase, the Discipline Unit, the requesters of GNSS and the notification sets in order, and
leaves every other block. -/
theorem timeReset_eq (s : State) : timeReset s = { s with
    tb := { s.tb with
      cslew := 0, ctemp := 0, uncertainty := 4294967295, state := .free
      entry := if s.tb.state = .free then s.tb.entry else s.tb.now }
    disc := (timeReset s).disc, pw := (timeReset s).pw
    ports := if s.tb.state = .free then s.ports else s.ports.map fun r => { r with notices := r.notices ||| 0x10 } } := by
  have form : ∃ disc pw, setUncertainty 4294967295 (s.onTb fun tb => { tb with cslew := 0, ctemp := 0 }) =
      { s with tb := { s.tb with cslew := 0, ctemp := 0, uncertainty := 4294967295 }, disc := disc, pw := pw } :=
    ⟨_, _, (setUncertainty_only 4294967295 (s.onTb fun tb => { tb with cslew := 0, ctemp := 0 })).1⟩
  obtain ⟨disc, pw, form⟩ := form
  unfold timeReset
  rw [form]
  by_cases free : s.tb.state = .free
  · rw [changeTimeState_same (by exact free), if_pos free, if_pos free, ← free]
  · rw [changeTimeState_enters (by exact free) (by simp), if_neg free, if_neg free]
    simp only [entered, ite_self]

theorem timeReset_disc (s : State) : (timeReset s).disc.kept =
    (if s.tb.state = .free then s.disc else { s.disc with conflicts := 0, conflictLatch := false }).kept := by
  have only := setUncertainty_only 4294967295 (s.onTb fun tb => { tb with cslew := 0, ctemp := 0 })
  unfold timeReset
  generalize setUncertainty 4294967295 (s.onTb fun tb => { tb with cslew := 0, ctemp := 0 }) = x at only
  have state : x.tb.state = s.tb.state := congrArg (·.tb.state) only.1
  have disc : x.disc.kept = s.disc.kept := congrArg (·.kept) only.2
  by_cases free : s.tb.state = .free
  · rw [changeTimeState_same (state.trans free), if_pos free, disc]
  · rw [changeTimeState_enters (state ▸ free) (by simp), if_neg free]
    exact congrArg (fun d : Discipline => { d with conflicts := 0, conflictLatch := false }) disc

theorem timeReset_pw (s : State) : (timeReset s).pw.kept = s.pw.kept :=
  ((setUncertainty_leaves 4294967295 (s.onTb fun tb => { tb with cslew := 0, ctemp := 0 })).trans
    (changeTimeState_leaves .free false _)).pw

theorem exec_setTime_refused {p : Port} {tag : Byte} {args : List Byte} (adm : Admits p .configure s)
    (bad : args.length ≠ 12 ∨ timeOf (fieldAt args 0 8) = none) :
    exec (.setTime p tag args) s = .next (s.answered p tag .outOfRange []) := by
  refine request_answers adm ?_
  unfold runSetTime
  by_cases size : args.length = 12
  · rw [if_neg (not_not_intro size), bad.resolve_left (not_not_intro size)]; rfl
  · rw [if_pos size]; rfl

theorem exec_setTime_backward {p : Port} {tag : Byte} {args : List Byte} {x : Time} (adm : Admits p .configure s)
    (size : args.length = 12) (time : timeOf (fieldAt args 0 8) = some x) (behind : x < s.tb.now) :
    exec (.setTime p tag args) s = .next (s.answered p tag .timeBackward []) := by
  refine request_answers adm ?_
  unfold runSetTime
  rw [if_neg (not_not_intro size), time]
  exact if_pos behind

theorem exec_setTime_takes {p : Port} {tag : Byte} {args : List Byte} {x : Time} (adm : Admits p .configure s)
    (size : args.length = 12) (time : timeOf (fieldAt args 0 8) = some x) (ahead : s.tb.now ≤ x) :
    exec (.setTime p tag args) s =
      .next ((settle (timeSet (x - s.tb.now) (natOf (args.drop 8)) (s.taking p tag))).replied p tag
        (timeBytes (x - s.tb.now))) := by
  have ran : exec (.setTime p tag args) s = _ := request_admitted adm tag (runSetTime args)
  rw [ran, runSetTime_takes (s := s.taking p tag) size time ahead]; rfl

/-- The Timebase after SET_TIME, by the time it sets (R11, R12, R33). -/
theorem timeSet_tb_to {x u : Nat} (ahead : s.tb.now ≤ x) (bound : x < timeSpan) (small : u ≤ 4294967295) :
    (timeSet (x - s.tb.now) u s).tb = { s.tb with
      now := x
      stepCount := if x = s.tb.now then s.tb.stepCount else (s.tb.stepCount + 1) % 65536
      lastStep := if x = s.tb.now then s.tb.lastStep else x - s.tb.now
      uncertainty := u, state := .adrift
      entry := if s.tb.state = .adrift then s.tb.entry else x
      ctemp := if s.tb.state = .holdover then 0 else s.tb.ctemp
      routineRef := (timeSet (x - s.tb.now) u s).tb.routineRef
      urgentRef := (timeSet (x - s.tb.now) u s).tb.urgentRef } := by
  have arrives : s.tb.now + (x - s.tb.now) = x := Nat.add_sub_of_le ahead
  have still : x - s.tb.now = 0 ↔ x = s.tb.now :=
    ⟨fun e => Nat.le_antisymm (Nat.le_of_sub_eq_zero e) ahead, fun e => e ▸ Nat.sub_self _⟩
  have tb := timeSet_tb (s := s) (u := u) (arrives.symm ▸ bound) small
  simp only [arrives, still] at tb
  exact tb

/-- A time that the argument bytes spell lies within the span of station time (R1, R16). -/
theorem spelled_lt {bs : List Byte} {ticks : Nat} (size : bs.length ≤ 5) (few : ticks < perSecond) :
    natOf bs * perSecond + ticks < timeSpan := by
  have seconds : natOf bs + 1 ≤ 2 ^ 40 :=
    calc natOf bs + 1 ≤ 256 ^ bs.length := natOf_lt bs
      _ ≤ 256 ^ 5 := Nat.pow_le_pow_right (by decide) size
      _ = 2 ^ 40 := by norm_num
  calc natOf bs * perSecond + ticks < (natOf bs + 1) * perSecond := by rw [Nat.succ_mul]; omega
    _ ≤ timeSpan := Nat.mul_le_mul_right _ seconds

/-- Settles O11, command by command. -/
theorem timeIsReadSetAndReset : Obligations.TimeIsReadSetAndReset := by
  refine ⟨fun p tag s adm => ?read, fun p tag args s released => ?set, fun p tag s adm => ?reset,
    fun urgent s => ⟨timeNotice_live, timeNotice_asks⟩,
    fun new conflict s => ⟨fun same => changeTimeState_same same conflict, fun ne => changeTimeState_changes ne conflict⟩⟩
  case read =>
    rw [exec_getTimeStatus adm, timeStatusData, flagsByte_one]
    cases s.tb.state <;> rfl
  case set =>
    intro seconds ticks x
    have few_iff : ticks < perSecond ↔ ticks ≤ 9999999 := Nat.lt_succ_iff
    have time (few : ticks ≤ 9999999) : timeOf (fieldAt args 0 8) = some x :=
      (timeOf_args args).trans (if_pos (few_iff.2 few))
    have noTime (many : 9999999 < ticks) : timeOf (fieldAt args 0 8) = none :=
      (timeOf_args args).trans (if_neg fun few => Nat.not_le_of_lt many (few_iff.1 few))
    have bound (few : ticks ≤ 9999999) : x < timeSpan := spelled_lt (List.length_take_le ..) (few_iff.2 few)
    clear_value seconds ticks x
    refine ⟨fun denied => request_denied (right := .configure) released denied tag _, fun adm bad => ?_,
      fun adm size few behind => ?_, fun adm size few ahead => ?_⟩
    · exact exec_setTime_refused adm (bad.imp_right noTime)
    · exact exec_setTime_backward adm size (time few) behind
    · have small : natOf (args.drop 8) ≤ 4294967295 := by
        have := natOf_lt (args.drop 8)
        rw [List.length_drop, size] at this
        exact Nat.le_of_lt_succ this
      obtain ⟨pending, pace, store, nextSeq, link, pw, ht⟩ :=
        timeSet_leaves (x - s.tb.now) (natOf (args.drop 8)) (s.taking p tag)
      have notices (q : Port) := timeSet_notices (x - s.tb.now) (natOf (args.drop 8)) (s.taking p tag) q
      refine ⟨exec_setTime_takes adm size (time few) ahead,
        timeSet_tb_to (s := s.taking p tag) ahead (bound few) small, fun other q => ?_, fun adrift q => ?_,
        pending, pace, store, nextSeq, link, pw, ht⟩
      · exact (notices q).trans ((if_neg other).trans (congrArg (· ||| 0x10) (taking_notices ..)))
      · exact (notices q).trans ((if_pos adrift).trans (taking_notices ..))
  case reset =>
    have form := timeReset_eq (s.taking p tag)
    refine ⟨timeReset (s.taking p tag), request_admitted adm tag _, congrArg (·.tb) form, timeReset_disc (s.taking p tag),
      fun q => ?_, congrArg (·.pending) form, congrArg (·.pace) form, congrArg (·.ccu) form, congrArg (·.acq) form,
      congrArg (·.det) form, congrArg (·.ev) form, congrArg (·.link) form, congrArg (·.nt) form,
      timeReset_pw (s.taking p tag), congrArg (·.ht) form, congrArg (·.store) form⟩
    have ports : (timeReset (s.taking p tag)).ports = _ := congrArg (·.ports) form
    rw [ports, ← taking_notices p q tag s]
    show ((if s.tb.state = TimeState.free then _ else _ : PerPort PortRec).get q).notices = _
    split
    · rfl
    · cases q <;> rfl

end Sys2Proof.Machine
end

section
/-! Labels (R42, R43, R49): the first label in FREE sets station time, and a later one is compared with it. -/

namespace Sys2Proof.Machine

variable {s : State}

/-! ### The first label in FREE (R43) -/

/-- Station time moved to a time, by a forward step or by the backward set (R10). -/
def movedTo (new : Time) (s : State) : State :=
  if s.tb.now ≤ new then forwardStep (new - s.tb.now) s else backwardSet new s

/-- Only a move forward counts as a step (R10, R33). -/
theorem movedTo_tb {new : Time} (bound : new < timeSpan) (s : State) : (movedTo new s).tb = { s.tb with
    now := new
    stepCount := if s.tb.now < new then (s.tb.stepCount + 1) % 65536 else s.tb.stepCount
    lastStep := if s.tb.now < new then new - s.tb.now else s.tb.lastStep } := by
  unfold movedTo
  split
  next ahead =>
    have arrives : s.tb.now + (new - s.tb.now) = new := Nat.add_sub_of_le ahead
    have still : new - s.tb.now = 0 ↔ ¬s.tb.now < new := by
      rw [Nat.sub_eq_zero_iff_le, Nat.not_lt]
    rw [forwardStep_tb (arrives.symm ▸ bound)]
    simp only [arrives, still, ite_not]
  next behind =>
    have notAhead : ¬s.tb.now < new := fun lt => behind (Nat.le_of_lt lt)
    rw [if_neg notAhead, if_neg notAhead]
    exact congrArg (·.tb) (backwardSet_parts new s).1

theorem movedTo_rest (new : Time) (s : State) : (movedTo new s).nt = s.nt ∧ (movedTo new s).pending = s.pending ∧
    (movedTo new s).pace = s.pace ∧ (movedTo new s).store = s.store := by
  unfold movedTo
  split
  · obtain ⟨leaves, _, nt⟩ := forwardStep_leaves (new - s.tb.now) s
    exact ⟨nt, leaves.pending, leaves.pace, leaves.store⟩
  · have beside := (backwardSet_parts new s).1
    exact ⟨congrArg (·.nt) beside, congrArg (·.pending) beside, congrArg (·.pace) beside, congrArg (·.store) beside⟩

/-- The entry to ACQUIRING from a first label, over the move of station time (R43). -/
theorem labelled_acquires {x : State} (free : x.tb.state = .free) (expected : Time) :
    changeTimeState .acquiring false (setUncertainty 0 ((x.onDisc fun d =>
      { d with expected := expected, lastP := 0, conflicts := 0, conflictLatch := false }).onTb fun tb =>
        { tb with cslew := 0 })) = { x with
      tb := { x.tb with cslew := 0, uncertainty := 0, state := .acquiring, entry := x.tb.now }
      disc := { x.disc with
        expected := expected, lastP := 0, conflicts := 0, conflictLatch := false
        takenLow := false, aboveRefresh := false, lockRun := 0, unlockRun := 0 }
      ports := x.ports.map fun r => { r with notices := r.notices ||| 0x10 } } := by
  rw [setUncertainty_low (by simp), changeTimeState_enters (by simp [free]) (by simp),
    entered_of_tracking (by simp [free]) (by simp), Nat.min_zero]
  rfl

theorem setFromLabel_free {label : Nat} {m : MatchedPps} {x : State}
    (moved : movedTo (label * perSecond + (s.tb.now - (m.capture + m.stepped))) s = x) (free : x.tb.state = .free) :
    setFromLabel label m s = { x with
      tb := { x.tb with cslew := 0, uncertainty := 0, state := .acquiring, entry := x.tb.now }
      disc := { x.disc with
        expected := addTime (label * perSecond) perSecond, lastP := 0, conflicts := 0, conflictLatch := false
        takenLow := false, aboveRefresh := false, lockRun := 0, unlockRun := 0 }
      ports := x.ports.map fun r => { r with notices := r.notices ||| 0x10 } } := by
  rw [← labelled_acquires free, ← moved]
  rfl

/-! ### A label that agrees (R42, R49) -/

/-- The conflicts and their latch cleared. -/
def cleared (s : State) : State := { s with disc := { s.disc with conflicts := 0, conflictLatch := false } }

/-- The return to ACQUIRING, with the held P taken where there is one (R49). -/
def returned (s : State) : State :=
  match s.disc.heldP with
  | none => changeTimeState .acquiring false s
  | some err =>
    let steered := steerAndJudge err (changeTimeState .acquiring false s)
    let run := if err.natAbs ≤ s.disc.cfg.lockWindow ∧ -(s.disc.cfg.stepThreshold : Int) ≤ err then 1 else 0
    { steered with disc := { steered.disc with heldP := none, lockRun := run } }

theorem returnToAcquiring_eq (s : State) : returnToAcquiring s = returned s := by
  unfold returnToAcquiring returned
  cases s.disc.heldP with
  | none => rfl
  | some err => simp only [inLockWindow_iff]; rfl

theorem labelAgrees_eq (s : State) : labelAgrees s =
    if s.tb.state = .holdover ∨ s.tb.state = .adrift then returned (cleared s) else cleared s := by
  unfold labelAgrees
  cases s.tb.state <;> simp [returnToAcquiring_eq] <;> rfl

/-- Steering changes the expected PPS time, the matched PPS and nothing else of the Discipline Unit. -/
theorem steer_disc (err : Int) (s : State) :
    ∃ expected matched, (steer err s).disc = { s.disc with expected := expected, matched := matched } := by
  by_cases beyond : err < -(s.disc.cfg.stepThreshold : Int)
  · rw [steer_steps beyond]; exact forwardStep_disc ..
  · rw [steer_slews (Int.not_lt.1 beyond)]; exact ⟨s.disc.expected, s.disc.matched, rfl⟩

theorem steer_state (err : Int) (s : State) : (steer err s).tb.state = s.tb.state := by
  by_cases beyond : err < -(s.disc.cfg.stepThreshold : Int)
  · obtain ⟨_, _, _, tb⟩ := forwardStep_tb_only (-err).toNat s
    rw [steer_steps beyond, State.onTb_tb, tb]
  · rw [steer_slews (Int.not_lt.1 beyond)]; rfl

/-- Steering and its uncertainty leave the time state and the conflicts. -/
theorem steerAndJudge_keeps (err : Int) (s : State) : (steerAndJudge err s).tb.state = s.tb.state ∧
    (steerAndJudge err s).disc.conflicts = s.disc.conflicts ∧
    (steerAndJudge err s).disc.conflictLatch = s.disc.conflictLatch := by
  obtain ⟨form, disc⟩ := setUncertainty_only (err.natAbs * 100) (steer err s)
  obtain ⟨_, _, steered⟩ := steer_disc err s
  unfold steerAndJudge
  refine ⟨?_, ?_, ?_⟩
  · rw [setUncertainty_tb]; exact steer_state err s
  · rw [disc, steered]
  · rw [disc, steered]

/-- What an entry to ACQUIRING, or none where the state is ACQUIRING, does. -/
theorem changeTimeState_acquiring (s : State) :
    let x := changeTimeState .acquiring false s
    x.tb = { s.tb with state := .acquiring, entry := x.tb.entry, ctemp := x.tb.ctemp } ∧
      x.disc.conflicts = s.disc.conflicts ∧ x.disc.conflictLatch = s.disc.conflictLatch := by
  intro x
  by_cases acquiring : s.tb.state = .acquiring
  · have same : x = s := changeTimeState_same acquiring false
    rw [same, ← acquiring]; exact ⟨rfl, rfl, rfl⟩
  · have enters : x = entered .acquiring s := changeTimeState_enters acquiring (by simp)
    rw [enters]; exact ⟨rfl, rfl, rfl⟩

theorem returned_keeps (s : State) : (returned s).tb.state = .acquiring ∧
    (returned s).disc.conflicts = s.disc.conflicts ∧ (returned s).disc.conflictLatch = s.disc.conflictLatch := by
  obtain ⟨tb, conflicts, latch⟩ := changeTimeState_acquiring s
  have state : (changeTimeState .acquiring false s).tb.state = .acquiring := by rw [tb]
  unfold returned
  split
  · exact ⟨state, conflicts, latch⟩
  next err _ =>
    obtain ⟨steered, conflicts', latch'⟩ := steerAndJudge_keeps err (changeTimeState .acquiring false s)
    exact ⟨steered.trans state, conflicts'.trans conflicts, latch'.trans latch⟩

theorem labelAgrees_keeps (s : State) : (labelAgrees s).disc.conflicts = 0 ∧ (labelAgrees s).disc.conflictLatch = false ∧
    (labelAgrees s).tb.state =
      match s.tb.state with | .holdover => .acquiring | .adrift => .acquiring | other => other := by
  obtain ⟨state, conflicts, latch⟩ := returned_keeps (cleared s)
  rw [labelAgrees_eq]
  split
  next away => exact ⟨conflicts, latch, by rcases away with h | h <;> rw [h, state]⟩
  next tracking =>
    refine ⟨rfl, rfl, ?_⟩
    show s.tb.state = _
    cases h : s.tb.state <;> simp [h] at tracking ⊢

/-- An agreeing label that ends in ACQUIRING or, from LOCKED, is followed by the entry to it, without a held P (R42, R49). -/
theorem labelAgrees_acquires (bound : s.tb.state ≠ .free) (noP : s.disc.heldP = none) :
    (if s.tb.state = .locked then changeTimeState .acquiring false (labelAgrees s) else labelAgrees s) =
      changeTimeState .acquiring false (cleared s) := by
  have back : returned (cleared s) = changeTimeState .acquiring false (cleared s) := by
    unfold returned
    rw [show (cleared s).disc.heldP = none from noP]
  rw [labelAgrees_eq, back]
  cases h : s.tb.state
  case free => exact absurd h bound
  case acquiring => simp [changeTimeState_same (s := cleared s) h]
  case locked => simp
  case holdover => simp
  case adrift => simp

/-! ### A label that disagrees (R42) -/

section
variable {label : Nat} {m : MatchedPps}

theorem compareLabel_agrees (same : label = roundedSecond (m.capture + m.stepped)) :
    compareLabel label m s = labelAgrees s := if_pos same

theorem compareLabel_latched (other : label ≠ roundedSecond (m.capture + m.stepped))
    (latched : s.disc.conflictLatch = true) : compareLabel label m s = s := (if_neg other).trans (if_pos latched)

theorem compareLabel_unlatched (other : label ≠ roundedSecond (m.capture + m.stepped))
    (free : s.disc.conflictLatch = false) : compareLabel label m s =
      if 3 ≤ s.disc.conflicts + 1 then labelConflict label (roundedSecond (m.capture + m.stepped)) s
      else s.onDisc fun d => { d with conflicts := d.conflicts + 1 } :=
  (if_neg other).trans (if_neg (by simp [free]))

end

/-- The state of a label conflict in which the URGENT notice has been asked for (R14). -/
def conflictAsked (s : State) : State := timeNotice true { s with disc := { s.disc with conflicts := 0 } }

theorem conflictAsked_only (s : State) : ∃ tb nt link, conflictAsked s = { s with
    tb := tb, disc := { s.disc with conflicts := 0 }, nt := nt, link := link } ∧
    tb = { s.tb with routineRef := tb.routineRef, urgentRef := tb.urgentRef } :=
  ⟨_, _, _, timeNotice_only true _, rfl⟩

/-- A conflict behind station time enters ADRIFT with the latch set and moves no time (R42). -/
theorem conflictBehind_facts (s : State) :
    let t := (changeTimeState .adrift true (conflictAsked s)).onDisc fun d => { d with conflictLatch := true }
    t.tb.state = .adrift ∧ t.disc.conflictLatch = true ∧ t.disc.conflicts = 0 ∧ t.tb.now = s.tb.now ∧
      t.tb.stepCount = s.tb.stepCount := by
  obtain ⟨tb, nt, link, form, refs⟩ := conflictAsked_only s
  have now : (conflictAsked s).tb.now = s.tb.now := by rw [form, refs]
  have count : (conflictAsked s).tb.stepCount = s.tb.stepCount := by rw [form, refs]
  have conflicts : (conflictAsked s).disc.conflicts = 0 := by rw [form]
  by_cases adrift : (conflictAsked s).tb.state = .adrift
  · rw [changeTimeState_same adrift]
    exact ⟨adrift, rfl, conflicts, now, count⟩
  · rw [changeTimeState_enters adrift (by simp)]
    exact ⟨rfl, rfl, conflicts, now, count⟩

theorem conflictStep_state (n : Nat) (s : State) : (conflictStep n (conflictAsked s)).tb.state = s.tb.state := by
  obtain ⟨_, _, _, moved⟩ := forwardStep_tb_only n (conflictAsked s)
  obtain ⟨tb, nt, link, form, refs⟩ := conflictAsked_only s
  have state : (conflictAsked s).tb.state = s.tb.state := by rw [form, refs]
  show (forwardStep n (conflictAsked s)).tb.state = s.tb.state
  rw [moved]; exact state

theorem conflictStep_heldP (n : Nat) (s : State) : (conflictStep n (conflictAsked s)).disc.heldP = s.disc.heldP := by
  obtain ⟨_, _, moved⟩ := forwardStep_disc n (conflictAsked s)
  obtain ⟨tb, nt, link, form, refs⟩ := conflictAsked_only s
  have held : (conflictAsked s).disc.heldP = s.disc.heldP := by rw [form]
  show (forwardStep n (conflictAsked s)).disc.heldP = s.disc.heldP
  rw [moved]; exact held

/-- The Timebase after the step of a label conflict (R3, R33, R42). -/
theorem conflictStep_tb {n : Nat} (pos : n ≠ 0) (room : s.tb.now + n < timeSpan) :
    (conflictStep n (conflictAsked s)).tb.now = s.tb.now + n ∧
      (conflictStep n (conflictAsked s)).tb.stepCount = (s.tb.stepCount + 1) % 65536 ∧
      (conflictStep n (conflictAsked s)).tb.lastStep = n ∧ (conflictStep n (conflictAsked s)).tb.cslew = 0 ∧
      (conflictStep n (conflictAsked s)).tb.cfreq = s.tb.cfreq := by
  obtain ⟨tb, nt, link, form, refs⟩ := conflictAsked_only s
  have asked : (conflictAsked s).tb = { s.tb with routineRef := tb.routineRef, urgentRef := tb.urgentRef } := by
    rw [form]; exact refs
  have now : (conflictAsked s).tb.now = s.tb.now := by rw [asked]
  have moved := forwardStep_tb (s := conflictAsked s) (n := n) (now.symm ▸ room)
  rw [if_neg pos, if_neg pos, asked] at moved
  refine ⟨congrArg Timebase.now moved, congrArg Timebase.stepCount moved, congrArg Timebase.lastStep moved, rfl,
    congrArg (·.cfreq) moved⟩

/-- The third label behind station time (R42). -/
theorem compareLabel_behind {label r : Nat} {m : MatchedPps} (second : roundedSecond (m.capture + m.stepped) = r)
    (behind : label < r) (free : s.disc.conflictLatch = false) (third : 2 ≤ s.disc.conflicts) : compareLabel label m s =
      (changeTimeState .adrift true (conflictAsked s)).onDisc fun d => { d with conflictLatch := true } := by
  subst second
  rw [compareLabel_unlatched (Nat.ne_of_lt behind) free, if_pos (Nat.succ_le_succ third)]
  exact labelConflict_behind (Nat.lt_asymm behind) s

/-- The third label ahead of station time (R42). -/
theorem compareLabel_ahead {label r n : Nat} {m : MatchedPps} (second : roundedSecond (m.capture + m.stepped) = r)
    (ahead : r < label) (free : s.disc.conflictLatch = false) (third : 2 ≤ s.disc.conflicts)
    (e : (label - r) * perSecond = n) : compareLabel label m s =
      let stepped := conflictStep n (conflictAsked s)
      if s.tb.state = .locked then changeTimeState .acquiring false (labelAgrees stepped) else labelAgrees stepped := by
  subst second
  rw [compareLabel_unlatched (Nat.ne_of_gt ahead) free, if_pos (Nat.succ_le_succ third), labelConflict_ahead ahead, e]
  rfl

/-- A conflict ahead of station time without a held P steps it and leaves the station in ACQUIRING (R42). -/
theorem conflictAhead_facts {n : Nat} (pos : n ≠ 0) (room : s.tb.now + n < timeSpan) (bound : s.tb.state ≠ .free)
    (noP : s.disc.heldP = none) :
    let stepped := conflictStep n (conflictAsked s)
    let t := if s.tb.state = .locked then changeTimeState .acquiring false (labelAgrees stepped) else labelAgrees stepped
    t.tb.now = s.tb.now + n ∧ t.tb.stepCount = (s.tb.stepCount + 1) % 65536 ∧ t.tb.lastStep = n ∧ t.tb.cslew = 0 ∧
      t.tb.cfreq = s.tb.cfreq ∧ t.disc.conflicts = 0 ∧ t.disc.conflictLatch = false ∧ t.tb.state = .acquiring := by
  intro stepped t
  have state : stepped.tb.state = s.tb.state := conflictStep_state n s
  have held : stepped.disc.heldP = none := (conflictStep_heldP n s).trans noP
  have ends : t = changeTimeState .acquiring false (cleared stepped) := by
    rw [← labelAgrees_acquires (state ▸ bound) held, state]
  obtain ⟨now, count, last, slew, freq⟩ := conflictStep_tb (s := s) pos room
  obtain ⟨tb, conflicts, latch⟩ := changeTimeState_acquiring (cleared stepped)
  rw [← ends] at tb conflicts latch
  exact ⟨(congrArg Timebase.now tb).trans now, (congrArg Timebase.stepCount tb).trans count,
    (congrArg Timebase.lastStep tb).trans last, (congrArg Timebase.cslew tb).trans slew,
    (congrArg Timebase.cfreq tb).trans freq, conflicts, latch, congrArg Timebase.state tb⟩

/-! ### The statement -/

/-- The time that a first label sets lies within the span of station time (R1). -/
theorem labelled_lt {label since : Nat} (second : label < 2 ^ 40) (few : since < perSecond) :
    label * perSecond + since < timeSpan :=
  calc label * perSecond + since < (label + 1) * perSecond := by rw [Nat.succ_mul]; omega
    _ ≤ timeSpan := Nat.mul_le_mul_right _ second

/-- The first label in FREE, field by field (R10, R43). -/
theorem setFromLabel_facts {label new : Nat} {m : MatchedPps} (free : s.tb.state = .free)
    (e : label * perSecond + (s.tb.now - (m.capture + m.stepped)) = new) (bound : new < timeSpan) :
    let t := setFromLabel label m s
    t.tb = { s.tb with
      now := new, state := .acquiring, entry := new, uncertainty := 0, cslew := 0
      stepCount := if s.tb.now < new then (s.tb.stepCount + 1) % 65536 else s.tb.stepCount
      lastStep := if s.tb.now < new then new - s.tb.now else s.tb.lastStep } ∧
    t.disc.expected = addTime (label * perSecond) perSecond ∧ t.disc.lastP = 0 ∧ t.disc.conflicts = 0 ∧
    t.disc.conflictLatch = false ∧ t.nt = s.nt ∧ t.pending = s.pending ∧ t.pace = s.pace ∧ t.store = s.store := by
  intro t
  have tb := movedTo_tb bound s
  obtain ⟨nt, pending, pace, store⟩ := movedTo_rest new s
  have form : t = _ := setFromLabel_free (label := label) (m := m) (congrArg (movedTo · s) e) (by rw [tb]; exact free)
  rw [form, tb]
  exact ⟨rfl, rfl, rfl, rfl, rfl, nt, pending, pace, store⟩

/-- Settles O19: the first label by the move of station time, a later one by the cases of its comparison. -/
theorem goodLabelsSetOrConfirmTime : Obligations.GoodLabelsSetOrConfirmTime := by
  refine ⟨fun label m s free second after within => ?first, fun label m s bound => ?compared⟩
  case first =>
    have few : s.tb.now - (m.capture + m.stepped) < perSecond :=
      lt_of_le_of_lt (Nat.sub_le_iff_le_add'.2 within) (by decide)
    have limit := labelled_lt second few
    intro new t
    obtain ⟨tb, expected, rest⟩ := setFromLabel_facts (label := label) (m := m) (new := new) free rfl limit
    clear_value new
    exact ⟨congrArg (·.now) tb, congrArg (·.state) tb, congrArg (·.entry) tb, congrArg (·.uncertainty) tb,
      congrArg (·.cslew) tb, congrArg (·.f) tb, congrArg (·.cfreq) tb, congrArg (·.ctemp) tb, congrArg (·.stepCount) tb,
      congrArg (·.lastStep) tb, expected, rest⟩
  case compared =>
    intro edge second t clears returns agrees urgent
    have isSecond : roundedSecond (m.capture + m.stepped) = second := rfl
    have agreed (x : State) (state : x.tb.state = s.tb.state) : labelAgrees x = agrees x :=
      (labelAgrees_eq x).trans (by rw [state]; rfl)
    have agreeing (same : label = second) : t = labelAgrees s := compareLabel_agrees same
    have latches (other : label ≠ second) (latched : s.disc.conflictLatch = true) : t = s :=
      compareLabel_latched other latched
    have counts (other : label ≠ second) (free : s.disc.conflictLatch = false) (few : s.disc.conflicts < 2) :
        t = s.onDisc fun d => { d with conflicts := d.conflicts + 1 } :=
      (compareLabel_unlatched other free).trans (if_neg (Nat.not_le_of_lt (Nat.succ_lt_succ few)))
    have behind (h : label < second) (free : s.disc.conflictLatch = false) (third : 2 ≤ s.disc.conflicts) :
        t = (changeTimeState .adrift true (conflictAsked s)).onDisc fun d => { d with conflictLatch := true } :=
      compareLabel_behind isSecond h free third
    have ahead {n : Nat} (e : (label - second) * 10000000 = n) (h : second < label)
        (free : s.disc.conflictLatch = false) (third : 2 ≤ s.disc.conflicts) :
        t = let stepped := conflictStep n (conflictAsked s)
          if s.tb.state = .locked then changeTimeState .acquiring false (labelAgrees stepped) else labelAgrees stepped :=
      compareLabel_ahead isSecond h free third e
    have pos (h : second < label) : (label - second) * 10000000 ≠ 0 :=
      Nat.mul_ne_zero (Nat.sub_ne_zero_of_lt h) (by decide)
    clear_value t second
    obtain ⟨n, e⟩ : ∃ n, (label - second) * 10000000 = n := ⟨_, rfl⟩
    rw [e] at pos ⊢
    have ahead := ahead e
    refine ⟨fun same => (agreeing same).trans (agreed s rfl), behind, fun h free third => ?_, fun same => ?_, latches,
      counts, fun h free third => ?_, fun h free third noP room => ?_⟩
    · rw [ahead h free third]
      dsimp only
      rw [agreed _ (conflictStep_state n s)]
      rfl
    · rw [agreeing same]; exact labelAgrees_keeps s
    · rw [behind h free third]; exact conflictBehind_facts s
    · rw [ahead h free third]; exact conflictAhead_facts (pos h) room bound noP

end Sys2Proof.Machine
end

section
/-! Captures, the channel records that GET_CHANNEL reads, and the firings of the compare channels by counting
(R18 to R28, R36, R62, R127). -/

namespace Sys2Proof.Machine

variable {s : State}

/-! ### Marker captures (R18, R19, R21, R22) -/

theorem Capture.edge_eq (t : Time) (c : Capture) : c.edge t =
    { last := some t, unread := true
      overwrites := if c.unread then min 255 (c.overwrites + 1) else c.overwrites } := by
  rw [edge, satInc_eq]

/-- A command that changes only the CCU and takes its data from it: the reply in preparation is no part of either. -/
theorem request_onCcu {p : Port} {right : Right} (adm : Admits p right s) {tag : Byte} {run : State → Answer}
    {data : List Byte} {f : Ccu → Ccu} (runs : run (s.taking p tag) = taken data ((s.taking p tag).onCcu f)) :
    request p tag right run s = .next ((s.onCcu f).answered p tag .ok data) := by
  have moved : (s.taking p tag).onCcu f = (s.onCcu f).taking p tag := rfl
  rw [request_admitted adm, runs, moved, taken, finishReply_preparing (State.taking_reply ..), replyReady_taking]

theorem runGetMarker_none {x : State} (noEdge : x.ccu.ch3.last = none) : runGetMarker x = refuse .notFound x := by
  simp only [runGetMarker, noEdge]

theorem runGetMarker_some {x : State} {t : Time} (last : x.ccu.ch3.last = some t) : runGetMarker x =
    taken (timeBytes t ++ be 1 (if x.ccu.ch3.unread then 1 else 0) ++ be 1 x.ccu.ch3.overwrites)
      (x.onCcu fun c => { c with ch3 := c.ch3.read }) := by
  simp only [runGetMarker, last, flagsByte_one]

/-! ### GET_CHANNEL (R36) -/

/-- The compare fields of GET_CHANNEL, with the pending values field by field. -/
theorem compareData_fields (n kind : Nat) (dutyPending : Bool) (c : Compare) : compareData n kind dutyPending c =
    be 1 n ++ be 1 kind ++ be 1 c.mode.code ++ be 4 c.period ++ be 4 c.phase ++
      (if c.mode = .off then zeros 8 else timeBytes c.next) ++ flagsByte [c.waiting.isSome, dutyPending] ++
      be 4 (match c.waiting with | none => 0 | some w => w.period) ++
      be 4 (match c.waiting with | none => 0 | some w => w.phase) ++ be 2 c.skipped := by
  have next : optTimeBytes (if c.mode = .off then none else some c.next) =
      if c.mode = .off then zeros 8 else timeBytes c.next := by split <;> rfl
  rw [compareData, next]
  cases c.waiting with
  | none => simp only [List.append_assoc]; rfl
  | some w => simp only [List.append_assoc]

theorem pairedData_fields (n : Nat) (c : Paired) : pairedData n c =
    compareData n 2 c.pendingDuty.isSome c.cmp ++ be 1 c.duty ++ be 1 (c.pendingDuty.getD 0) ++
      be 1 (if c.output then 1 else 0) ++ be 1 (if c.hold then 1 else 0) ++
      (if c.cmp.mode = .off then zeros 8 else optTimeBytes c.offMatch) := by
  have flag (b : Bool) : boolByte b = be 1 (if b then 1 else 0) := by cases b <;> rfl
  have off : optTimeBytes (if c.cmp.mode = .off then none else c.offMatch) =
      if c.cmp.mode = .off then zeros 8 else optTimeBytes c.offMatch := by split <;> rfl
  rw [pairedData, flag, flag, off]

theorem exec_getChannel {p : Port} {tag n : Byte} (adm : Admits p .read s) : exec (.getChannel p tag [n]) s =
    .next (match channelData n.toNat s.ccu with
      | none => s.answered p tag .outOfRange []
      | some data => s.answered p tag .ok data) := by
  have number : natOf [n] = n.toNat := by simp [natOf]
  show request p tag .read (fun x => readBack (channelData (natOf [n]) x.ccu) x) s = _
  rw [number]
  cases e : channelData n.toNat s.ccu with
  | none => exact request_answers adm (congrArg (readBack · _) e)
  | some d => exact request_answers adm (congrArg (readBack · _) e)

/-- Settles O12: a marker edge by its capture, GET_MARKER by its two cases, GET_CHANNEL by the number of the channel. -/
theorem markersAndChannelRecords : Obligations.MarkersAndChannelRecords := by
  refine ⟨⟨fun s released => ?edge, fun p tag t s adm last => ?found, fun p tag s adm noEdge => ?none⟩,
    fun p tag n s adm => ?channel⟩
  case edge =>
    have captured : exec .markerCapture s =
        .next (s.onCcu fun c => { c with ch3 := c.ch3.edge s.tb.now, markerPending := true }) :=
      takeEvent_due (due := fun _ => true)
        (effect := fun x => x.onCcu fun c => { c with ch3 := c.ch3.edge x.tb.now, markerPending := true }) released rfl
    rw [captured]
    simp only [Capture.edge_eq]
  case found => exact request_onCcu adm (runGetMarker_some last)
  case none => exact request_answers adm (runGetMarker_none noEdge)
  case channel =>
    intro capture compare paired
    have captures (marker : Bool) (c : Capture) : captureData n.toNat marker c = capture marker c := rfl
    have compares (kind : Nat) (pending : Bool) (c : Compare) :
        compareData n.toNat kind pending c = compare kind pending c := compareData_fields ..
    have pairs (c : Paired) : pairedData n.toNat c = paired c := by rw [pairedData_fields, compares]
    have answers {x y : List Byte} (same : x = y) :
        (Host.Outcome.next (s.answered p tag .ok x) : Host.Outcome State Fault Refusal) =
          .next (s.answered p tag .ok y) := by rw [same]
    rw [exec_getChannel adm]
    generalize n.toNat = k at captures compares pairs
    match k with
    | 0 => exact answers (captures ..)
    | 1 => exact answers (captures ..)
    | 2 => exact answers (captures ..)
    | 3 => exact answers (captures ..)
    | 4 => exact answers (compares ..)
    | 5 => exact answers (pairs _)
    | 6 => exact answers (pairs _)
    | 7 => exact answers (compares ..)
    | _ + 8 => rfl

/-! ### Firings by counting (R24, R28, R62) -/

theorem Compare.takePending_none {c : Compare} (none : c.waiting = none) (t : Time) : c.takePending t = c := by
  simp only [takePending, none]

theorem Compare.takePending_some {c : Compare} {w : PendingLoad} (some : c.waiting = some w) (t : Time) :
    c.takePending t = if w.loadTime.getD 0 ≤ t then { c with period := w.period, phase := w.phase, waiting := none }
      else c := by
  simp only [takePending, some]
  cases w.loadTime <;> simp

/-- A firing as it is stated: the next match is tested against the time only where the period is 1 (R24). -/
theorem Compare.fire_eq (c : Compare) (now : Time) : c.fire now = c.afterFiring now := by
  have passed (period : Nat) : (period = 1 ∧ c.next + period ≤ now) ↔ (period = 1 ∧ c.next + 1 ≤ now) :=
    and_congr_right fun one => by rw [one]
  unfold fire afterFiring
  simp only [passed]
  cases e : c.waiting with
  | none => rw [takePending_none e]; rfl
  | some w =>
    rw [takePending_some e]
    by_cases due : w.loadTime.getD 0 ≤ c.next
    · simp only [if_pos due]; rfl
    · simp only [if_neg due]; rfl

/-- Channel 4 fires by counting with the values that its firing makes active (R24, R28). -/
theorem strobeByCounting_eq (s : State) : strobeByCounting s =
    convertStrobe s.ccu.ch4.next 0 false (s.ccu.ch4.afterFiring s.tb.now).period
      (s.onCcu fun c => { c with ch4 := s.ccu.ch4.afterFiring s.tb.now }) := by
  rw [← Compare.fire_eq]; rfl

/-- The frame that a firing of channel 4 by counting puts in flight (R62). -/
def strobedFrame (t : Time) (period : Nat) : InFlight :=
  { timestamp := t, passed := 0, setMark := false, deadline := t + period * 4 / 5, reading := false }

theorem convertStrobe_free {t : Time} {period : Nat} (free : s.acq.inFlight = none) :
    convertStrobe t 0 false period s = { s with
      ccu := { s.ccu with convPulses := s.ccu.convPulses + 1 }
      acq := { s.acq with inFlight := some (strobedFrame t period) } } := by
  simp only [convertStrobe, State.onCcu_acq, free]; rfl

theorem convertStrobe_busy {t : Time} {period : Nat} {fl : InFlight} (busy : s.acq.inFlight = some fl) :
    convertStrobe t 0 false period s =
      (storeFrame fl none { s with
        ccu := { s.ccu with convPulses := s.ccu.convPulses + 1 }
        acq := { s.acq with
          missing := (s.acq.missing + 1) % 2 ^ 32
          aborted := if fl.reading then min 65535 (s.acq.aborted + 1) else s.acq.aborted } }).onAcq
        fun a => { a with inFlight := some (strobedFrame t period) } := by
  simp only [convertStrobe, State.onCcu_acq, busy, storeMissing, satInc_eq]
  cases fl.reading <;> rfl

/-- Settles O13: channel 4 by whether a frame is in flight, channel 7 by its firing. -/
theorem compareMatchesAreHandedOver : Obligations.CompareMatchesAreHandedOver := by
  have strobes {s : State} (released : s.pace.held = false) (on : s.ccu.ch4.mode ≠ .off)
      (reached : s.ccu.ch4.next ≤ s.tb.now) : exec (.compareMatch .four) s = .next (strobeByCounting s) :=
    takeEvent_due (due := fun x => x.ccu.ch4.due x.tb.now) released ((Compare.due_iff ..).2 ⟨on, reached⟩)
  refine ⟨fun s released on reached free => ?free, fun fl s released on reached busy => ?busy,
    fun s released on reached => ?seven⟩
  case free =>
    rw [strobes released on reached, strobeByCounting_eq]
    exact congrArg Host.Outcome.next (convertStrobe_free free)
  case busy =>
    rw [strobes released on reached, strobeByCounting_eq]
    exact congrArg Host.Outcome.next (convertStrobe_busy busy)
  case seven =>
    have fired : exec (.compareMatch .seven) s =
        .next (settle (listenFired (s.onCcu fun c => { c with ch7 := c.ch7.fire s.tb.now }))) :=
      takeEvent_due (due := fun x => x.ccu.ch7.due x.tb.now)
        (effect := fun x => settle (listenFired (x.onCcu fun c => { c with ch7 := c.ch7.fire x.tb.now }))) released
        ((Compare.due_iff ..).2 ⟨on, reached⟩)
    rw [fired]
    simp only [Compare.fire_eq]
    rfl

end Sys2Proof.Machine
end

section
/-! The heater channels by counting: boundaries and off-matches (R29, R34), the hold with its release at a deferral
limit (R32, R180, R181), and the edges of an output with their reports (R30, R66, R86, R105, R182). -/

namespace Sys2Proof.Machine

variable {h : Heater} {s : State}

/-! ### The hold (R32, R180, R181) -/

/-- The state in which a heater's hold is released at its limit, with its output as it was (R181). -/
def limitReleased (h : Heater) (s : State) : State :=
  { s with
    ccu := { s.ccu with heaters := s.ccu.heaters.update h fun c => { c with hold := false } }
    ht := { s.ht with units := s.ht.units.update h fun u => { u with deferral := .released } } }

/-- The schedule calls for a level whether or not the hold is set (R29). -/
theorem releaseAtLimit_eq (h : Heater) (s : State) : releaseAtLimit h s =
    driveOutput h ((s.ccu.heaters.get h).level s.tb.now) s.tb.now s.ht.quiet (limitReleased h s) := by
  have level : (pairedOf h (limitReleased h s)).level s.tb.now = (s.ccu.heaters.get h).level s.tb.now := by
    simp [pairedOf, limitReleased, Paired.level]
  exact congrArg (driveOutput h · s.tb.now s.ht.quiet (limitReleased h s)) level

/-- A deferral that begins and runs out at once leaves no trace of its begin. -/
theorem releaseAtLimit_deferring (h : Heater) (since : Nat) (s : State) :
    releaseAtLimit h (onThermostat h (fun u => { u with deferral := .deferring since }) s) =
      driveOutput h ((s.ccu.heaters.get h).level s.tb.now) s.tb.now s.ht.quiet (limitReleased h s) := by
  have same : limitReleased h (onThermostat h (fun u => { u with deferral := .deferring since }) s) =
      limitReleased h s := by
    simp only [limitReleased, onThermostat, State.onHt, PerHeater.update_update]
  rw [releaseAtLimit_eq, same]
  rfl

/-- Without the hold the output takes the level of a firing (R29). -/
theorem firingCallsFor_free (free : (s.ccu.heaters.get h).hold = false) (level : Bool) (t : Time) :
    firingCallsFor h level t s =
      driveOutput h level t (s.ht.quiet && (s.ht.units.get h).deferral == .released) s :=
  if_neg (show ¬(pairedOf h s).hold = true by simp [pairedOf, free])

/-- With the hold the first call for another level begins the deferral, and a limit of 0 ends it at once (R180,
R181). -/
theorem firingCallsFor_held (held : (s.ccu.heaters.get h).hold = true) (level : Bool) (t : Time) :
    firingCallsFor h level t s = heldFiring h level s := by
  refine (if_pos held).trans ?_
  dsimp only
  rw [releaseAtLimit_deferring]
  rfl

/-! ### Boundaries and off-matches (R29, R34) -/

/-- A boundary reached by counting begins a period at the match time, and its firing calls for the level of the new
duty (R29). -/
theorem boundaryFires_eq (h : Heater) (s : State) :
    let c := s.ccu.heaters.get h
    boundaryFires h s = firingCallsFor h (decide (0 < c.pendingDuty.getD c.duty)) c.cmp.next
      (onPaired h (Paired.begun c.cmp.next (c.cmp.afterFiring s.tb.now)) s) := by
  intro c
  have begins : onPaired h (fun p => { p with cmp := p.cmp.fire s.tb.now }.beginPeriod c.cmp.next) s =
      onPaired h (Paired.begun c.cmp.next (c.cmp.afterFiring s.tb.now)) s :=
    onPaired_congr (congrArg (Paired.begun c.cmp.next · c) (Compare.fire_eq c.cmp s.tb.now))
  have duty : (pairedOf h (onPaired h (Paired.begun c.cmp.next (c.cmp.afterFiring s.tb.now)) s)).duty =
      c.pendingDuty.getD c.duty := congrArg Paired.duty (PerHeater.get_update_self ..)
  have fires : boundaryFires h s = firingCallsFor h (decide (0 < (pairedOf h
      (onPaired h (Paired.begun c.cmp.next (c.cmp.afterFiring s.tb.now)) s)).duty)) c.cmp.next
      (onPaired h (Paired.begun c.cmp.next (c.cmp.afterFiring s.tb.now)) s) := by rw [← begins]; rfl
  rw [fires, duty]

theorem begun_hold (t : Time) (cmp : Compare) :
    ((onPaired h (Paired.begun t cmp) s).ccu.heaters.get h).hold = (s.ccu.heaters.get h).hold := by
  simp [onPaired, Paired.begun]

theorem exec_heaterBoundary (released : s.pace.held = false) (on : (s.ccu.heaters.get h).cmp.mode ≠ .off)
    (reached : (s.ccu.heaters.get h).cmp.next ≤ s.tb.now) : exec (.heaterBoundary h) s = .next (boundaryFires h s) :=
  takeEvent_due (due := fun x => (pairedOf h x).cmp.due x.tb.now) released ((Compare.due_iff ..).2 ⟨on, reached⟩)

theorem offMatchDue_of {m : Time} (ends : (s.ccu.heaters.get h).offMatch = some m) : offMatchDue h s =
    if (s.ccu.heaters.get h).cmp.mode ≠ .off ∧ m ≤ s.tb.now ∧ m < (s.ccu.heaters.get h).cmp.next then some m
    else none := by
  unfold offMatchDue pairedOf; rw [ends]

theorem exec_heaterOffMatch_fires {m : Time} (released : s.pace.held = false) (due : offMatchDue h s = some m) :
    exec (.heaterOffMatch h) s = .next (firingCallsFor h false m s) := by
  show execHeaterOffMatch h s = _
  rw [execHeaterOffMatch, takeEvent_due released (by rw [due]; rfl)]
  simp only [due]

theorem exec_heaterOffMatch_idle (idle : offMatchDue h s = none) : exec (.heaterOffMatch h) s = .next s := by
  show execHeaterOffMatch h s = _
  rw [execHeaterOffMatch, takeEvent_idle (.inr (by rw [idle]; rfl))]

/-- The level that the schedule calls for in a period (R29). -/
theorem Paired.level_iff {c : Paired} {b : Time} (began : c.boundary = some b) (t : Time) :
    c.level t = true ↔ 0 < c.duty ∧ (64 ≤ c.duty ∨ t < b + c.duty * (c.cmp.period / 64)) := by
  simp only [level, began]
  rcases Nat.eq_zero_or_pos c.duty with zero | pos
  · simp [zero]
  · rw [if_neg (Nat.ne_of_gt pos)]
    split
    next full => simp [pos, full]
    next part => simp [pos, part]

/-! ### Edges (R30, R66, R86, R105, R182) -/

/-- An update that changes nothing moves no revision (R104). -/
theorem revised_self (r : Record) : revised r r = r := if_pos rfl

/-- An update that leaves the pin count and changes another field moves the revision (R104). -/
theorem revised_of_ne {old new : Record} (pins : new.pins = old.pins) (ne : new ≠ old) :
    revised old new = { new with revision := rollInc 256 old.revision } := by
  have whole : { new with pins := old.pins } = new := by rw [← pins]
  rw [revised, whole, if_neg ne]

/-- What the report of an edge makes of a record: HEATER_SWITCHED is set on an OPEN record that does not have it, in one
update (R104, R105). -/
theorem revised_heaterSwitched (r : Record) : (if r.closed then r else revised r { r with heaterSwitched := true }) =
    if r.closed ∨ r.heaterSwitched then r
    else { r with heaterSwitched := true, revision := (r.revision + 1) % 256 } := by
  by_cases closed : r.closed = true
  · rw [if_pos closed, if_pos (.inl closed)]
  · rw [if_neg closed]
    by_cases set : r.heaterSwitched = true
    · have same : { r with heaterSwitched := true } = r := by rw [← set]
      rw [if_pos (.inr set), same, revised_self]
    · have ne : { r with heaterSwitched := true } ≠ r := fun e => set (congrArg Record.heaterSwitched e).symm
      rw [if_neg (not_or.2 ⟨closed, set⟩), revised_of_ne (by rfl) ne]
      rfl

theorem driveOutput_reports {level : Bool} (ne : (s.ccu.heaters.get h).output ≠ level) (t : Time) (switched : Bool) :
    driveOutput h level t switched s = { edgeAt h level t s with
      ev := { s.ev with records := s.ev.records.map fun r =>
        if r.closed ∨ switched = false ∨ r.heaterSwitched then r
        else { r with heaterSwitched := true, revision := (r.revision + 1) % 256 } } } := by
  cases switched with
  | false => rw [driveOutput_edge ne]; simp [edgeAt]
  | true =>
    have flagged : driveOutput h level t true s = flagHeaterSwitched (edgeAt h level t s) := if_neg ne
    rw [flagged, flagHeaterSwitched, updateOpen]
    simp only [revised_heaterSwitched, Bool.true_eq_false, false_or]
    rfl

/-! ### The statement -/

/-- Settles O14: a boundary and an off-match are firings that call for a level, without and with the hold; the rest is
the level of the schedule and the edge. -/
theorem heaterChannelsFollowTheirDuty : Obligations.HeaterChannelsFollowTheirDuty := by
  refine ⟨⟨fun h s released => ?boundary, fun h m s released => ?offMatch, fun t c => ?level⟩,
    fun h level t switched s => ⟨fun same => driveOutput_same same.symm t switched, fun ne => ?edge⟩⟩
  case boundary =>
    intro c on reached duty x
    rw [exec_heaterBoundary released on reached, boundaryFires_eq]
    exact ⟨fun free => congrArg Host.Outcome.next (firingCallsFor_free ((begun_hold ..).trans free) ..),
      fun held => congrArg Host.Outcome.next (firingCallsFor_held ((begun_hold ..).trans held) ..)⟩
  case offMatch =>
    intro c on ends reached
    have due (before : m < c.cmp.next) : offMatchDue h s = some m :=
      (offMatchDue_of ends).trans (if_pos ⟨on, reached, before⟩)
    refine ⟨fun before free => ?_, fun before held => ?_, fun late => ?_⟩
    · rw [exec_heaterOffMatch_fires released (due before), firingCallsFor_free free]
    · rw [exec_heaterOffMatch_fires released (due before), firingCallsFor_held held]
    · refine exec_heaterOffMatch_idle ((offMatchDue_of ends).trans ?_)
      exact if_neg fun ⟨_, _, before⟩ => Nat.not_lt_of_le late before
  case level =>
    refine ⟨fun none => ?_, fun b began => Paired.level_iff began t⟩
    simp only [Paired.level, none]
  case edge => exact driveOutput_reports (fun e => ne e.symm) t switched

end Sys2Proof.Machine
end

section
/-! The heater second: the test of the vault with its cut at the entry to over-temperature (R31, R179), then each duty
from the state that the test leaves (R176, R178); and the deferral limit (R181). -/

namespace Sys2Proof.Machine

variable {h : Heater} {s x y : State}

/-! ### The test of the vault (R179) -/

/-- Over-temperature after the test of the vault (R179). -/
def vaultHot (s : State) : Bool :=
  if s.ht.tvFaulted then s.ht.overTemp
  else if s.ht.overTemp then !decide (s.pw.tv.value < s.ht.limits.vaultHigh - 20)
  else decide (s.ht.limits.vaultHigh < s.pw.tv.value)

/-- The state with over-temperature judged, and no heater cut. -/
def judged (s : State) : State := { s with ht := { s.ht with overTemp := vaultHot s } }

/-- A heater whose duties are cut to 0 (R31, R179). -/
def cooled (h : Heater) (s : State) : State := cutHeater h 0 (onThermostat h (fun u => { u with computed := 0 }) s)

theorem judged_same (e : vaultHot s = s.ht.overTemp) : judged s = s := by unfold judged; rw [e]

/-- The test of the vault judges over-temperature and at its entry cuts both heaters (R179). -/
theorem testVault_eq (s : State) : testVault s =
    if vaultHot s && !s.ht.overTemp then cooled .ho (cooled .hb (judged s)) else judged s := by
  unfold testVault
  by_cases faulted : s.ht.tvFaulted = true
  · have hot : vaultHot s = s.ht.overTemp := if_pos faulted
    rw [if_pos faulted, judged_same hot, hot, if_neg (by simp)]
  · rw [if_neg faulted]
    by_cases above : s.ht.overTemp = true
    · have hot : vaultHot s = !decide (s.pw.tv.value < s.ht.limits.vaultHigh - 20) := by
        simp [vaultHot, faulted, above]
      have stays : (vaultHot s && !s.ht.overTemp) = false := by rw [above]; exact Bool.and_false _
      rw [if_pos above, stays, if_neg Bool.false_ne_true]
      by_cases cool : s.pw.tv.value < s.ht.limits.vaultHigh - 20
      · rw [if_pos cool, judged, hot, decide_eq_true cool]; rfl
      · rw [if_neg cool, judged_same (by simp [hot, cool, above])]
    · have hot : vaultHot s = decide (s.ht.limits.vaultHigh < s.pw.tv.value) := by simp [vaultHot, faulted, above]
      rw [if_neg above]
      by_cases high : s.ht.limits.vaultHigh < s.pw.tv.value
      · rw [if_pos high, if_pos (by simp [hot, high, above]), judged, hot, decide_eq_true high]; rfl
      · rw [if_neg high, if_neg (by simp [hot, high]), judged_same (by simp [hot, high, above])]

/-- What the test of the vault makes of a heater's part, at the entry to over-temperature or without it. -/
structure VaultTested (enters : Bool) (p q : Paired × Thermostat) : Prop where
  duty : q.1.duty = if enters then 0 else p.1.duty
  output : q.1.output = if enters then false else p.1.output
  cmp : q.1.cmp = p.1.cmp
  hold : q.1.hold = p.1.hold
  cap : q.2.cap = p.2.cap
  deferral : q.2.deferral = p.2.deferral

/-- A cut to 0 brings the output of a running channel to OFF at once (R31). -/
theorem cutHeater_zero (on : (s.ccu.heaters.get h).cmp.mode ≠ .off) :
    cutHeater h 0 s = driveOutput h false s.tb.now s.ht.quiet (onPaired h (Paired.cutTo 0) s) := by
  have clears : (pairedOf h (onPaired h (Paired.cutTo 0) s)).cutClears s.tb.now = true := by
    simp [pairedOf, onPaired, Paired.cutTo, Paired.cutClears, on]
  exact (if_neg (Nat.not_lt_zero 64)).trans (if_pos clears)

theorem cutHeater_only (h : Heater) (v : Nat) (s : State) : OnlyChanges (.heater h) s (cutHeater h v s) := by
  have cut := onPaired_only (h := h) (s := s) (Paired.cutTo v)
  unfold cutHeater; dsimp only
  split
  · exact .refl ..
  · split
    · exact cut.trans (driveOutput_only ..)
    · exact cut

theorem cooled_only (h : Heater) (s : State) : OnlyChanges (.heater h) s (cooled h s) :=
  (onThermostat_only (f := fun u => { u with computed := 0 }) fun _ => rfl).trans (cutHeater_only ..)

theorem cooled_part (on : (s.heaterPart h).1.cmp.mode ≠ .off) :
    VaultTested true (s.heaterPart h) ((cooled h s).heaterPart h) := by
  have cut := cutHeater_zero (s := onThermostat h (fun u => { u with computed := 0 }) s) on
  rw [cooled, cut, driveOutput_part, onPaired_part, onThermostat_part]
  generalize s.heaterPart h = p
  unfold drivePart
  split
  next off => exact ⟨Nat.min_zero _, off, rfl, rfl, rfl, rfl⟩
  next => exact ⟨Nat.min_zero _, rfl, rfl, rfl, rfl, rfl⟩

theorem testVault_beside (s : State) : (testVault s).beside = (judged s).beside := by
  rw [testVault_eq]
  split
  · exact (cooled_only ..).beside.trans (cooled_only ..).beside
  · rfl

theorem testVault_part (running : ∀ k, (s.heaterPart k).1.cmp.mode ≠ .off) (h : Heater) :
    VaultTested (vaultHot s && !s.ht.overTemp) (s.heaterPart h) ((testVault s).heaterPart h) := by
  rw [testVault_eq]
  cases vaultHot s && !s.ht.overTemp with
  | false => exact ⟨rfl, rfl, rfl, rfl, rfl, rfl⟩
  | true =>
    show VaultTested true ((judged s).heaterPart h) ((cooled .ho (cooled .hb (judged s))).heaterPart h)
    have later := cooled_only .ho (cooled .hb (judged s))
    have first := cooled_only .hb (judged s)
    cases h with
    | hb => rw [later.heater .hb (by simp)]; exact cooled_part (running .hb)
    | ho =>
      have same := first.heater .ho (by simp)
      rw [← same]
      exact cooled_part (same ▸ running .ho)

/-! ### The duties (R176, R178) -/

/-- A duty is computed from a heater's settings and cap and from what no firing changes (R176, R178). -/
theorem computedDuty_congr (beside : x.beside = y.beside) (cap : (x.heaterPart h).2.cap = (y.heaterPart h).2.cap) :
    computedDuty h x = computedDuty h y := by
  have pw : x.pw = y.pw := congrArg (·.pw) beside
  have overTemp : x.ht.overTemp = y.ht.overTemp := congrArg (·.ht.overTemp) beside
  have tbFaulted : x.ht.tbFaulted = y.ht.tbFaulted := congrArg (·.ht.tbFaulted) beside
  have source : x.ht.sourceHeating = y.ht.sourceHeating := congrArg (·.ht.sourceHeating) beside
  have cfg : (thermostatOf h x).cfg = (thermostatOf h y).cfg := by
    cases h
    · exact congrArg (·.ht.units.hb.cfg) beside
    · exact congrArg (·.ht.units.ho.cfg) beside
  have cap : (thermostatOf h x).cap = (thermostatOf h y).cap := cap
  unfold computedDuty setpointFor heaterTemperature
  rw [pw, overTemp, tbFaulted, source, cfg, cap]

/-- HB computes from TB, under source heating with the charge minimum, and is 0 while TB is FAULTED (R176, R178). -/
theorem computedDuty_hb (s : State) : computedDuty .hb s =
    if s.ht.overTemp = true ∨ s.ht.tbFaulted = true then 0
    else min (clampTo 0 64 (64 * ((if s.ht.sourceHeating then min 400 (s.pw.act.chargeMin + 20)
      else s.ht.units.hb.cfg.setpoint) - s.pw.tb.value) / s.ht.units.hb.cfg.band)).toNat s.ht.units.hb.cap := by
  simp [computedDuty, setpointFor, heaterTemperature, thermostatOf, PerHeater.get]

/-- HO computes from TO (R176). -/
theorem computedDuty_ho (s : State) : computedDuty .ho s =
    if s.ht.overTemp = true then 0
    else min (clampTo 0 64 (64 * (s.ht.units.ho.cfg.setpoint - s.pw.tosc.value) / s.ht.units.ho.cfg.band)).toNat
      s.ht.units.ho.cap := by
  simp [computedDuty, setpointFor, heaterTemperature, thermostatOf, PerHeater.get]

theorem computedDuty_le_cap (h : Heater) (s : State) : computedDuty h s ≤ (s.heaterPart h).2.cap := by
  unfold computedDuty; dsimp only
  split
  · exact Nat.zero_le _
  · exact Nat.min_le_right ..

theorem Paired.request_running {p : Paired} {duty : Nat} (on : p.cmp.mode ≠ .off) (fits : duty ≤ 64) :
    p.request duty = { p with pendingDuty := some duty } := by
  rw [request, if_neg (Nat.not_lt_of_le fits), if_neg on]

theorem computeHeater_only (h : Heater) (s : State) : OnlyChanges (.heater h) s (computeHeater h s) :=
  (onThermostat_only (f := fun u => { u with computed := computedDuty h s }) fun _ => rfl).trans (onPaired_only _)

/-- A heater's part with a duty computed and written as pending (R176). -/
def computedPart (duty : Nat) (p : Paired × Thermostat) : Paired × Thermostat :=
  ({ p.1 with pendingDuty := some duty }, { p.2 with computed := duty })

theorem computeHeater_part (on : (s.heaterPart h).1.cmp.mode ≠ .off) (cap : (s.heaterPart h).2.cap ≤ 64) :
    (computeHeater h s).heaterPart h = computedPart (computedDuty h s) (s.heaterPart h) := by
  rw [computeHeater, onPaired_part, onThermostat_part,
    Paired.request_running on ((computedDuty_le_cap h s).trans cap)]
  rfl

/-- The two duties are computed from one state: that of HO does not see what is written for HB (R176). -/
theorem computeHeaters_part (running : ∀ k, (s.heaterPart k).1.cmp.mode ≠ .off)
    (caps : ∀ k, (s.heaterPart k).2.cap ≤ 64) (h : Heater) :
    (computeHeater .ho (computeHeater .hb s)).heaterPart h = computedPart (computedDuty h s) (s.heaterPart h) := by
  have first := computeHeater_only .hb s
  cases h with
  | hb =>
    rw [(computeHeater_only .ho _).heater .hb (by simp)]
    exact computeHeater_part (running .hb) (caps .hb)
  | ho =>
    have same := first.heater .ho (by simp)
    rw [computeHeater_part (same ▸ running .ho) (same ▸ caps .ho), same,
      computedDuty_congr first.beside (by rw [same])]

/-! ### The statement -/

/-- The state after a heater second. -/
def secondWorked (s : State) : State :=
  computeHeater .ho (computeHeater .hb (testVault (s.onPace fun p => { p with heaterSeconds := p.heaterSeconds + 1 })))

theorem exec_heaterSecond (released : s.pace.held = false) (hb : s.ccu.heaters.hb.cmp.mode ≠ .off)
    (ho : s.ccu.heaters.ho.cmp.mode ≠ .off) (reached : (s.pace.heaterSeconds + 1) * perSecond ≤ s.pace.cycles) :
    exec .heaterSecond s = .next (secondWorked s) :=
  takeEvent_due (due := heaterDue) (effect := secondWorked) released
    (by simp [heaterDue, heatersStarted, hb, ho, reached])

theorem secondWorked_beside (s : State) : (secondWorked s).beside =
    (judged (s.onPace fun p => { p with heaterSeconds := p.heaterSeconds + 1 })).beside :=
  ((computeHeater_only ..).beside.trans (computeHeater_only ..).beside).trans (testVault_beside _)

/-- A heater's part after a heater second: the test of the vault, then its duty (R176, R179). -/
theorem secondWorked_part (running : ∀ k, (s.heaterPart k).1.cmp.mode ≠ .off)
    (caps : ∀ k, (s.heaterPart k).2.cap ≤ 64) (h : Heater) :
    ∃ q, VaultTested (vaultHot s && !s.ht.overTemp) (s.heaterPart h) q ∧
      (secondWorked s).heaterPart h = computedPart (computedDuty h (judged s)) q := by
  generalize e : (s.onPace fun p => { p with heaterSeconds := p.heaterSeconds + 1 }) = z
  have tested : ∀ k, VaultTested (vaultHot s && !s.ht.overTemp) (s.heaterPart k) ((testVault z).heaterPart k) := by
    subst e; exact testVault_part (s := s.onPace _) running
  have worked := computeHeaters_part (s := testVault z) (fun k => by rw [(tested k).cmp]; exact running k)
    (fun k => by rw [(tested k).cap]; exact caps k) h
  have duty : computedDuty h (testVault z) = computedDuty h (judged z) :=
    computedDuty_congr (testVault_beside z) ((tested h).cap.trans (by subst e; rfl))
  refine ⟨_, tested h, ?_⟩
  rw [secondWorked, e, worked, duty]
  subst e; rfl

/-- Without the entry to over-temperature a heater second changes the CCU, the Heater Controller and the paces alone. -/
theorem secondWorked_rest (stays : (vaultHot s && !s.ht.overTemp) = false) :
    { secondWorked s with ccu := s.ccu, ht := s.ht, pace := s.pace } = s := by
  have vault : testVault (s.onPace fun p => { p with heaterSeconds := p.heaterSeconds + 1 }) =
      judged (s.onPace fun p => { p with heaterSeconds := p.heaterSeconds + 1 }) :=
    (testVault_eq _).trans (if_neg (ne_true_of_eq_false stays))
  rw [secondWorked, vault]
  rfl

theorem exec_deferralLimitExpiry {since : Nat} (released : s.pace.held = false)
    (deferring : (thermostatOf h s).deferral = .deferring since)
    (reached : since + (thermostatOf h s).cfg.limit * perSecond ≤ s.pace.cycles) :
    exec (.deferralLimitExpiry h) s = .next (releaseAtLimit h s) :=
  takeEvent_due (due := deferralDue h) released (by simp [deferralDue, deferring, reached])

/-- Settles O52: a heater second part by part, the deferral limit by its release. -/
theorem heaterSecondsComputeDuties : Obligations.HeaterSecondsComputeDuties := by
  refine ⟨fun s released hb ho reached caps => ?second, fun h since s released deferring reached => ?limit⟩
  case second =>
    intro u hot enters raw duty
    have duties (h : Heater) : computedDuty h (judged s) = duty h := by
      cases h
      · exact computedDuty_hb (judged s)
      · exact computedDuty_ho (judged s)
    have running (k : Heater) : (s.heaterPart k).1.cmp.mode ≠ .off := by
      cases k
      · exact hb
      · exact ho
    refine ⟨_, exec_heaterSecond released hb ho reached, congrArg (·.ht.overTemp) (secondWorked_beside s),
      congrArg (·.pace.heaterSeconds) (secondWorked_beside s), fun h => ?_, secondWorked_rest⟩
    obtain ⟨q, ⟨active, output, cmp, hold, cap, deferral⟩, part⟩ := secondWorked_part running caps h
    rw [duties] at part
    have paired : pairedOf h (secondWorked s) = { q.1 with pendingDuty := some (duty h) } := congrArg Prod.fst part
    have thermostat : thermostatOf h (secondWorked s) = { q.2 with computed := duty h } := congrArg Prod.snd part
    rw [paired, thermostat]
    exact ⟨rfl, rfl, active, output, cmp, cap, deferral, hold⟩
  case limit =>
    rw [exec_deferralLimitExpiry released deferring reached, releaseAtLimit_eq]
    rfl

end Sys2Proof.Machine
end

section
/-! The sample stream: its start (R23, R61, R95), the captures of the data-ready line (R20, R63), the storing of a frame
(R63 to R67) and the overrun of a full ring (R67, R71, R72). -/

namespace Sys2Proof.Machine

variable {s : State}

/-! ### The start of the stream (R23, R61, R95) -/

/-- Every sample rate has a whole number of periods in a second. -/
theorem SampleRate.period_dvd (r : SampleRate) : r.period ∣ perSecond := by cases r <;> decide

/-- Channel 4 takes the period of every sample rate (R27). -/
theorem SampleRate.scheduleOk_period (r : SampleRate) : scheduleOk r.period 0 = true := by cases r <;> decide

theorem lt_nextSecond (t : Nat) : t < nextSecond t := by
  show t < (t / 10000000 + 1) * 10000000
  omega

/-- A time that the period divides is a match of phase 0 (R23). -/
theorem firstMatch_of_dvd {period t : Nat} (dvd : period ∣ t) : firstMatch period 0 t = t := by
  simp [firstMatch, Nat.mod_eq_zero_of_dvd dvd]

/-- The stream starts channel 4 for the next whole second and puts every channel that is not OFF into its warm-up. -/
theorem startStream_eq (s : State) : startStream s = { s with
    ccu := { s.ccu with ch4 := { s.ccu.ch4 with
      mode := .repeating, phase := 0, waiting := none, next := nextSecond s.tb.now, period := s.acq.cfg.rate.period } }
    acq := { s.acq with state := .running, settleDue := false }
    det := { s.det with
      gapRun := 0
      channels := s.det.channels.map fun _ c =>
        if c.state = .off then c else { c with state := .warmup, warm := 0 } } } := by
  have whole : firstMatch s.acq.cfg.rate.period 0 (nextSecond s.tb.now) = nextSecond s.tb.now :=
    firstMatch_of_dvd ((SampleRate.period_dvd _).mul_left _)
  unfold startStream Compare.start
  simp only [SampleRate.scheduleOk_period, if_true, if_pos (lt_nextSecond s.tb.now), whole]
  rfl

theorem exec_settleComplete (released : s.pace.held = false) (settling : s.acq.state = .settling)
    (due : s.acq.settleDue = true) : exec .settleComplete s = .next (startStream s) :=
  takeEvent_due (due := fun x => x.acq.state == .settling && x.acq.settleDue) released (by simp [settling, due])

/-! ### Data-ready captures (R18, R20, R63) -/

theorem captureAccepted_iff (t : Time) (a : Acquisition) : captureAccepted t a = true ↔
    ∃ fl, a.inFlight = some fl ∧ fl.reading = false ∧ fl.timestamp ≤ t ∧ t ≤ fl.deadline := by
  unfold captureAccepted
  cases a.inFlight <;> simp [and_assoc]

/-- A capture is read at once, and the Acquisition Unit takes it or counts it as stray (R20, R63). -/
theorem exec_dataReadyCapture (released : s.pace.held = false) : exec .dataReadyCapture s =
    .next { s with
      ccu := { s.ccu with ch1 := { last := some s.tb.now, unread := false, overwrites := 0 } }
      acq := if captureAccepted s.tb.now s.acq then
          { s.acq with inFlight := s.acq.inFlight.map fun f => { f with reading := true } }
        else { s.acq with stray := min 65535 (s.acq.stray + 1) } } := by
  rw [← satInc_eq]
  exact takeEvent_due (due := fun _ => true)
    (effect := fun x => (x.onCcu fun c => { c with ch1 := (c.ch1.edge x.tb.now).read }).onAcq fun a =>
      if captureAccepted x.tb.now a then { a with inFlight := a.inFlight.map fun f => { f with reading := true } }
      else { a with stray := satInc 65535 a.stray }) released rfl

/-! ### The ring (R67, R71) -/

theorem enterRing_room (f : Frame) (room : s.acq.ring.length < 8192) :
    enterRing f s = s.onAcq fun a => { a with ring := s.acq.ring ++ [f] } := by
  unfold enterRing
  split
  next e => rw [e]; rfl
  next => exact if_pos room

/-- The oldest frame, which the cursor has passed, makes room without a loss (R67). -/
theorem enterRing_passed {oldest : Frame} {rest : List Frame} (f : Frame) (ring : s.acq.ring = oldest :: rest)
    (full : 8192 ≤ s.acq.ring.length) (passed : seqAtOrAfter oldest.seq s.acq.cursor = false) :
    enterRing f s = s.onAcq fun a => { a with ring := rest ++ [f] } := by
  simp only [enterRing, ring] at full ⊢
  rw [if_neg (Nat.not_lt_of_le full), if_neg (ne_true_of_eq_false passed)]

/-- The oldest frame, which the cursor has not passed, is lost: an overrun (R67, R71, R72). -/
theorem enterRing_overrun {oldest next : Frame} {rest : List Frame} (f : Frame)
    (ring : s.acq.ring = oldest :: next :: rest) (full : 8192 ≤ s.acq.ring.length)
    (unread : seqAtOrAfter oldest.seq s.acq.cursor = true) :
    enterRing f s =
      ringLostAll ((s.acq.holds.filter fun e => seqAtOrAfter oldest.seq e.mark).map (·.event))
        (s.onAcq fun a => { a with
          ring := next :: rest ++ [f], overrun := min 4294967295 (a.overrun + 1), cursor := next.seq
          holds := s.acq.holds.filter fun e => !seqAtOrAfter oldest.seq e.mark &&
            match e.close with | none => true | some c => !seqAfter next.seq c }) := by
  have kept (e : HoldEntry) : (!match e.close with | none => false | some c => seqAfter next.seq c) =
      match e.close with | none => true | some c => !seqAfter next.seq c := by cases e.close <;> rfl
  simp only [enterRing, ring] at full ⊢
  rw [if_neg (Nat.not_lt_of_le full), if_pos unread]
  simp only [← kept, satInc_eq]
  rfl

/-! ### RING_LOST (R71, R105) -/

/-- RING_LOST on one record, where it is the event's (R105, R106). -/
def Record.flagged (event : Nat) (r : Record) : Record :=
  if r.seq = event then
    (if r.closed then { r with ringLost := true } else revised r { r with ringLost := true })
  else r

theorem mem_flagRingLost {event : Nat} {r : Record} : r ∈ (flagRingLost event s).ev.records ↔
    ∃ q ∈ s.ev.records, q.flagged event = r := List.mem_map

/-- An update reaches the record but for the revision (R104). -/
theorem revised_ringLost (old new : Record) :
    (revised old new).seq = new.seq ∧ (revised old new).ringLost = new.ringLost := by
  unfold revised; split <;> exact ⟨rfl, rfl⟩

theorem Record.flagged_seq (event : Nat) (r : Record) : (r.flagged event).seq = r.seq := by
  unfold flagged
  split
  · split
    · rfl
    · exact (revised_ringLost ..).1
  · rfl

theorem Record.flagged_ringLost (event : Nat) (r : Record) :
    (r.flagged event).ringLost = true ↔ r.ringLost = true ∨ r.seq = event := by
  unfold flagged
  split
  next same =>
    split
    · simp [same]
    · rw [(revised_ringLost ..).2]; simp [same]
  next other => simp [other]

/-- RING_LOST asked for some events changes the records alone. -/
theorem ringLostAll_only (events : List Nat) (s : State) :
    ringLostAll events s = { s with ev := (ringLostAll events s).ev } := by
  induction events generalizing s with
  | nil => rfl
  | cons e events ih => exact ih (flagRingLost e s)

/-- RING_LOST asked for some events stands afterwards on the records that had it and on those of the events. -/
theorem ringLostAll_records (events : List Nat) (s : State) : ∀ r ∈ (ringLostAll events s).ev.records,
    ∃ q ∈ s.ev.records, r.seq = q.seq ∧ (r.ringLost = true ↔ q.ringLost = true ∨ q.seq ∈ events) := by
  induction events generalizing s with
  | nil => exact fun r m => ⟨r, m, rfl, by simp⟩
  | cons e events ih =>
    intro r m
    obtain ⟨p, mem, seq, lost⟩ := ih (flagRingLost e s) r m
    obtain ⟨q, member, rfl⟩ := mem_flagRingLost.1 mem
    refine ⟨q, member, seq.trans (Record.flagged_seq ..), ?_⟩
    rw [lost, Record.flagged_ringLost, Record.flagged_seq, List.mem_cons, or_assoc]

/-- What a full ring keeps when a frame enters it: the Detector's work, the sequence and the frames but the oldest. -/
theorem enterRing_full (f : Frame) (full : 8192 ≤ s.acq.ring.length) :
    (enterRing f s).acq.ring = s.acq.ring.tail ++ [f] ∧ (enterRing f s).det = s.det ∧
      (enterRing f s).acq.nextSeq = s.acq.nextSeq := by
  cases ring : s.acq.ring with
  | nil => rw [ring] at full; exact absurd full (by decide)
  | cons oldest rest =>
    cases rest with
    | nil => rw [ring] at full; exact absurd full (by simp)
    | cons next rest =>
      cases unread : seqAtOrAfter oldest.seq s.acq.cursor with
      | false => rw [enterRing_passed f ring full unread]; exact ⟨rfl, rfl, rfl⟩
      | true => rw [enterRing_overrun f ring full unread, ringLostAll_only]; exact ⟨rfl, rfl, rfl⟩

/-! ### Storing a frame (R63 to R66) -/

/-- A sample at an end of the 24-bit range, by its value or by its bits (R65). -/
theorem atRangeEnd_eq (v : BitVec 24) :
    (v.toInt == -8388608 || v.toInt == 8388607) = (v == 0x800000#24 || v == 0x7FFFFF#24) := by
  have ends (w : BitVec 24) : (v.toInt == w.toInt) = (v == w) := by
    rw [Bool.eq_iff_iff, beq_iff_eq, beq_iff_eq, BitVec.toInt_inj]
  exact congrArg₂ _ (ends 0x800000#24) (ends 0x7FFFFF#24)

theorem clippedSamples_eq (x : Samples) : clippedSamples x =
    [x.s1, x.s2, x.s3, x.s4, x.s5, x.s6].any fun v => v == 0x800000#24 || v == 0x7FFFFF#24 := by
  simp only [← atRangeEnd_eq]
  rfl

/-- The state in which a stored frame enters the ring: its marks are taken (R65, R66). -/
def marksTaken (frame : Frame) (s : State) : State :=
  { s with
    ccu := { s.ccu with markerPending := false }
    acq := { s.acq with nextSeq := (frame.seq + 1) % 2 ^ 32, edgePending := false, inFlight := none } }

/-- A stored frame enters the ring and is handed to the Detector (R65). -/
theorem storeFrame_eq (fl : InFlight) (x : Option Samples) (s : State) :
    let frame := storedFrame fl x s
    storeFrame fl x s = (enterRing frame (marksTaken frame s)).onDet fun d =>
      { d with waiting := d.waiting ++ [frame], lastHanded := frame.seq } := by
  cases x with
  | none => rfl
  | some x =>
    unfold storeFrame storedFrame
    simp only [clippedSamples_eq]
    rfl

theorem storeFrame_room (fl : InFlight) (x : Option Samples) (room : s.acq.ring.length < 8192) :
    storeFrame fl x s = (afterStoring (storedFrame fl x s) s).onAcq fun a =>
      { a with ring := s.acq.ring ++ [storedFrame fl x s] } := by
  rw [storeFrame_eq, enterRing_room (s := marksTaken _ s) _ room]
  rfl

theorem storeFrame_full (fl : InFlight) (x : Option Samples) (full : 8192 ≤ s.acq.ring.length) :
    let frame := storedFrame fl x s
    (storeFrame fl x s).acq.ring = s.acq.ring.tail ++ [frame] ∧
      (storeFrame fl x s).det = (afterStoring frame s).det ∧
      (storeFrame fl x s).acq.nextSeq = (frame.seq + 1) % 2 ^ 32 := by
  intro frame
  obtain ⟨ring, det, seq⟩ := enterRing_full (s := marksTaken frame s) frame full
  rw [storeFrame_eq]
  refine ⟨ring, ?_, seq⟩
  show { (enterRing frame (marksTaken frame s)).det with
    waiting := (enterRing frame (marksTaken frame s)).det.waiting ++ [frame], lastHanded := frame.seq } = _
  rw [det]
  rfl

theorem exec_frameReadComplete {fl : InFlight} (released : s.pace.held = false) (flies : s.acq.inFlight = some fl)
    (reading : fl.reading = true) (x : Samples) :
    exec (.frameReadComplete x) s = .next (storeFrame fl (some x) s) := by
  have due : readingFrame s = true := by simp [readingFrame, flies, reading]
  show execFrameReadComplete x s = _
  rw [execFrameReadComplete, takeEvent_due released due]
  simp only [flies]

theorem exec_dataReadyDeadline {fl : InFlight} (released : s.pace.held = false) (flies : s.acq.inFlight = some fl)
    (waits : fl.reading = false) (late : fl.deadline < s.tb.now) :
    exec .dataReadyDeadline s = .next (storeMissing fl s) := by
  have due : deadlinePassed s = true := by simp [deadlinePassed, flies, waits, late]
  show execDataReadyDeadline s = _
  rw [execDataReadyDeadline, takeEvent_due released due]
  simp only [flies]

/-! ### The statement -/

/-- The state in which a frame that ended MISSING has been counted (R64). -/
def missingCounted (s : State) : State := { s with acq := { s.acq with missing := (s.acq.missing + 1) % 2 ^ 32 } }

theorem storeMissing_eq (fl : InFlight) (s : State) :
    storeMissing fl s = storeFrame fl none (missingCounted s) := rfl

theorem storeMissing_missing (fl : InFlight) (s : State) :
    (storeMissing fl s).acq.missing = (s.acq.missing + 1) % 2 ^ 32 := by
  rw [storeMissing_eq]; exact (storeFrame_counts fl none (missingCounted s)).missing

/-- What an overrun takes and what it leaves (R67, R71, R72). -/
theorem enterRing_overrun_facts {oldest next : Frame} {rest : List Frame} (f : Frame)
    (ring : s.acq.ring = oldest :: next :: rest) (full : 8192 ≤ s.acq.ring.length)
    (unread : seqAtOrAfter oldest.seq s.acq.cursor = true) :
    let t := enterRing f s
    t.acq = { s.acq with
      ring := next :: rest ++ [f], overrun := min 4294967295 (s.acq.overrun + 1), cursor := next.seq
      holds := s.acq.holds.filter fun e => !seqAtOrAfter oldest.seq e.mark &&
        match e.close with | none => true | some c => !seqAfter next.seq c } ∧
    ∀ e ∈ s.acq.holds, seqAtOrAfter oldest.seq e.mark = true →
      ∀ r ∈ t.ev.records, r.seq = e.event → r.ringLost = true := by
  intro t
  have form : t = _ := enterRing_overrun f ring full unread
  refine ⟨?_, fun e held broken r member event => ?_⟩
  · rw [form, ringLostAll_only]; rfl
  · rw [form] at member
    obtain ⟨q, -, seq, lost⟩ := ringLostAll_records _ _ r member
    refine lost.2 (.inr ?_)
    rw [← seq, event]
    exact List.mem_map_of_mem (List.mem_filter.2 ⟨held, broken⟩)

/-- Settles O22: the start of the stream, the data-ready capture, the storing of a frame in a ring with room and in a
full one, and the overrun. -/
theorem streamsReadAndStoreFrames : Obligations.StreamsReadAndStoreFrames := by
  refine ⟨fun s released settling due => ?start, fun s released => ⟨fun fl flies awaits after before => ?accepted,
    fun none => ?stray⟩, fun fl s released flies => ⟨fun x reading => ?read, fun waits late => ?missing⟩,
    fun f oldest next rest s ring full => ⟨?newest, fun unread => ?overrun, fun passed => ?passed⟩⟩
  case start =>
    rw [exec_settleComplete released settling due, startStream_eq]
    rfl
  case accepted =>
    have accepted := (captureAccepted_iff s.tb.now s.acq).2 ⟨fl, flies, awaits, after, before⟩
    rw [exec_dataReadyCapture released, if_pos accepted, flies]
    rfl
  case stray =>
    have refused : ¬captureAccepted s.tb.now s.acq = true := fun accepted => by
      obtain ⟨fl, flies, awaits, after, before⟩ := (captureAccepted_iff ..).1 accepted
      rcases none fl flies with reading | early | late
      · exact Bool.false_ne_true (awaits.symm.trans reading)
      · exact Nat.not_le_of_lt early after
      · exact Nat.not_le_of_lt late before
    rw [exec_dataReadyCapture released, if_neg refused]
    rfl
  case read =>
    exact ⟨_, exec_frameReadComplete released flies reading x, storeFrame_room fl x, storeFrame_full fl x⟩
  case missing =>
    refine ⟨_, exec_dataReadyDeadline released flies waits late, storeMissing_missing fl s, fun room => ?_,
      fun full => ?_⟩
    · rw [storeMissing_eq]; exact storeFrame_room (s := missingCounted s) fl none room
    · rw [storeMissing_eq]
      obtain ⟨ring, det, -⟩ := storeFrame_full (s := missingCounted s) fl none full
      exact ⟨ring, det⟩
  case newest =>
    obtain ⟨newest, -⟩ := enterRing_full f full
    rw [newest, ring]
    rfl
  case overrun =>
    obtain ⟨acq, lost⟩ := enterRing_overrun_facts f ring full (decide_eq_true unread)
    exact ⟨congrArg (·.overrun) acq, congrArg (·.cursor) acq, congrArg (·.holds) acq, lost⟩
  case passed => exact enterRing_passed f ring full (decide_eq_false (Nat.not_lt_of_le passed))

end Sys2Proof.Machine
end

section
/-! Labels as they come in: the assembly of their bytes (R40), the checks of a complete one (R40) and its match to a PPS
(R41). -/

namespace Sys2Proof.Machine

variable {s : State}

/-! ### The assembly (R40) -/

theorem exec_labelByteReceived (released : s.pace.held = false) (b : Byte) :
    exec (.labelByteReceived b) s = .next (settle (labelByte b s)) :=
  takeEvent_due (due := fun _ => true) (effect := fun x => settle (labelByte b x)) released rfl

theorem exec_labelReceived (released : s.pace.held = false) (seven : s.disc.label.length = 7) (last : Byte) :
    exec (.labelReceived last) s = .next (settle (labelByte last s)) :=
  takeEvent_due (due := fun x => x.disc.label.length == 7) (effect := fun x => settle (labelByte last x)) released
    (beq_iff_eq.2 seven)

theorem labelByte_begins {b : Byte} (none : s.disc.label = []) (start : b = 0xB5) :
    labelByte b s = s.onDisc fun d => { d with label := [b] } := (if_pos none).trans (if_pos start)

theorem labelByte_ignored {b : Byte} (none : s.disc.label = []) (other : b ≠ 0xB5) : labelByte b s = s :=
  (if_pos none).trans (if_neg other)

theorem labelByte_collects {b : Byte} (some : s.disc.label ≠ []) (few : s.disc.label.length < 7) :
    labelByte b s = s.onDisc fun d => { d with label := d.label ++ [b] } := (if_neg some).trans (if_pos few)

theorem labelByte_completes {b : Byte} (seven : s.disc.label.length = 7) :
    labelByte b s = completeLabel (s.disc.label ++ [b]) s := by
  have some : s.disc.label ≠ [] := fun none => by simp [none] at seven
  exact (if_neg some).trans (if_neg (by omega))

/-! ### The checks (R40) -/

/-- The Discipline Unit after an assembly has ended. -/
def assemblyEnded (s : State) : State := s.onDisc fun d => { d with label := [] }

/-- The last byte of a label of eight. -/
theorem fieldAt_last {bs : List Byte} (seven : bs.length = 7) (last : Byte) : fieldAt (bs ++ [last]) 7 1 = [last] := by
  rw [fieldAt_tail (Nat.le_of_eq seven), seven]; rfl

/-- The fix flag of a label is bit 0 of its byte 6. -/
theorem fix_iff {bs : List Byte} (long : 6 < bs.length) : natAt bs 6 1 % 2 = 0 ↔ (bs.getD 6 0).getLsbD 0 = false := by
  have byte : fieldAt bs 6 1 = [bs.getD 6 0] := by
    rw [fieldAt, List.drop_eq_getElem_cons long, List.getD_eq_getElem _ _ long]; rfl
  have value (b : Byte) : natOf [b] = b.toNat := by simp [natOf]
  rw [natAt, byte, value, BitVec.getLsbD, Nat.testBit_zero]
  simp

theorem completeLabel_wrongSum {label : List Byte} (wrong : fieldAt label 7 1 ≠ [labelSum label]) :
    completeLabel label s = (assemblyEnded s).onDisc fun d => { d with badChecks := min 65535 (d.badChecks + 1) } := by
  unfold completeLabel; simp only [satInc_eq]; exact if_pos wrong

theorem completeLabel_noFix {label : List Byte} (sum : fieldAt label 7 1 = [labelSum label])
    (noFix : natAt label 6 1 % 2 = 0) :
    completeLabel label s = (assemblyEnded s).onDisc fun d => { d with noFix := min 65535 (d.noFix + 1) } := by
  unfold completeLabel; simp only [satInc_eq]; exact (if_neg (not_not.2 sum)).trans (if_pos noFix)

theorem completeLabel_checked {label : List Byte} (sum : fieldAt label 7 1 = [labelSum label])
    (fix : ¬natAt label 6 1 % 2 = 0) : completeLabel label s = matchLabel (natAt label 1 5) (assemblyEnded s) :=
  (if_neg (not_not.2 sum)).trans (if_neg fix)

/-! ### The match (R41) -/

/-- A PPS that a label of this moment belongs to: present, without a label so far, and at most 0.9 s old. -/
def Awaits (s : State) (m : MatchedPps) : Prop :=
  s.disc.present = true ∧ m.awaitsLabel = true ∧ s.tb.now ≤ m.capture + m.stepped + 9000000

theorem awaits_iff (s : State) (m : MatchedPps) : Awaits s m ↔
    (s.disc.present && m.awaitsLabel && decide (s.tb.now ≤ m.capture + m.stepped + 9000000)) = true := by
  simp [Awaits, and_assoc]

theorem matchLabel_unmatched {label : Nat} (none : ∀ m, s.disc.matched = some m → ¬Awaits s m) :
    matchLabel label s = s.onDisc fun d => { d with unmatched := min 65535 (d.unmatched + 1) } := by
  unfold matchLabel
  simp only [satInc_eq]
  cases e : s.disc.matched with
  | none => rfl
  | some m => exact if_neg fun awaits => none m e ((awaits_iff s m).2 awaits)

theorem matchLabel_matched {label : Nat} {m : MatchedPps} (e : s.disc.matched = some m) (awaits : Awaits s m) :
    let good := s.onDisc fun d =>
      { d with goodLabels := min 65535 (d.goodLabels + 1), matched := some { m with awaitsLabel := false } }
    matchLabel label s = if s.tb.state = .free then setFromLabel label m good else compareLabel label m good := by
  unfold matchLabel
  simp only [satInc_eq, e]
  exact if_pos ((awaits_iff s m).1 awaits)

/-- Settles O18: the bytes of an assembly, then each end of a complete label. -/
theorem labelsAreCollectedAndChecked : Obligations.LabelsAreCollectedAndChecked := by
  refine ⟨fun b s released => ⟨fun none start => ?begins, fun none other => ?ignored, fun some few => ?collects⟩,
    fun last s released seven => ?_⟩
  case begins => rw [exec_labelByteReceived released, labelByte_begins none start]
  case ignored => rw [exec_labelByteReceived released, labelByte_ignored none other]
  case collects => rw [exec_labelByteReceived released, labelByte_collects some few]
  intro full sum done label matches'
  have check : fieldAt full 7 1 = [labelSum full] ↔ last = sum := by
    rw [fieldAt_last seven, List.singleton_inj]; rfl
  have fix := fix_iff (bs := full) (by simp [full, seven])
  rw [exec_labelReceived released seven, labelByte_completes seven]
  refine ⟨fun wrong => ?_, fun right noFix => ?_, fun right fixed none => ?_, fun m right fixed e awaits => ?_⟩
  · rw [completeLabel_wrongSum (mt check.1 wrong)]; rfl
  · rw [completeLabel_noFix (check.2 right) (fix.2 noFix)]; rfl
  all_goals rw [completeLabel_checked (check.2 right) (by rw [fix, fixed]; decide)]
  · rw [matchLabel_unmatched (s := assemblyEnded s) none]; rfl
  · rw [matchLabel_matched (s := assemblyEnded s) e awaits]; rfl

end Sys2Proof.Machine
end

section
/-! Seconds without a PPS: missed seconds and the loss (R39, R48), the Discipline Unit's second in HOLDOVER (R51, R52), and
GNSS's windows and refresh requests (R56, R57). -/

namespace Sys2Proof.Machine

variable {s : State}

/-! ### GNSS requests (R56, R57) -/

theorem unexpired_eq (seconds : Nat) (e : Option Nat) :
    unexpired seconds e = if e.any fun x => decide (seconds < x) then e else none := by
  cases e with
  | none => rfl
  | some x => simp [unexpired]

theorem unexpired_some {seconds x : Nat} (later : seconds < x) : unexpired seconds (some x) = some x := if_pos later

/-- TIMEBASE's entry on GNSS stands, is absent without a window and a refresh request, or lasts to the later expiry. -/
theorem timebaseAsk_eq (d : Discipline) (seconds : Nat) : timebaseAsk d seconds =
    if d.continuous then .standing
    else if unexpired seconds d.window = none ∧ unexpired seconds d.refresh = none then .absent
    else .until (max ((unexpired seconds d.window).getD 0) ((unexpired seconds d.refresh).getD 0)) := by
  unfold timebaseAsk
  cases unexpired seconds d.window <;> cases unexpired seconds d.refresh <;> simp

/-- An expired request does not last beyond one that is not expired. -/
theorem max_unexpired {seconds x : Nat} (later : seconds < x) (other : Option Nat) :
    max x ((unexpired seconds other).getD 0) = max x (other.getD 0) := by
  cases other with
  | none => rfl
  | some y =>
    unfold unexpired
    dsimp only
    split
    · rfl
    · simp only [Option.getD_none, Option.getD_some]; omega

theorem timebaseAsk_refresh {d : Discipline} {seconds x : Nat} (refresh : d.refresh = some x) (later : seconds < x) :
    timebaseAsk d seconds = if d.continuous then .standing else .until (max x (d.window.getD 0)) := by
  rw [timebaseAsk_eq, refresh, unexpired_some later, if_neg (c := _ ∧ _) (by simp), Option.getD_some, Nat.max_comm,
    max_unexpired later]

theorem timebaseAsk_window {d : Discipline} {seconds x : Nat} (window : d.window = some x) (later : seconds < x) :
    timebaseAsk d seconds = if d.continuous then .standing else .until (max x (d.refresh.getD 0)) := by
  rw [timebaseAsk_eq, window, unexpired_some later, if_neg (c := _ ∧ _) (by simp), Option.getD_some, max_unexpired later]

theorem refreshRequest_eq (long : 0 < s.disc.cfg.windowLength) : refreshRequest s =
    (s.onDisc fun d => { d with refresh := some (s.pace.seconds + s.disc.cfg.windowLength), sinceRefresh := 0 }).onLoad .gnss
      fun x => { x with asks := { x.asks with timebase :=
        if s.disc.continuous then .standing
        else (.until (max (s.pace.seconds + s.disc.cfg.windowLength) (s.disc.window.getD 0))) } } := by
  exact congrArg (fun ask => setAsk .gnss .timebase ask _)
    (timebaseAsk_refresh (x := s.pace.seconds + s.disc.cfg.windowLength) rfl (Nat.lt_add_of_pos_right long))

theorem openGnssWindow_eq (long : 0 < s.disc.cfg.windowLength) : openGnssWindow s =
    (s.onDisc fun d => { d with window := some (s.pace.seconds + s.disc.cfg.windowLength), windowDue := false }).onLoad .gnss
      fun x => { x with asks := { x.asks with timebase :=
        if s.disc.continuous then .standing
        else (.until (max (s.pace.seconds + s.disc.cfg.windowLength) (s.disc.refresh.getD 0))) } } := by
  exact congrArg (fun ask => setAsk .gnss .timebase ask _)
    (timebaseAsk_window (x := s.pace.seconds + s.disc.cfg.windowLength) rfl (Nat.lt_add_of_pos_right long))

/-! ### The uncertainty set (R6, R57) -/

/-- A new uncertainty held, with the refresh state it leaves. -/
def uncertaintyHeld (u : Nat) (above : Bool) (s : State) : State :=
  { s with tb := { s.tb with uncertainty := u }, disc := { s.disc with takenLow := false, aboveRefresh := above } }

theorem setUncertainty_rises {n : Nat} (rises : risesAbove (min 4294967295 n) s = true) :
    setUncertainty n s = refreshRequest (uncertaintyHeld (min 4294967295 n) true s) := by
  unfold setUncertainty; simp only [rises, Bool.true_or, if_true]; rfl

theorem setUncertainty_holds {n : Nat} (holds : risesAbove (min 4294967295 n) s = false) :
    setUncertainty n s = uncertaintyHeld (min 4294967295 n)
      (s.disc.aboveRefresh && decide (s.disc.cfg.refreshLimit < min 4294967295 n)) s := by
  unfold setUncertainty; simp only [holds, Bool.false_or, Bool.false_eq_true, if_false]; rfl

theorem setUncertainty_takenLow (n : Nat) (s : State) : (setUncertainty n s).disc.takenLow = false := by
  unfold setUncertainty; dsimp only; split <;> rfl

/-! ### The loss (R39, R48) -/

theorem presentBin_eq (s : State) : presentBin s =
    (if s.pw.tosc.faulted then none else s.disc.bins[binOf s.pw.tosc.value]?).filter fun b => 8 ≤ b.count := by
  unfold presentBin
  cases s.pw.tosc.faulted
  case true => rfl
  case false =>
    cases s.disc.bins[binOf s.pw.tosc.value]? with
    | none => rfl
    | some b => by_cases valid : 8 ≤ b.count <;> simp [valid, Option.filter]

/-- The Discipline Unit without a PPS to receive a label and without a held phase error (R39). -/
def ppsLost (s : State) : State := { s with disc := { s.disc with
  present := false, lossDue := false, heldP := none
  matched := s.disc.matched.map fun m => { m with awaitsLabel := false } } }

/-- The entry to HOLDOVER: steering stops, and the reference is the present bin's value or Cfreq (R48). -/
def steeringStopped (s : State) : State := { s with
  tb := { s.tb with cslew := 0, ctemp := 0 }
  disc := { s.disc with bref := match presentBin s with | none => s.tb.cfreq | some b => b.value } }

theorem becomeAbsent_eq (s : State) : becomeAbsent s = match s.tb.state with
    | .locked => changeTimeState .holdover false (setUncertainty (s.disc.lastP.natAbs * 100) (steeringStopped (ppsLost s)))
    | .acquiring => changeTimeState .adrift false (ppsLost s)
    | .free => ppsLost s
    | .holdover => ppsLost s
    | .adrift => ppsLost s := by
  show loseState (ppsLost s) = _
  unfold loseState steeringStopped
  cases presentBin (ppsLost s) <;> rfl

theorem becomeAbsent_locked (locked : s.tb.state = .locked) : becomeAbsent s =
    entered .holdover (setUncertainty (s.disc.lastP.natAbs * 100) (steeringStopped (ppsLost s))) := by
  have state : (setUncertainty (s.disc.lastP.natAbs * 100) (steeringStopped (ppsLost s))).tb.state = .locked := by
    rw [setUncertainty_tb]; exact locked
  rw [becomeAbsent_eq, locked]
  exact changeTimeState_enters (by simp [state]) (by simp)

theorem becomeAbsent_acquiring (acquiring : s.tb.state = .acquiring) :
    becomeAbsent s = timeNotice false (entered .adrift (ppsLost s)) := by
  rw [becomeAbsent_eq, acquiring]
  exact changeTimeState_changes (s := ppsLost s) (by simp [show (ppsLost s).tb.state = _ from acquiring]) false

theorem becomeAbsent_untracked (locked : s.tb.state ≠ .locked) (acquiring : s.tb.state ≠ .acquiring) :
    becomeAbsent s = ppsLost s := by
  rw [becomeAbsent_eq]
  cases e : s.tb.state <;> simp [e] at locked acquiring ⊢

/-- After a loss nothing of the lost PPS waits any more (R39). -/
theorem becomeAbsent_lost (s : State) : (becomeAbsent s).disc.present = false ∧ (becomeAbsent s).disc.heldP = none ∧
    (becomeAbsent s).disc.lossDue = false ∧
    (becomeAbsent s).disc.matched = s.disc.matched.map fun m => { m with awaitsLabel := false } := by
  by_cases locked : s.tb.state = .locked
  · obtain ⟨-, disc⟩ := setUncertainty_only (s.disc.lastP.natAbs * 100) (steeringStopped (ppsLost s))
    rw [becomeAbsent_locked locked]
    unfold entered
    rw [disc]
    exact ⟨rfl, rfl, rfl, rfl⟩
  · by_cases acquiring : s.tb.state = .acquiring
    · rw [becomeAbsent_acquiring acquiring, timeNotice_only]; exact ⟨rfl, rfl, rfl, rfl⟩
    · rw [becomeAbsent_untracked locked acquiring]; exact ⟨rfl, rfl, rfl, rfl⟩

/-- A loss in LOCKED: the time state, its entry, what steering held and the uncertainty (R48). -/
theorem becomeAbsent_holds (locked : s.tb.state = .locked) :
    (becomeAbsent s).tb = { s.tb with
      state := .holdover, entry := s.tb.now, cslew := 0, ctemp := 0
      uncertainty := min 4294967295 (s.disc.lastP.natAbs * 100) } ∧
    (becomeAbsent s).disc.bref = match presentBin s with | none => s.tb.cfreq | some b => b.value := by
  obtain ⟨-, disc⟩ := setUncertainty_only (s.disc.lastP.natAbs * 100) (steeringStopped (ppsLost s))
  rw [becomeAbsent_locked locked]
  unfold entered
  rw [setUncertainty_tb, disc]
  refine ⟨?_, rfl⟩
  simp only [show (steeringStopped (ppsLost s)).tb.state = .locked from locked]
  rfl

/-- A loss in another state leaves the slew and the uncertainty, and ACQUIRING goes to ADRIFT (R48). -/
theorem becomeAbsent_drifts (other : s.tb.state ≠ .locked) :
    (becomeAbsent s).tb = { s.tb with
      state := if s.tb.state = .acquiring then .adrift else s.tb.state
      entry := if s.tb.state = .acquiring then s.tb.now else s.tb.entry
      routineRef := (becomeAbsent s).tb.routineRef, urgentRef := (becomeAbsent s).tb.urgentRef } := by
  by_cases acquiring : s.tb.state = .acquiring
  · rw [becomeAbsent_acquiring acquiring, if_pos acquiring, if_pos acquiring, timeNotice_only]
    simp [entered, ppsLost, acquiring]
  · rw [becomeAbsent_untracked other acquiring, if_neg acquiring, if_neg acquiring]; rfl

/-! ### The Discipline Unit's second (R39, R51, R52, R56) -/

/-- The counts of a second, with the loss and the window it brings (R39, R56). -/
def secondCounted (s : State) : State :=
  let absence := min 255 (s.disc.absence + 1)
  let survival := s.pw.level = some .survival
  let count := if survival then s.disc.scheduleCount + 1 else s.disc.scheduleCount
  { s with
    pace := { s.pace with disciplineSeconds := s.pace.disciplineSeconds + 1 }
    disc := { s.disc with
      absence := absence, scheduleCount := count, sinceRefresh := s.disc.sinceRefresh + 1
      lossDue := s.disc.present && decide (s.disc.cfg.lossLimit ≤ absence)
      windowDue := s.disc.windowDue || decide (survival ∧ count % s.disc.cfg.windowInterval = 0) } }

theorem disciplineSecondWork_eq (s : State) : disciplineSecondWork s =
    if s.tb.state = .holdover then holdoverSecond (secondCounted s) else secondCounted s := by
  unfold disciplineSecondWork secondCounted
  simp only [satInc_eq, decide_eq_true_eq, Bool.decide_and, beq_eq_decide]
  rfl

theorem exec_disciplineSecond (released : s.pace.held = false)
    (due : (s.pace.disciplineSeconds + 1) * 10000000 ≤ s.pace.cycles) :
    exec .disciplineSecond s = .next (settle (disciplineSecondWork s)) :=
  takeEvent_due (due := disciplineDue) (effect := fun x => settle (disciplineSecondWork x)) released (decide_eq_true due)

/-- What a second in HOLDOVER adds to the uncertainty (R51). -/
def holdoverGrowth (s : State) : Nat :=
  if (presentBin s).isSome then s.disc.cfg.gbase else 4 * s.disc.cfg.gbase

/-- The uncertainty after a second in HOLDOVER, over the adrift limit or not (R51). -/
def grown (s : State) : State := setUncertainty (s.tb.uncertainty + holdoverGrowth s) s

/-- The temperature correction of a bin (R52). -/
def binCorrection (bref : Int) (bin : Option TempBin) : Int :=
  match bin with
  | none => 0
  | some b => max (-2000000) (min 2000000 (b.value - bref))

/-- A second in HOLDOVER enters ADRIFT above the limit, and corrects for the temperature otherwise (R51, R52). -/
theorem holdoverSecond_eq (s : State) : holdoverSecond s =
    if s.disc.cfg.adriftLimit < min 4294967295 (s.tb.uncertainty + holdoverGrowth s) then
      changeTimeState .adrift false (grown s)
    else (grown s).onTb fun tb => { tb with ctemp := binCorrection s.disc.bref (presentBin s) } := by
  have uncertainty : (grown s).tb.uncertainty = min 4294967295 (s.tb.uncertainty + holdoverGrowth s) := by
    unfold grown; rw [setUncertainty_tb]
  rw [← uncertainty]
  refine congrArg (fun c => if s.disc.cfg.adriftLimit < (grown s).tb.uncertainty then
    changeTimeState .adrift false (grown s) else (grown s).onTb fun tb => { tb with ctemp := c }) ?_
  cases presentBin s <;> rfl

/-- The entry to ADRIFT leaves GNSS's requesters and, of the Discipline Unit, all but the runs. -/
theorem changeTimeState_adrift_rest (s : State) :
    (changeTimeState .adrift false s).pw = s.pw ∧ (changeTimeState .adrift false s).disc = { s.disc with
      lockRun := (changeTimeState .adrift false s).disc.lockRun
      unlockRun := (changeTimeState .adrift false s).disc.unlockRun } := by
  by_cases adrift : s.tb.state = .adrift
  · rw [changeTimeState_same adrift]; exact ⟨rfl, rfl⟩
  · rw [changeTimeState_changes adrift, if_pos ⟨rfl, rfl⟩, timeNotice_only]; exact ⟨rfl, rfl⟩

/-- A second in HOLDOVER leaves GNSS's requesters and the refresh state as the uncertainty has set them. -/
theorem holdoverSecond_rest (s : State) :
    (holdoverSecond s).pw = (grown s).pw ∧ (holdoverSecond s).disc = { (grown s).disc with
      lockRun := (holdoverSecond s).disc.lockRun, unlockRun := (holdoverSecond s).disc.unlockRun } := by
  by_cases above : s.disc.cfg.adriftLimit < min 4294967295 (s.tb.uncertainty + holdoverGrowth s)
  · rw [holdoverSecond_eq, if_pos above]; exact changeTimeState_adrift_rest _
  · rw [holdoverSecond_eq, if_neg above]; exact ⟨rfl, rfl⟩

theorem holdoverSecond_tb (holdover : s.tb.state = .holdover) :
    let u := min 4294967295 (s.tb.uncertainty + holdoverGrowth s)
    (holdoverSecond s).tb = { s.tb with
      uncertainty := u
      state := if s.disc.cfg.adriftLimit < u then .adrift else .holdover
      entry := if s.disc.cfg.adriftLimit < u then s.tb.now else s.tb.entry
      ctemp := if s.disc.cfg.adriftLimit < u then 0 else binCorrection s.disc.bref (presentBin s)
      routineRef := (holdoverSecond s).tb.routineRef, urgentRef := (holdoverSecond s).tb.urgentRef } := by
  intro u
  have tb : (grown s).tb = { s.tb with uncertainty := u } := setUncertainty_tb ..
  by_cases above : s.disc.cfg.adriftLimit < u
  · obtain ⟨drifted, -⟩ := changeTimeState_adrift (grown s)
    rw [holdoverSecond_eq, if_pos above, drifted, tb]
    simp [above, holdover]
  · rw [holdoverSecond_eq, if_neg above, State.onTb_tb, tb]
    simp [above, holdover]

theorem holdoverSecond_takenLow (s : State) : (holdoverSecond s).disc.takenLow = false := by
  rw [(holdoverSecond_rest s).2]; exact setUncertainty_takenLow ..

theorem holdoverSecond_fixed (s : State) : (holdoverSecond s).fixed = s.fixed := by
  rw [holdoverSecond_eq]
  split
  · rw [changeTimeState_fixed _ _ _ (by decide)]; exact setUncertainty_fixed ..
  · exact (State.onTb_fixed rfl).trans (setUncertainty_fixed ..)

/-- A second in HOLDOVER moves the refresh state as its uncertainty does (R57). -/
theorem holdoverSecond_refresh (s : State) :
    let u := min 4294967295 (s.tb.uncertainty + holdoverGrowth s)
    let x := holdoverSecond s
    (risesAbove u s = true → 0 < s.disc.cfg.windowLength →
      x.disc.aboveRefresh = true ∧ x.disc.sinceRefresh = 0 ∧
      x.disc.refresh = some (s.pace.seconds + s.disc.cfg.windowLength) ∧
      (x.pw.loads.gnss.asks.timebase = .standing ↔ s.disc.continuous = true)) ∧
    (risesAbove u s = false →
      x.disc.refresh = s.disc.refresh ∧ x.disc.sinceRefresh = s.disc.sinceRefresh ∧
      (x.disc.aboveRefresh = true ↔ s.disc.aboveRefresh = true ∧ s.disc.cfg.refreshLimit < u)) := by
  intro u x
  obtain ⟨pw, disc⟩ := holdoverSecond_rest s
  rw [show x = holdoverSecond s from rfl, disc, pw]
  refine ⟨fun rises long => ?_, fun stays => ?_⟩
  · rw [show grown s = refreshRequest (uncertaintyHeld u true s) from setUncertainty_rises rises,
      refreshRequest_eq (s := uncertaintyHeld u true s) long]
    refine ⟨rfl, rfl, rfl, ?_⟩
    show (if s.disc.continuous = true then Ask.standing else _) = _ ↔ _
    split
    next continuous => simp [continuous]
    next scheduled => simp [scheduled]
  · rw [show grown s = uncertaintyHeld u _ s from setUncertainty_holds stays]
    exact ⟨rfl, rfl, (Bool.and_eq_true_iff).trans (and_congr_right' decide_eq_true_iff)⟩

theorem exec_missedSecond (released : s.pace.held = false) (present : s.disc.present = true)
    (late : s.disc.expected + 500000 < s.tb.now) : exec .missedSecond s = .next (missSecond s) :=
  takeEvent_due (due := missedDue) (effect := missSecond) released (by simp [missedDue, present, late])

/-- The reference of a loss in LOCKED: the value of the present bin where it is valid, and Cfreq otherwise (R48, R53). -/
theorem presentBin_value (s : State) (cfreq : Int) :
    (match presentBin s with | none => cfreq | some b => b.value) =
      match (if s.pw.tosc.faulted then none else s.disc.bins[binOf s.pw.tosc.value]?) with
      | none => cfreq
      | some b => if 8 ≤ b.count then b.value else cfreq := by
  unfold presentBin
  cases s.pw.tosc.faulted
  case true => rfl
  case false =>
    cases s.disc.bins[binOf s.pw.tosc.value]? with
    | none => rfl
    | some b => by_cases valid : 8 ≤ b.count <;> simp [valid]

/-- Settles O17: the missed second, the loss, the Discipline Unit's second, GNSS's requests and the uncertainty. -/
theorem secondsWithoutPpsAndHoldover : Obligations.SecondsWithoutPpsAndHoldover := by
  refine ⟨fun s released present late => ?missed, ⟨fun s released present due => ?lost, fun s => ?absent⟩,
    fun s released due => ?second, fun s released long => ⟨fun above beyond old => ?repeats, fun due => ?opens⟩,
    fun n s => ?uncertainty⟩
  case missed =>
    rw [exec_missedSecond released present late]
    unfold missSecond
    simp only [satInc_eq]
    rfl
  case lost =>
    exact takeEvent_due (due := fun x => x.disc.present && x.disc.lossDue) (effect := fun x => settle (becomeAbsent x))
      released (by simp [present, due])
  case absent =>
    intro x absent bin
    have kept : x.kept = s.kept := kept_of_fixed (becomeAbsent_fixed s)
    obtain ⟨present, heldP, lossDue, matched⟩ := becomeAbsent_lost s
    have tracked : x.tb.state = (match s.tb.state with | .locked => .holdover | .acquiring => .adrift | other => other) ∧
        x.tb.entry = (match s.tb.state with | .locked => s.tb.now | .acquiring => s.tb.now | _ => s.tb.entry) := by
      by_cases locked : s.tb.state = .locked
      · rw [(becomeAbsent_holds locked).1, locked]; exact ⟨rfl, rfl⟩
      · rw [becomeAbsent_drifts locked]
        cases e : s.tb.state <;> simp [e] at locked ⊢
    refine ⟨?_, present, heldP, lossDue, matched, congrArg (·.tb.now) kept, congrArg (·.tb.f) kept,
      congrArg (·.tb.cfreq) kept, tracked.1, tracked.2, fun locked => ?_, fun other => ?_, kept⟩
    · rw [show bin = presentBin s from (presentBin_eq s).symm]; exact becomeAbsent_eq s
    · obtain ⟨tb, bref⟩ := becomeAbsent_holds locked
      exact ⟨congrArg (·.cslew) tb, congrArg (·.ctemp) tb, congrArg (·.uncertainty) tb, bref.trans (presentBin_value ..)⟩
    · have tb := becomeAbsent_drifts other
      exact ⟨congrArg (·.cslew) tb, congrArg (·.uncertainty) tb⟩
  case second =>
    intro absence survival count counted bin u
    have valid : bin = presentBin counted := (presentBin_eq s).symm
    have growth : u = min 4294967295 (counted.tb.uncertainty + holdoverGrowth counted) := by
      simp only [u, holdoverGrowth, valid]; rfl
    have ran := exec_disciplineSecond released due
    rw [disciplineSecondWork_eq] at ran
    refine ⟨fun other => ran.trans (by rw [if_neg other]; rfl), fun holdover =>
      ⟨holdoverSecond counted, ran.trans (by rw [if_pos holdover]; rfl), ?_⟩⟩
    obtain ⟨rises, stays⟩ := holdoverSecond_refresh counted
    rw [← growth] at rises stays
    refine ⟨?_, kept_of_fixed (holdoverSecond_fixed counted), ?_, holdoverSecond_takenLow counted,
      fun r long => rises ((risesAbove_iff ..).2 r) long, fun r => ?_⟩
    · rw [holdoverSecond_eq, ← growth, ← valid]
      simp only [grown, holdoverGrowth, ← valid]
      rfl
    · have tb := holdoverSecond_tb (s := counted) holdover
      rw [← growth, ← valid] at tb
      exact tb
    · obtain ⟨refresh, since, above⟩ := stays (Bool.eq_false_iff.2 (mt (risesAbove_iff u counted).1 r))
      exact ⟨refresh, since, above⟩
  case repeats =>
    have due : refreshDue s = true := by simp [refreshDue, above, beyond, old]
    have ran := takeEvent_due (effect := fun x => settle (refreshRequest x)) released due
    rw [refreshRequest_eq long] at ran
    exact ran
  case opens =>
    have ran := takeEvent_due (due := fun x => x.disc.windowDue) (effect := fun x => settle (openGnssWindow x)) released due
    rw [openGnssWindow_eq long] at ran
    exact ran
  case uncertainty =>
    intro u limit rises expiry judged
    refine ⟨setUncertainty_low, fun above stays => ?_, fun r long => ?_⟩
    · rw [setUncertainty_holds (Bool.eq_false_iff.2 (mt (risesAbove_iff u s).1 stays)), decide_eq_true above,
        Bool.and_true]
      rfl
    · rw [setUncertainty_rises ((risesAbove_iff u s).2 r), refreshRequest_eq (s := uncertaintyHeld u true s) long]
      rfl

end Sys2Proof.Machine
end

section
/-! The reads of the blocks (R59, R69, R98, R111, R113, R131, R152, R172): each sends its block's record field by field. -/

namespace Sys2Proof.Machine

/-! ### Flags, codes and options as they are sent -/

theorem boolByte_eq (b : Bool) : boolByte b = be 1 (if b then 1 else 0) := by cases b <;> rfl

theorem AcqState.code_eq (a : AcqState) :
    a.code = match a with | .stopped => 0 | .settling => 1 | .running => 2 := by cases a <;> rfl

theorem SampleRate.code_eq (r : SampleRate) : r.code = match r with | .r50 => 0 | .r100 => 1 | .r200 => 2 := by
  cases r <;> rfl

theorem NoticeClass.code_eq (c : NoticeClass) : c.code = match c with | .routine => 0 | .urgent => 1 | .alarm => 2 := by
  cases c <;> rfl

theorem ChannelState.code_eq (c : ChannelState) : c.code =
    match c with | .off => 0 | .warmup => 1 | .quiet => 2 | .triggered => 3 | .holdoff => 4 := by cases c <;> rfl

theorem unexpired_isSome (seconds : Nat) (e : Option Nat) : (unexpired seconds e).isSome =
    match e with | none => false | some x => decide (seconds < x) := by
  cases e with
  | none => rfl
  | some x => by_cases later : seconds < x <;> simp [unexpired, later]

theorem optTimeBytes_if (b : Bool) (t : Time) :
    optTimeBytes (if b then some t else none) = if b then timeBytes t else zeros 8 := by cases b <;> rfl

/-! ### GET_RING (R69) -/

theorem inFlightCode_eq (f : Option InFlight) :
    inFlightCode f = match f with | none => 0 | some x => if x.reading then 2 else 1 := by cases f <;> rfl

theorem pendingRateCode_eq (c : Compare) : pendingRateCode c = match c.waiting with
    | none => 255
    | some w => if w.period = 200000 then 0 else if w.period = 100000 then 1 else if w.period = 50000 then 2 else 255 := by
  unfold pendingRateCode SampleRate.ofPeriod
  cases c.waiting with
  | none => rfl
  | some w => dsimp only; split_ifs <;> rfl

theorem seqOrZero_eq (f : Option Frame) : seqOrZero f = (f.map fun x => x.seq).getD 0 := by cases f <;> rfl

/-! ### GET_DETECTOR (R98) -/

theorem episodeData_eq (d : Detector) : episodeData d = match d.episode with
    | .none => zeros 9
    | .opened seq => be 1 1 ++ be 4 seq ++ be 1 d.cls ++ be 1 d.vote ++ be 1 d.votePeak ++ be 1 (min 255 d.gapRun)
    | .lost => be 1 2 ++ zeros 4 ++ be 1 d.cls ++ be 1 d.vote ++ be 1 d.votePeak ++ be 1 (min 255 d.gapRun) := by
  unfold episodeData
  cases d.episode <;> simp only [List.append_assoc]
  rfl

/-! ### LIST_EVENTS (R111) -/

theorem insertRecord_perm (r : Record) (l : List Record) : (insertRecord r l).Perm (r :: l) := by
  induction l with
  | nil => rfl
  | cons q rest ih =>
    simp only [insertRecord]
    split
    · rfl
    · exact (ih.cons q).trans (.swap r q rest)

theorem insertRecord_sorted (r : Record) {l : List Record} (h : l.Pairwise fun x y => x.seq ≤ y.seq) :
    (insertRecord r l).Pairwise fun x y => x.seq ≤ y.seq := by
  induction l with
  | nil => simp [insertRecord]
  | cons q rest ih =>
    obtain ⟨low, sorted⟩ := List.pairwise_cons.1 h
    simp only [insertRecord]
    split
    next below =>
      refine List.pairwise_cons.2 ⟨fun x m => ?_, h⟩
      rcases List.mem_cons.1 m with rfl | m
      · exact Nat.le_of_lt below
      · exact Nat.le_trans (Nat.le_of_lt below) (low x m)
    next notBelow =>
      refine List.pairwise_cons.2 ⟨fun x m => ?_, ih sorted⟩
      rcases List.mem_cons.1 ((insertRecord_perm r rest).mem_iff.1 m) with rfl | m
      · exact Nat.le_of_not_lt notBelow
      · exact low x m

/-- Some records in ascending sequence. -/
def bySequence (rs : List Record) : List Record := rs.foldl (fun acc r => insertRecord r acc) []

theorem bySequence_perm (rs : List Record) : (bySequence rs).Perm rs := by
  have go : ∀ acc, (rs.foldl (fun acc r => insertRecord r acc) acc).Perm (acc ++ rs) := by
    induction rs with
    | nil => intro acc; simp
    | cons r rest ih =>
      intro acc
      exact (ih _).trans (((insertRecord_perm r acc).append_right rest).trans List.perm_middle.symm)
  exact go []

theorem bySequence_sorted (rs : List Record) : (bySequence rs).Pairwise fun x y => x.seq ≤ y.seq :=
  List.foldlRecOn rs _ .nil fun _ sorted r _ => insertRecord_sorted r sorted

/-! ### The bytes of the group table (R131) -/

/-- The bytes of a number, least significant first. -/
theorem be_reverse (n v : Nat) : (be n v).reverse = (List.range n).map fun i => BitVec.ofNat 8 (v / 256 ^ i) := by
  induction n with
  | zero => rfl
  | succ n ih => rw [be, List.reverse_cons, ih, List.range_succ, List.map_append]; rfl

theorem groupBytes_eq (g : BitVec 64) : groupBytes g = (List.range 8).map fun i => g.extractLsb' (8 * i) 8 := by
  rw [groupBytes, be_reverse]
  refine List.map_congr_left fun i _ => ?_
  rw [BitVec.extractLsb', Nat.shiftRight_eq_div_pow, Nat.pow_mul]

/-! ### GET_POWER (R172) -/

theorem levelCode_eq (l : Option Level) : levelCode l = match l with | none => 255 | some x => x.code := by
  cases l <;> rfl

theorem stackBytes_eq (e : Option StackEntry) : stackBytes e = match e with
    | none => zeros 4
    | some x => be 1 x.slot ++ be 1 x.nextSegment ++ be 1 x.cls.code ++ be 1 x.by' := by cases e <;> rfl

/-- Settles O20: each read is a command that only reads, and its data are the fields of its block. -/
theorem readsOfTheUnits : Obligations.ReadsOfTheUnits := by
  refine ⟨readCommand_of (data := fun _ x => disciplineData x.pace.seconds x.disc) (fun _ _ _ _ => rfl) fun p tag s => ?_,
    readCommand_of (data := fun _ x => ringData x.ccu.ch4 x.acq) (fun _ _ _ _ => rfl) fun p tag s => ?_,
    readCommand_of (data := fun _ x => detectorData x.acq.cfg.rate x.det) (fun _ _ _ _ => rfl) fun p tag s => ?_,
    fun p tag s adm => ?_,
    readCommand_of (data := fun _ x => boolByte x.ev.unreadProtection) (fun _ _ _ _ => rfl) fun p tag s => ?_,
    readCommand_of (data := fun _ x => linkCfgData x.link.cfg ++ groupBytes x.link.groups) (fun _ _ _ _ => rfl)
      fun p tag s => ?_,
    readCommand_of (data := fun _ x => noticeTableData x) (fun _ _ _ _ => rfl) fun p tag s => ?_,
    readCommand_of (data := fun _ x => powerData x.pw) (fun _ _ _ _ => rfl) fun p tag s => ?_⟩
  · show disciplineData s.pace.seconds s.disc = _
    simp only [disciplineData, unexpired_isSome, optTimeBytes_if] <;> rfl
  · show ringData s.ccu.ch4 s.acq = _
    simp only [ringData, AcqState.code_eq, inFlightCode_eq, SampleRate.code_eq, pendingRateCode_eq, seqOrZero_eq] <;>
      rfl
  · show detectorData s.acq.cfg.rate s.det = _
    simp only [detectorData, detectorCfgData, SampleRate.code_eq, NoticeClass.code_eq, ChannelState.code_eq,
      episodeData_eq, boolByte_eq, Six.toList, List.append_assoc] <;> rfl
  · refine ⟨bySequence (s.ev.records.filter fun r => s.ev.cursors.get p < r.seq), _, ?_, rfl, bySequence_perm _,
      bySequence_sorted _⟩
    rw [show exec (.listEvents p tag []) s = .next (s.answered p tag .ok (listData p s)) from request_answers adm rfl]
    simp only [listData, lastConsumed, boolByte_eq]
    rfl
  · exact boolByte_eq s.ev.unreadProtection
  · show linkCfgData s.link.cfg ++ groupBytes s.link.groups = _
    rw [groupBytes_eq]; rfl
  · show noticeTableData s = _
    simp only [noticeTableData, stackBytes_eq] <;> rfl
  · show powerData s.pw = _
    simp only [powerData, levelCode_eq] <;> rfl

end Sys2Proof.Machine
end

section
/-! The settings of the Discipline Unit (R58) and its temperature table (R55): the fields of a request read back, and the
run of bins that READ_TEMP_BINS and LOAD_TEMP_BINS move the pointer over. -/

namespace Sys2Proof.Machine

variable {s : State}

/-! ### Fields of a request -/

/-- A field that was written first reads back. -/
theorem natAt_be {n v : Nat} (fits : v < 2 ^ (8 * n)) (rest : List Byte) : natAt (be n v ++ rest) 0 n = v := by
  rw [natAt, fieldAt_head (be_length n v), natOf_be_of_lt (by rwa [Nat.pow_mul] at fits)]

theorem natAt_be_only {n v : Nat} (fits : v < 2 ^ (8 * n)) : natAt (be n v) 0 n = v := by
  have field := natAt_be fits []
  rwa [List.append_nil] at field

/-- A field that lies beyond the first bytes is found among the others. -/
theorem natAt_beyond {bs : List Byte} {off : Nat} (beyond : bs.length ≤ off) (rest : List Byte) (len : Nat) :
    natAt (bs ++ rest) off len = natAt rest (off - bs.length) len := congrArg natOf (fieldAt_tail beyond)

theorem intAt_beyond {bs : List Byte} {off : Nat} (beyond : bs.length ≤ off) (rest : List Byte) (len : Nat) :
    intAt (bs ++ rest) off len = intAt rest (off - bs.length) len := congrArg intOf (fieldAt_tail beyond)

/-- A two's complement field reads back the value it was written with. -/
theorem intOf_beInt {n : Nat} {v : Int} (low : -((256 ^ n : Nat) : Int) ≤ 2 * v) (high : 2 * v < (256 ^ n : Nat)) :
    intOf (beInt n v) = v := by
  have number : (natOf (beInt n v) : Int) = v % (256 ^ n : Nat) := by
    rw [beInt, natOf_be]
    generalize 256 ^ n = span at *
    have residue := Int.emod_nonneg v (b := span) (by omega)
    have below := Int.emod_lt_of_pos v (b := span) (by omega)
    rw [Nat.mod_eq_of_lt (by omega), Int.toNat_of_nonneg residue]
  rw [intOf, beInt_length]
  generalize 256 ^ n = span at *
  rcases Int.lt_or_le v 0 with negative | positive
  · have wraps : v % span = v + span := by
      rw [← Int.add_emod_right, Int.emod_eq_of_lt (by omega) (by omega)]
    rw [if_neg (by omega)]; omega
  · have same : v % span = v := Int.emod_eq_of_lt positive (by omega)
    rw [if_pos (by omega)]; omega

theorem intAt_beInt {n : Nat} {v : Int} (low : -((256 ^ n : Nat) : Int) ≤ 2 * v) (high : 2 * v < (256 ^ n : Nat))
    (rest : List Byte) : intAt (beInt n v ++ rest) 0 n = v := by
  rw [intAt, fieldAt_head (beInt_length n v), intOf_beInt low high]

/-- A command that changes only the Discipline Unit and takes its data from it: the reply in preparation is no part of
either. -/
theorem request_onDisc {p : Port} {right : Right} (adm : Admits p right s) {tag : Byte} {run : State → Answer}
    {data : List Byte} {f : Discipline → Discipline} (runs : run (s.taking p tag) = taken data ((s.taking p tag).onDisc f)) :
    request p tag right run s = .next ((s.onDisc f).answered p tag .ok data) := by
  have moved : (s.taking p tag).onDisc f = (s.onDisc f).taking p tag := rfl
  rw [request_admitted adm, runs, moved, taken, finishReply_preparing (State.taking_reply ..), replyReady_taking]

/-- A command that is taken: its reply is put into the state that it leaves. -/
theorem request_takes {p : Port} {right : Right} (adm : Admits p right s) {tag : Byte} {run : State → Answer}
    {data : List Byte} {x : State} (runs : run (s.taking p tag) = taken data x) :
    request p tag right run s = .next (x.replied p tag data) := by
  rw [request_admitted adm, runs]; rfl

/-! ### SET_DISCIPLINE (R58) -/

/-- The settings as SET_DISCIPLINE spells them. -/
def DisciplineCfg.spelled (c : DisciplineCfg) : List Byte :=
  be 1 c.lossLimit ++ be 4 c.stepThreshold ++ be 4 c.slewConstant ++ be 4 c.freqConstant ++ be 1 c.lockCount ++
    be 4 c.lockWindow ++ be 4 c.unlockWindow ++ be 4 c.gbase ++ be 4 c.adriftLimit ++ be 4 c.refreshLimit ++
    be 4 c.windowLength ++ be 4 c.windowInterval ++ be 1 c.labelRate

/-- The settings fit into the fields that spell them. -/
structure DisciplineCfg.Fits (c : DisciplineCfg) : Prop where
  lossLimit : c.lossLimit < 2 ^ 8
  stepThreshold : c.stepThreshold < 2 ^ 32
  slewConstant : c.slewConstant < 2 ^ 32
  freqConstant : c.freqConstant < 2 ^ 32
  lockCount : c.lockCount < 2 ^ 8
  lockWindow : c.lockWindow < 2 ^ 32
  unlockWindow : c.unlockWindow < 2 ^ 32
  gbase : c.gbase < 2 ^ 32
  adriftLimit : c.adriftLimit < 2 ^ 32
  refreshLimit : c.refreshLimit < 2 ^ 32
  windowLength : c.windowLength < 2 ^ 32
  windowInterval : c.windowInterval < 2 ^ 32
  labelRate : c.labelRate < 2 ^ 8

theorem DisciplineCfg.spelled_length (c : DisciplineCfg) : c.spelled.length = 43 := by
  simp [spelled]

theorem disciplineOf_spelled {c : DisciplineCfg} (fits : c.Fits) : disciplineOf c.spelled = c := by
  obtain ⟨_, _, _, _, _, _, _, _, _, _, _, _, _⟩ := fits
  simp only [disciplineOf, DisciplineCfg.spelled, List.append_assoc, natAt_beyond, be_length, Nat.reduceLeDiff,
    Nat.reduceSub]
  simp (disch := assumption) only [natAt_be, natAt_be_only]

/-- The ranges and the relations of the discipline settings; a lock count fits into its byte (R58). -/
theorem DisciplineCfg.ok_iff {c : DisciplineCfg} (lockCount : c.lockCount < 2 ^ 8) : c.ok = true ↔
    (1 ≤ c.lossLimit ∧ c.lossLimit ≤ 16) ∧ (100 ≤ c.stepThreshold ∧ c.stepThreshold ≤ 1000000) ∧
      (1 ≤ c.slewConstant ∧ c.slewConstant ≤ 64) ∧ (16 ≤ c.freqConstant ∧ c.freqConstant ≤ 4096) ∧ 2 ≤ c.lockCount ∧
      (1 ≤ c.lockWindow ∧ c.lockWindow ≤ 10000) ∧ (c.lockWindow ≤ c.unlockWindow ∧ c.unlockWindow ≤ 100000) ∧
      (1 ≤ c.gbase ∧ c.gbase ≤ 1000) ∧ (1000 ≤ c.adriftLimit ∧ c.adriftLimit ≤ 4000000000) ∧
      (1000 ≤ c.refreshLimit ∧ c.refreshLimit < c.adriftLimit) ∧
      (60 ≤ c.windowLength ∧ c.windowLength ≤ 7200 ∧ c.windowLength < c.windowInterval) ∧
      (600 ≤ c.windowInterval ∧ c.windowInterval ≤ 86400) ∧ c.labelRate ≤ 3 := by
  have top : (2 ≤ c.lockCount ∧ c.lockCount ≤ 255) ↔ 2 ≤ c.lockCount := by omega
  unfold DisciplineCfg.ok
  simp only [Bool.and_eq_true, decide_eq_true_iff, top, and_assoc]

/-- SET_DISCIPLINE with settings that are spelled (R58). -/
theorem runSetDiscipline_spelled {c : DisciplineCfg} (fits : c.Fits) (s : State) : runSetDiscipline c.spelled s =
    if c.ok = true then taken [] (settle (s.onDisc fun d =>
      { d with cfg := c, label := if c.labelRate = d.cfg.labelRate then d.label else [] }))
    else refuse .outOfRange s := by
  unfold runSetDiscipline
  simp only [DisciplineCfg.spelled_length, disciplineOf_spelled fits, true_and]

/-! ### The run of bins (R55) -/

theorem natAt_byte (bs : List Byte) (b : Byte) (rest : List Byte) :
    natAt (bs ++ b :: rest) bs.length 1 = b.toNat := by
  simp [natAt, fieldAt, natOf]

/-- READ_TEMP_BINS by its two bytes (R55). -/
theorem runReadTempBins_eq (restart n : Byte) (s : State) : runReadTempBins [restart, n] s =
    if restart.toNat ≤ 1 ∧ 1 ≤ n.toNat ∧ n.toNat ≤ 8 then
      let start := startPointer restart.toNat s.disc
      let after := (start + n.toNat) % 16
      taken ((binRun start n.toNat).flatMap (fun i => binBytes (s.disc.bins.getD i { value := 0, count := 0 })) ++
        be 1 after) (s.onDisc fun d => { d with pointer := after })
    else refuse .outOfRange s := by
  have first : natAt [restart, n] 0 1 = restart.toNat := natAt_byte [] ..
  have second : natAt [restart, n] 1 1 = n.toNat := natAt_byte [restart] ..
  unfold runReadTempBins
  simp only [first, second, List.length_cons, List.length_nil, true_and]

/-! ### LOAD_TEMP_BINS (R55) -/

/-- The argument bytes of LOAD_TEMP_BINS. -/
def binsSpelled (restart : Byte) (entries : List TempBin) : List Byte := restart :: entries.flatMap binBytes

theorem binBytes_length (b : TempBin) : (binBytes b).length = 5 := by simp [binBytes]

theorem flatMap_binBytes_length (entries : List TempBin) : (entries.flatMap binBytes).length = 5 * entries.length := by
  induction entries with
  | nil => rfl
  | cons b rest ih => rw [List.flatMap_cons, List.length_append, binBytes_length, ih, List.length_cons]; omega

theorem binsSpelled_length (restart : Byte) (entries : List TempBin) :
    (binsSpelled restart entries).length = 1 + 5 * entries.length := by
  rw [binsSpelled, List.length_cons, flatMap_binBytes_length, Nat.add_comm]

/-- The bytes of a run of bins from one of them on. -/
theorem flatMap_binBytes_drop (entries : List TempBin) (i : Nat) :
    (entries.flatMap binBytes).drop (5 * i) = (entries.drop i).flatMap binBytes := by
  induction i generalizing entries with
  | zero => rfl
  | succ i ih =>
    cases entries with
    | nil => simp
    | cons b rest =>
      rw [List.flatMap_cons, List.drop_succ_cons, ← ih, Nat.mul_succ, Nat.add_comm, ← List.drop_drop,
        ← binBytes_length b, List.drop_left]

/-- A field of an entry stands in the request at the entry's place. -/
theorem fieldAt_binsSpelled (restart : Byte) {entries : List TempBin} {i : Nat} {b : TempBin} (entry : entries[i]? = some b)
    {k len : Nat} (inside : k + len ≤ 5) :
    fieldAt (binsSpelled restart entries) (1 + 5 * i + k) len = fieldAt (binBytes b) k len := by
  obtain ⟨bound, at_⟩ := List.getElem?_eq_some_iff.1 entry
  unfold fieldAt binsSpelled
  rw [Nat.add_comm 1, Nat.add_right_comm, List.drop_succ_cons, ← List.drop_drop, flatMap_binBytes_drop,
    List.drop_eq_getElem_cons bound, at_, List.flatMap_cons, List.drop_append_of_le_length (by rw [binBytes_length]; omega),
    List.take_append_of_le_length (by rw [List.length_drop, binBytes_length]; omega)]

/-- A bin fits into the five bytes that spell it. -/
def TempBin.Fits (b : TempBin) : Prop := -2 ^ 31 ≤ b.value ∧ b.value < 2 ^ 31 ∧ b.count < 256

theorem loadedBin_spelled (restart : Byte) {entries : List TempBin} {i : Nat} {b : TempBin}
    (entry : entries[i]? = some b) (fits : b.Fits) : loadedBin (binsSpelled restart entries) i = b := by
  obtain ⟨low, high, count⟩ := fits
  have value : intAt (binsSpelled restart entries) (1 + 5 * i) 4 = b.value :=
    (congrArg intOf (fieldAt_binsSpelled restart entry (k := 0) (len := 4) (by omega))).trans
      (intAt_beInt (n := 4) (by omega) (by omega) _)
  have uses : natAt (binsSpelled restart entries) (5 + 5 * i) 1 = b.count := by
    rw [show 5 + 5 * i = 1 + 5 * i + 4 by omega]
    refine (congrArg natOf (fieldAt_binsSpelled restart entry (k := 4) (len := 1) (by omega))).trans ?_
    exact (natAt_beyond (bs := beInt 4 b.value) (off := 4) (by simp) (be 1 b.count) 1).trans
      (by rw [beInt_length]; exact natAt_be_only (n := 1) count)
  unfold loadedBin
  rw [value, uses]

/-- A request of LOAD_TEMP_BINS is in its form and its ranges (R55). -/
theorem loadOk_spelled (restart : Byte) {entries : List TempBin} (fits : ∀ b ∈ entries, b.Fits) :
    loadOk (binsSpelled restart entries) entries.length = true ↔
      restart.toNat ≤ 1 ∧ 1 ≤ entries.length ∧ entries.length ≤ 8 ∧
        ∀ b ∈ entries, -5000000 ≤ b.value ∧ b.value ≤ 5000000 := by
  have first : natAt (binsSpelled restart entries) 0 1 = restart.toNat := natAt_byte [] ..
  have ranges : (∀ i < entries.length, -5000000 ≤ (loadedBin (binsSpelled restart entries) i).value ∧
      (loadedBin (binsSpelled restart entries) i).value ≤ 5000000) ↔
        ∀ b ∈ entries, -5000000 ≤ b.value ∧ b.value ≤ 5000000 := by
    rw [List.forall_mem_iff_forall_getElem]
    refine forall_congr' fun i => forall_congr' fun bound => ?_
    rw [loadedBin_spelled restart (List.getElem?_eq_getElem bound) (fits _ (List.getElem_mem bound))]
  unfold loadOk
  simp only [Bool.and_eq_true, decide_eq_true_iff, List.all_eq_true, List.mem_range, binsSpelled_length, true_and, first,
    ranges]
  tauto

/-- The table after the first `n` entries of a load from bin `start` on. -/
def binsLoaded (start : Nat) (entry : Nat → TempBin) (n : Nat) (bins : List TempBin) : List TempBin :=
  (List.range n).foldl (fun bins i => bins.set ((start + i) % 16) (entry i)) bins

/-- The entries stand in the table from bin `start` on, modulo 16, and no other bin moves (R55). -/
theorem binsLoaded_getElem? (start : Nat) (entry : Nat → TempBin) {n : Nat} (few : n ≤ 16) {bins : List TempBin}
    (table : bins.length = 16) (i : Nat) : (binsLoaded start entry n bins)[i]? =
      if i < 16 ∧ (i + 16 - start % 16) % 16 < n then some (entry ((i + 16 - start % 16) % 16)) else bins[i]? := by
  induction n with
  | zero => simp [binsLoaded]
  | succ n ih =>
    have set : binsLoaded start entry (n + 1) bins =
        (binsLoaded start entry n bins).set ((start + n) % 16) (entry n) := by
      rw [binsLoaded, List.range_succ, List.foldl_append]; rfl
    have size : (binsLoaded start entry n bins).length = 16 := (foldl_set_length ..).trans table
    rw [set, List.getElem?_set, ih (by omega), size]
    by_cases here : (start + n) % 16 = i
    · have place : (i + 16 - start % 16) % 16 = n := by omega
      rw [if_pos here, if_pos (by omega), if_pos (by omega), place]
    · have elsewhere : i < 16 → (i + 16 - start % 16) % 16 ≠ n := by omega
      rw [if_neg here]
      exact if_congr (by omega) rfl rfl

/-- LOAD_TEMP_BINS with entries that are spelled (R55). -/
theorem runLoadTempBins_spelled (restart : Byte) {entries : List TempBin} (fits : ∀ b ∈ entries, b.Fits) (s : State) :
    runLoadTempBins (binsSpelled restart entries) s =
      if restart.toNat ≤ 1 ∧ 1 ≤ entries.length ∧ entries.length ≤ 8 ∧
          ∀ b ∈ entries, -5000000 ≤ b.value ∧ b.value ≤ 5000000 then
        let start := startPointer restart.toNat s.disc
        let after := (start + entries.length) % 16
        taken (be 1 after) (s.onDisc fun d => { d with
          pointer := after
          bins := binsLoaded start (loadedBin (binsSpelled restart entries)) entries.length d.bins })
      else refuse .outOfRange s := by
  have count : ((binsSpelled restart entries).length - 1) / 5 = entries.length := by rw [binsSpelled_length]; omega
  have first : natAt (binsSpelled restart entries) 0 1 = restart.toNat := natAt_byte [] ..
  unfold runLoadTempBins
  rw [count, first]
  exact if_congr (loadOk_spelled restart fits) rfl rfl

theorem startPointer_byte (restart : Byte) (d : Discipline) :
    startPointer restart.toNat d = if restart = 1 then 0 else d.pointer :=
  if_congr (BitVec.toNat_inj (y := 1)) rfl rfl

/-- Settles O21: SET_DISCIPLINE through its spelled settings, and the two commands of the table by the run they cover. -/
theorem disciplineSettingsAndBins : Obligations.DisciplineSettingsAndBins := by
  refine ⟨fun p tag c s adm h1 h2 h3 h4 h5 h6 h7 h8 h9 h10 h11 h12 h13 => ?set,
    fun p tag restart n s adm bad => ?readBad, fun p tag restart entries s adm fits bad => ?loadBad,
    fun p tag restart n s restarts one few => ⟨fun adm => ?read, fun entries adm size ranges => ?load⟩⟩
  case set =>
    intro args ok
    have fits : c.Fits := ⟨h1, h2, h3, h4, h5, h6, h7, h8, h9, h10, h11, h12, h13⟩
    have runs := runSetDiscipline_spelled fits (s.taking p tag)
    refine ⟨fun h => ?_, fun h => ?_⟩
    · rw [if_pos ((DisciplineCfg.ok_iff h5).2 h)] at runs
      exact request_takes adm runs
    · rw [if_neg (mt (DisciplineCfg.ok_iff h5).1 h)] at runs
      exact request_answers adm runs
  case readBad =>
    refine request_answers adm ((runReadTempBins_eq ..).trans (if_neg ?_))
    omega
  case loadBad =>
    refine request_answers adm ((runLoadTempBins_spelled restart fits _).trans (if_neg ?_))
    rintro ⟨restarts, some, few, inside⟩
    rcases bad with h | h | h | ⟨b, mem, h⟩
    · omega
    · omega
    · omega
    · have := inside b mem; omega
  case read =>
    have runs := (runReadTempBins_eq restart n (s.taking p tag)).trans (if_pos ⟨restarts, one, few⟩)
    have done := request_onDisc adm runs
    simp only [startPointer_byte, binRun, List.flatMap_map] at done
    exact done
  case load =>
    intro args
    have fits : ∀ b ∈ entries, b.Fits := fun b mem => by
      obtain ⟨low, high, count⟩ := ranges b mem
      exact ⟨by omega, by omega, count⟩
    have runs := (runLoadTempBins_spelled restart fits (s.taking p tag)).trans (if_pos ⟨restarts, by omega, by omega,
      fun b mem => ⟨(ranges b mem).1, (ranges b mem).2.1⟩⟩)
    have done := request_onDisc adm runs
    simp only [startPointer_byte, size] at done
    refine ⟨_, done, rfl, fun table i => ?_⟩
    refine (binsLoaded_getElem? _ _ (n := n.toNat) (by omega) table i).trans (ite_congr rfl (fun inside => ?_) fun _ => rfl)
    obtain ⟨-, bound⟩ := inside
    rw [← size] at bound
    rw [List.getElem?_eq_getElem bound]
    exact congrArg some (loadedBin_spelled restart (List.getElem?_eq_getElem bound) (fits _ (List.getElem_mem bound)))

end Sys2Proof.Machine
end

section
/-! Loads as their requesters ask for them (R169, R172), the expiries of requests (R56, R168, R169), and the commands that set
the ceiling (R163) and the power settings (R173). -/

namespace Sys2Proof.Machine

variable {s : State}

/-! ### The load of a code (section 9.6) -/

/-- The byte that names a load. -/
def loadByte (l : Load) : Byte := BitVec.ofNat 8 (Load.code l)

theorem loadByte_eq (l : Load) : loadByte l =
    match l with | .sensor => 0 | .gnss => 1 | .recorder => 2 | .telemetry => 3 | .radio => 4 | .aux => 5 := by
  cases l <;> rfl

theorem Load.ofCode_loadByte (l : Load) : Load.ofCode (loadByte l).toNat = some l := by cases l <;> rfl

theorem Load.ofCode_beyond {n : Nat} (beyond : 5 < n) : Load.ofCode n = none := by
  unfold Load.ofCode
  split <;> first | omega | rfl

theorem natOf_single (b : Byte) : natOf [b] = b.toNat := by simp [natOf]

theorem Port.requester_eq (p : Port) : Port.requester p = match p with | .a => .portA | .b => .portB | .c => .portC := by
  cases p <;> rfl

/-! ### REQUEST_LOAD, RELEASE_LOAD and GET_LOAD (R169, R172) -/

theorem runRequestLoad_eq (p : Port) (code hi lo : Byte) (s : State) : runRequestLoad p [code, hi, lo] s =
    let n := hi.toNat * 256 + lo.toNat
    match Load.ofCode code.toNat with
    | none => refuse .outOfRange s
    | some l => writePortAsk p l (if n = 0 then .standing else .until (s.pace.seconds + n)) s := by
  have first : natAt [code, hi, lo] 0 1 = code.toNat := natAt_byte [] ..
  have time : natAt [code, hi, lo] 1 2 = hi.toNat * 256 + lo.toNat := by simp [natAt, fieldAt, natOf]
  unfold runRequestLoad
  rw [first, time]
  rfl

theorem runRequestLoad_takes (p : Port) (l : Load) (hi lo : Byte) (s : State) : runRequestLoad p [loadByte l, hi, lo] s =
    let n := hi.toNat * 256 + lo.toNat
    writePortAsk p l (if n = 0 then .standing else .until (s.pace.seconds + n)) s := by
  rw [runRequestLoad_eq, Load.ofCode_loadByte]

theorem runReleaseLoad_eq (p : Port) (code : Byte) (s : State) : runReleaseLoad p [code] s =
    match Load.ofCode code.toNat with
    | none => refuse .outOfRange s
    | some l => writePortAsk p l .absent s := by
  unfold runReleaseLoad
  rw [natOf_single]
  rfl

/-- A load's entry of the port and its state afterwards (R169). -/
theorem writePortAsk_eq (p : Port) (l : Load) (a : Ask) (s : State) : writePortAsk p l a s =
    let x := settle (setAsk l (Port.requester p) a s)
    taken (flagsByte [(x.pw.loads.get l).on, allowedLoad l x]) x := rfl

theorem askLeft_eq (seconds : Nat) (a : Ask) :
    askLeft seconds a = match a with | .absent => 0 | .standing => 0 | .until e => e - seconds := by cases a <;> rfl

theorem loadData_eq (l : Load) (s : State) : loadData l s =
    [loadByte l] ++ flagsByte [(s.pw.loads.get l).on, allowedLoad l s, decide (l = .radio) && s.pw.linkAlarm] ++
      flagsByte (allRequesters.map fun r => (s.pw.loads.get l).asks.get r != .absent) ++
      be 2 (s.pw.loads.get l).minOff ++ be 2 (s.pw.loads.get l).onCount ++
      allRequesters.flatMap fun r => be 2 (match (s.pw.loads.get l).asks.get r with
        | .absent => 0 | .standing => 0 | .until e => e - s.pace.seconds) := by
  have code : be 1 (Load.code l) = [loadByte l] := by cases l <;> rfl
  simp only [loadData, code, askLeft_eq, beq_eq_decide]

/-- GET_LOAD reads a load and changes nothing (R172). -/
theorem exec_getLoad {p : Port} {tag code : Byte} (adm : Admits p .read s) : exec (.getLoad p tag [code]) s =
    .next (match Load.ofCode code.toNat with
      | none => s.answered p tag .outOfRange []
      | some l => s.answered p tag .ok (loadData l s)) := by
  show request p tag .read (fun x => readBack ((Load.ofCode (natOf [code])).map fun l => loadData l x) x) s = _
  rw [natOf_single]
  cases Load.ofCode code.toNat with
  | none => exact request_answers adm rfl
  | some l => exact request_answers adm rfl

/-! ### Expiries (R56, R168, R169) -/

theorem exec_loadRequestExpiry {l : Load} {r : Requester} {e : Nat} (released : s.pace.held = false)
    (asks : (s.pw.loads.get l).asks.get r = .until e) (past : e ≤ s.pace.seconds) :
    exec (.loadRequestExpiry l r) s =
      .next (settle (if l = .gnss ∧ r = .timebase then expireGnss s else setAsk l r .absent s)) :=
  takeEvent_due (due := expiryDue l r)
    (effect := fun x => settle (if l = .gnss ∧ r = .timebase then expireGnss x else setAsk l r .absent x)) released
    (by simp [expiryDue, asks, past])

theorem unexpired_unexpired (seconds : Nat) (e : Option Nat) :
    unexpired seconds (unexpired seconds e) = unexpired seconds e := by
  cases e with
  | none => rfl
  | some x => by_cases later : seconds < x <;> simp [unexpired, later]

/-- The expired requests are gone, and the later of those left is asked for (R56). -/
theorem expireGnss_eq (s : State) :
    let window := unexpired s.pace.seconds s.disc.window
    let refresh := unexpired s.pace.seconds s.disc.refresh
    expireGnss s = setAsk .gnss .timebase
      (if s.disc.continuous then .standing
       else if window = none ∧ refresh = none then .absent
       else .until (max (window.getD 0) (refresh.getD 0)))
      (s.onDisc fun d => { d with window := window, refresh := refresh }) := by
  intro window refresh
  have ask := timebaseAsk_eq { s.disc with window := window, refresh := refresh } s.pace.seconds
  simp only [window, refresh, unexpired_unexpired] at ask
  exact congrArg (fun a => setAsk .gnss .timebase a _) ask

/-! ### SET_CEILING (R163) -/

theorem setCeilingTo_eq (l : Level) (s : State) :
    let x := s.onPw fun pw => { pw with ceiling := l }
    setCeilingTo l s = match s.pw.level with
      | none => x
      | some now => if now ≠ .dormant ∧ s.pw.lastGasp = none ∧ now.code < l.code then changeLevel l true x else x := by
  intro x
  have lowers (now : Level) : (l.below now && s.pw.lastGasp.isNone) = true ↔ s.pw.lastGasp = none ∧ now.code < l.code := by
    simp [Level.below, and_comm]
  unfold setCeilingTo
  cases s.pw.level with
  | none => rfl
  | some now => cases now <;> simp only [lowers] <;> simp <;> rfl

theorem runSetCeiling_eq (code : Byte) (s : State) : runSetCeiling [code] s =
    if code.toNat ≤ 3 then
      taken [] (settle (setCeilingTo
        (if code = 0 then .full else if code = 1 then .reduced else if code = 2 then .survival else .critical) s))
    else refuse .outOfRange s := by
  have is (n : Byte) : code = n ↔ code.toNat = n.toNat := BitVec.toNat_inj.symm
  unfold runSetCeiling
  simp only [natOf_single, is]
  generalize code.toNat = n
  match n with
  | 0 | 1 | 2 | 3 => rfl
  | n + 4 => simp [Level.ofCeilingCode]

/-! ### SET_POWER (R173) -/

/-- The settings as SET_POWER spells them. -/
def PowerCfg.spelled (c : PowerCfg) : List Byte :=
  be 2 c.cap ++ be 2 c.accept ++ be 2 c.startSoc ++ be 2 c.vfull ++ be 2 c.itaper ++ be 2 c.vempty ++ be 2 c.vcrit ++
    be 2 c.vcutoff ++ be 2 c.vrestart ++ be 2 c.sourcePresent ++ beInt 2 c.chargeMin ++ beInt 2 c.chargeMax ++
    be 2 c.minDwell ++ be 2 c.eventWake ++ be 2 c.minOff ++ be 2 c.urgentFloor ++ be 2 c.routineFloor ++ [c.standing]

/-- The settings fit into the fields that spell them. -/
structure PowerCfg.Fits (c : PowerCfg) : Prop where
  cap : c.cap < 2 ^ 16
  accept : c.accept < 2 ^ 16
  startSoc : c.startSoc < 2 ^ 16
  vfull : c.vfull < 2 ^ 16
  itaper : c.itaper < 2 ^ 16
  vempty : c.vempty < 2 ^ 16
  vcrit : c.vcrit < 2 ^ 16
  vcutoff : c.vcutoff < 2 ^ 16
  vrestart : c.vrestart < 2 ^ 16
  sourcePresent : c.sourcePresent < 2 ^ 16
  chargeMin : -2 ^ 15 ≤ c.chargeMin ∧ c.chargeMin < 2 ^ 15
  chargeMax : -2 ^ 15 ≤ c.chargeMax ∧ c.chargeMax < 2 ^ 15
  minDwell : c.minDwell < 2 ^ 16
  eventWake : c.eventWake < 2 ^ 16
  minOff : c.minOff < 2 ^ 16
  urgentFloor : c.urgentFloor < 2 ^ 16
  routineFloor : c.routineFloor < 2 ^ 16

theorem PowerCfg.spelled_length (c : PowerCfg) : c.spelled.length = 35 := by simp [spelled]

theorem powerCfgOf_spelled {c : PowerCfg} (fits : c.Fits) : powerCfgOf c.spelled = c := by
  obtain ⟨_, _, _, _, _, _, _, _, _, _, ⟨minLow, minHigh⟩, ⟨maxLow, maxHigh⟩, _, _, _, _, _⟩ := fits
  have byte : natAt [c.standing] 0 1 = c.standing.toNat := natAt_byte [] ..
  have chargeMin := intAt_beInt (n := 2) (v := c.chargeMin) (by omega) (by omega)
  have chargeMax := intAt_beInt (n := 2) (v := c.chargeMax) (by omega) (by omega)
  simp only [powerCfgOf, PowerCfg.spelled, List.append_assoc, natAt_beyond, intAt_beyond, be_length, beInt_length,
    Nat.reduceLeDiff, Nat.reduceSub, chargeMin, chargeMax, byte, BitVec.ofNat_toNat, BitVec.setWidth_eq]
  simp (disch := assumption) only [natAt_be]

/-- The ranges and the relations of the power settings; the capacity fits into its bytes (R173). -/
theorem PowerCfg.ok_iff {c : PowerCfg} (cap : c.cap < 2 ^ 16) : (c.inRange = true ∧ c.related = true) ↔
    1 ≤ c.cap ∧ (200 ≤ c.accept ∧ c.accept ≤ 256) ∧ c.startSoc ≤ 1000 ∧ (12000 ≤ c.vfull ∧ c.vfull ≤ 16000) ∧
      c.itaper ≤ 5000 ∧ (9000 ≤ c.vempty ∧ c.vempty ≤ 12500) ∧ (9500 ≤ c.vcrit ∧ c.vcrit ≤ 13000) ∧
      (9000 ≤ c.vcutoff ∧ c.vcutoff ≤ 12500) ∧ (10000 ≤ c.vrestart ∧ c.vrestart ≤ 14000) ∧
      (5000 ≤ c.sourcePresent ∧ c.sourcePresent ≤ 40000) ∧ (-400 ≤ c.chargeMin ∧ c.chargeMin ≤ 600) ∧
      (-400 ≤ c.chargeMax ∧ c.chargeMax ≤ 600) ∧ c.minDwell ≤ 3600 ∧ (60 ≤ c.eventWake ∧ c.eventWake ≤ 3600) ∧
      c.minOff ≤ 600 ∧ c.urgentFloor ≤ 1000 ∧ c.routineFloor ≤ 1000 ∧ c.vcutoff < c.vcrit ∧ c.vcrit < c.vrestart ∧
      c.vempty < c.vfull ∧ c.chargeMin < c.chargeMax ∧ c.urgentFloor ≤ c.routineFloor ∧ c.standing.getLsbD 0 = true ∧
      c.standing.getLsbD 6 = false ∧ c.standing.getLsbD 7 = false := by
  have top : (1 ≤ c.cap ∧ c.cap ≤ 65535) ↔ 1 ≤ c.cap := by omega
  unfold PowerCfg.inRange PowerCfg.related
  simp only [Bool.and_eq_true, decide_eq_true_iff, Bool.not_eq_true', top, and_assoc]

/-- Cap, the standing loads and the floors act at once, and a change of Cap sets Q and UNVERIFIED (R157, R173). -/
theorem Power.withCfg_eq (c : PowerCfg) (pw : Power) : pw.withCfg c = { pw with
    cfg := c
    act := { pw.act with
      cap := c.cap, standing := c.standing, urgentFloor := c.urgentFloor, routineFloor := c.routineFloor }
    q := if c.cap = pw.cfg.cap then pw.q else c.startSoc * (c.cap * 36000) / 1000
    unverified := pw.unverified || decide (c.cap ≠ pw.cfg.cap) } := by
  unfold withCfg
  by_cases same : c.cap = pw.cfg.cap <;> simp [same, qmax]

/-- SET_POWER with settings that are spelled (R173). -/
theorem runSetPower_spelled {c : PowerCfg} (fits : c.Fits) (s : State) : runSetPower c.spelled s =
    if c.inRange = true ∧ c.related = true then
      taken [] (settle (if s.pw.level.isSome then formStanding (s.onPw (Power.withCfg c)) else s.onPw (Power.withCfg c)))
    else refuse .outOfRange s := by
  unfold runSetPower
  simp only [PowerCfg.spelled_length, powerCfgOf_spelled fits, true_and]

/-- Settles O51, command by command. -/
theorem loadRequestsAndPowerSettings : Obligations.LoadRequestsAndPowerSettings := by
  refine ⟨?loads, fun p tag code s adm => ?ceiling, fun p tag c s adm => ?power⟩
  case loads =>
    intro codeOf mine state
    have codes : codeOf = loadByte := funext fun l => (loadByte_eq l).symm
    have ports : mine = Port.requester := funext fun p => (Port.requester_eq p).symm
    rw [codes, ports]
    refine ⟨fun p tag l hi lo s adm => ?_, fun p tag l s adm => ?_, fun p tag code hi lo s adm beyond => ⟨?_, ?_⟩,
      fun l r e s released asks past other => ?_, fun e s released asks past => ?_, fun l s released due => ?_,
      fun p tag l s adm => ?_, fun p tag code s adm beyond => ?_⟩
    · have runs := runRequestLoad_takes p l hi lo (s.taking p tag)
      rw [writePortAsk_eq] at runs
      rw [show (s.taking p tag).pace.seconds = s.pace.seconds from rfl] at runs
      exact request_takes adm runs
    · exact request_takes adm ((runReleaseLoad_eq ..).trans (by rw [Load.ofCode_loadByte]; rfl))
    · exact request_answers adm ((runRequestLoad_eq ..).trans (by rw [Load.ofCode_beyond beyond]; rfl))
    · exact request_answers adm ((runReleaseLoad_eq ..).trans (by rw [Load.ofCode_beyond beyond]; rfl))
    · rw [exec_loadRequestExpiry released asks past, if_neg other]
    · intro left window refresh
      have lefts (o : Option Nat) : left o = unexpired s.pace.seconds o := (unexpired_eq ..).symm
      rw [exec_loadRequestExpiry (l := .gnss) (r := .timebase) released asks past, if_pos ⟨rfl, rfl⟩, expireGnss_eq]
      simp only [window, refresh, lefts]
    · exact takeEvent_due (due := fun x => (x.pw.loads.get l).onDue)
        (effect := fun x => settle (x.onLoad l fun y => { y with onDue := false })) released due
    · rw [exec_getLoad adm, Load.ofCode_loadByte]
      simp only [loadData_eq] <;> rfl
    · rw [exec_getLoad adm, Load.ofCode_beyond beyond]
  case ceiling =>
    intro l x
    have runs := runSetCeiling_eq code (s.taking p tag)
    refine ⟨fun beyond => ?_, fun known => ?_⟩
    · exact request_answers adm (runs.trans (if_neg (Nat.not_le_of_lt beyond)))
    · rw [if_pos known, setCeilingTo_eq] at runs
      exact request_takes adm runs
  case power =>
    intro h1 h2 h3 h4 h5 h6 h7 h8 h9 h10 minLow minHigh maxLow maxHigh h13 h14 h15 h16 h17 args ok written station
    have fits : c.Fits := ⟨h1, h2, h3, h4, h5, h6, h7, h8, h9, h10, ⟨minLow, minHigh⟩, ⟨maxLow, maxHigh⟩, h13, h14, h15,
      h16, h17⟩
    have runs := runSetPower_spelled fits (s.taking p tag)
    have wrote : (s.taking p tag).onPw (Power.withCfg c) = written :=
      congrArg (fun pw => { s.taking p tag with pw := pw }) (Power.withCfg_eq c s.pw)
    rw [wrote] at runs
    refine ⟨fun bad => ?_, fun good none => ?_, fun good some => ?_⟩
    · exact request_answers adm (runs.trans (if_neg (mt (PowerCfg.ok_iff h1).1 bad)))
    · rw [if_pos ((PowerCfg.ok_iff h1).2 good), if_neg (by simp [show (s.taking p tag).pw = s.pw from rfl, none])] at runs
      exact request_takes adm runs
    · rw [if_pos ((PowerCfg.ok_iff h1).2 good), if_pos (show (s.taking p tag).pw.level.isSome = true from Option.isSome_iff_ne_none.2 some)] at runs
      exact request_takes adm runs

end Sys2Proof.Machine
end

section
/-! When a load turns OFF (R25, R73, R167): what SENSOR's turn-off makes of a channel 4 that has stopped before. -/

namespace Sys2Proof.Machine

/-- SENSOR is ON with no level set, so it is not allowed, and channel 4 is OFF with a next match and no pending values. -/
def staleStream : State := { State.reset with
  pw := { State.reset.pw with loads := State.reset.pw.loads.update .sensor fun x => { x with on := true } }
  ccu := { State.reset.ccu with ch4 := { State.reset.ccu.ch4 with next := 1 } } }

/-- A stop leaves a channel that is OFF as it is, its next match included (R25). -/
theorem formLoad_staleStream : (formLoad .sensor staleStream).ccu.ch4 = staleStream.ccu.ch4 := by decide

/-- Refutes O50: its SENSOR clause has channel 4 end with next match 0, for every state; in `staleStream` channel 4 is
already OFF with next match 1, and the stop of R25 leaves it so. -/
theorem not_loadsFollowTheirRequests : ¬Obligations.LoadsFollowTheirRequests := by
  intro holds
  obtain ⟨-, -, -, -, -, turnsOff⟩ := holds .sensor staleStream
  have unset : staleStream.pw.level = none := rfl
  obtain ⟨-, -, -, -, sensor, -⟩ := turnsOff (by rintro ⟨⟨level, _, set, -⟩, -⟩; simp [unset] at set) rfl
  have next := congrArg (fun t : State => t.ccu.ch4.next) (sensor rfl (by simp [staleStream, State.reset, State.cold,
    Detector.cold]))
  rw [formLoad_staleStream] at next
  exact absurd next (by decide)

end Sys2Proof.Machine
end

section
/-! The two watchers of a level, the Heater Controller with its caps (R177) and the Detector with its channels (R91, R96):
what each makes of the state but for its edges, records and notices, and that neither clears LEVEL_CHANGED (R105). -/

namespace Sys2Proof.Machine

variable {s t : State}

/-! ### The outline of a state: what an edge of a heater, an update of a record and a ROUTINE notice leave alone -/

/-- A paired channel without its output. -/
def Paired.outline (c : Paired) : Paired := { c with output := false, hold := false }

/-- A thermostat without its edges. -/
def Thermostat.outline (u : Thermostat) : Thermostat := { u with deferral := .none, edges := 0, lastEdge := none }

/-- The state without the outputs, the event records, the notice slots, the notifications and the marks of a probe; of
the Detector only the channels with their settings are in it. -/
def State.outline (s : State) : State :=
  { s with
    acq := .cold, ev := .cold, nt := .cold
    ports := s.ports.map fun r => { r with notices := 0 }
    det := { Detector.cold with params := s.det.params, channels := s.det.channels }
    link := { s.link with probeDue := false, probeAlarm := false, earlyUsed := false }
    ccu := { s.ccu with heaters := ⟨s.ccu.heaters.hb.outline, s.ccu.heaters.ho.outline⟩ }
    ht := { s.ht with quiet := false, units := ⟨s.ht.units.hb.outline, s.ht.units.ho.outline⟩ } }

theorem onPaired_outline {f : Paired → Paired} (kept : ∀ c, (f c).outline = c.outline) (h : Heater) (s : State) :
    (onPaired h f s).outline = s.outline := by
  cases h <;> simp only [State.outline, onPaired, State.onCcu, PerHeater.update, kept]

theorem onThermostat_outline {f : Thermostat → Thermostat} (kept : ∀ u, (f u).outline = u.outline) (h : Heater)
    (s : State) : (onThermostat h f s).outline = s.outline := by
  cases h <;> simp only [State.outline, onThermostat, State.onHt, PerHeater.update, kept]

@[simp] theorem driveOutput_outline (h : Heater) (level : Bool) (x : Time) (switched : Bool) (s : State) :
    (driveOutput h level x switched s).outline = s.outline := by
  have edge : (onThermostat h (fun u => { u with edges := rollInc seqSpan u.edges, lastEdge := some x })
      (onPaired h (fun p => { p with output := level }) s)).outline = s.outline :=
    (onThermostat_outline (by intro; rfl) ..).trans (onPaired_outline (by intro; rfl) ..)
  unfold driveOutput; dsimp only
  split
  · rfl
  · split <;> exact edge

@[simp] theorem quietHeater_outline (h : Heater) (quiet : Bool) (s : State) :
    (quietHeater h quiet s).outline = s.outline := by
  have deferral (d : Deferral) (x : State) : (onThermostat h (fun u => { u with deferral := d }) x).outline = x.outline :=
    onThermostat_outline (by intro; rfl) ..
  have hold (b : Bool) (x : State) : (onPaired h (fun p => { p with hold := b }) x).outline = x.outline :=
    onPaired_outline (by intro; rfl) ..
  unfold quietHeater; dsimp only
  split
  · split
    · rw [hold, deferral]
    · rfl
  · split
    · rw [driveOutput_outline, hold, deferral]
    · rw [hold, deferral]

@[simp] theorem formQuiet_outline (s : State) : (formQuiet s).outline = s.outline := by
  unfold formQuiet; dsimp only
  split
  · rfl
  · rw [reportQuiet, quietHeater_outline, quietHeater_outline]; rfl

@[simp] theorem waitAgain_outline (n : Nat) (s : State) : (waitAgain n s).outline = s.outline := by
  unfold waitAgain alarmWaiting; dsimp only
  split
  · split <;> rfl
  · rfl

/-- A slot for a request that is no ALARM displaces nothing (R134). -/
theorem obtainSlot_below {c : NoticeClass} (below : c ≠ .alarm) (s : State) : (obtainSlot c s).1 = s := by
  unfold obtainSlot
  split
  · rfl
  · rw [if_neg below]

theorem requestNotice_outline {a : NoticeAsk} (below : a.cls ≠ .alarm) (s : State) :
    (requestNotice a s).1.outline = s.outline := by
  have obtained := obtainSlot_below below s
  unfold requestNotice
  generalize obtainSlot a.cls s = o at obtained
  obtain ⟨x, slot⟩ := o
  obtain rfl : x = s := obtained
  cases slot with
  | none => cases a.event <;> rfl
  | some n => cases e : a.event <;> exact waitAgain_outline ..

@[simp] theorem handUpdate_outline (s : State) : (handUpdate s).outline = s.outline := by
  unfold handUpdate; split <;> rfl

@[simp] theorem closeIfDone_outline (x : Time) (frame : Nat) (s : State) : (closeIfDone x frame s).outline = s.outline := by
  unfold closeIfDone
  split
  · split
    · rfl
    · rfl
    · exact requestNotice_outline (show NoticeClass.routine ≠ .alarm from nofun) _
  · rfl

@[simp] theorem afterChannelChange_outline (s : State) : (afterChannelChange s).outline = s.outline := by
  simp only [afterChannelChange, formQuiet_outline, closeIfDone_outline, handUpdate_outline]

/-! ### The caps at a level (R177) -/

/-- A paired channel under a new cap: a fall is a cut of that value (R31). -/
def Paired.cappedBy (old new : Nat) (c : Paired) : Paired := if new < old ∧ new ≤ 64 then c.cutTo new else c

/-- A thermostat under a new cap: a fall lowers the computed duty. -/
def Thermostat.cappedBy (new : Nat) (u : Thermostat) : Thermostat :=
  { u with cap := new, computed := if new < u.cap then min u.computed new else u.computed }

/-- One heater under the cap in force, without the edge of a cut. -/
def capOne (h : Heater) (s : State) : State :=
  onPaired h (Paired.cappedBy (s.ht.units.get h).cap (capFor h s.ht))
    (onThermostat h (Thermostat.cappedBy (capFor h s.ht)) s)

theorem Paired.cappedBy_outline (old new : Nat) (c : Paired) :
    (c.cappedBy old new).outline = c.outline.cappedBy old new := by
  unfold Paired.cappedBy; split <;> rfl

/-- The edge of a cut is outside the outline. -/
theorem cutHeater_outline (h : Heater) (v : Nat) (s : State) :
    (cutHeater h v s).outline = (if v ≤ 64 then onPaired h (Paired.cutTo v) s else s).outline := by
  unfold cutHeater; dsimp only
  by_cases wide : 64 < v
  · rw [if_pos wide, if_neg (Nat.not_le.2 wide)]
  · rw [if_neg wide, if_pos (Nat.not_lt.1 wide)]
    split
    · exact driveOutput_outline ..
    · rfl

theorem capOne_outline (h : Heater) (s : State) : (capOne h s).outline = capOne h s.outline := by
  cases h <;>
    simp only [capOne, State.outline, onPaired, onThermostat, State.onCcu, State.onHt, PerHeater.update, PerHeater.get,
      Paired.cappedBy_outline] <;> rfl

theorem onThermostat_congr {f g : Thermostat → Thermostat} {h : Heater} (e : f (s.ht.units.get h) = g (s.ht.units.get h)) :
    onThermostat h f s = onThermostat h g s :=
  congrArg (fun units => { s with ht := { s.ht with units := units } }) (PerHeater.update_congr e)

theorem formCap_outline (h : Heater) (s : State) : (formCap h s).outline = capOne h s.outline := by
  rw [← capOne_outline]
  have stays (x : State) : onPaired h (fun c => c) x = x := by cases h <;> rfl
  show (if capFor h s.ht < (s.ht.units.get h).cap then _ else _ : State).outline = _
  unfold capOne
  by_cases falls : capFor h s.ht < (s.ht.units.get h).cap
  · have lowers : onThermostat h (Thermostat.cappedBy (capFor h s.ht)) s =
        onThermostat h (fun u => { u with cap := capFor h s.ht, computed := min u.computed (capFor h s.ht) }) s :=
      onThermostat_congr (by rw [Thermostat.cappedBy, if_pos falls])
    rw [if_pos falls, cutHeater_outline, lowers]
    by_cases within : capFor h s.ht ≤ 64
    · have cut : Paired.cappedBy (s.ht.units.get h).cap (capFor h s.ht) = Paired.cutTo (capFor h s.ht) :=
        funext fun c => if_pos ⟨falls, within⟩
      rw [if_pos within, cut]
    · have uncut : Paired.cappedBy (s.ht.units.get h).cap (capFor h s.ht) = fun c => c :=
        funext fun c => if_neg fun e => within e.2
      rw [if_neg within, uncut, stays]
  · have lets : onThermostat h (Thermostat.cappedBy (capFor h s.ht)) s =
        onThermostat h (fun u => { u with cap := capFor h s.ht }) s :=
      onThermostat_congr (by rw [Thermostat.cappedBy, if_neg falls])
    rw [if_neg falls, lets]
    have uncut : Paired.cappedBy (s.ht.units.get h).cap (capFor h s.ht) = fun c => c :=
      funext fun c => if_neg fun e => falls e.1
    rw [uncut, stays]

theorem formCaps_outline (s : State) : (formCaps s).outline = capOne .ho (capOne .hb s.outline) := by
  rw [formCaps, formCap_outline, formCap_outline]

/-! ### The channels at a level (R78, R91, R96) -/

/-- A channel at the entry to CRITICAL or DORMANT. -/
def Channel.shed (p : ChannelCfg) (c : Channel) : Channel := if p.critical then c else { c with state := .off }

/-- A channel at the return from CRITICAL or DORMANT. -/
def Channel.woken (p : ChannelCfg) (c : Channel) : Channel :=
  if p.critical = false ∧ p.enabled = true ∧ c.state = .off then { c with state := .warmup, warm := 0 } else c

/-- A participant's entry when channel `ch` is shed: the entry of a trigger that runs there ends. -/
def Participant.shedAt (ch : Nat) (k : ChannelCfg) (c : Channel) (p : Participant) : Participant :=
  if k.critical = false ∧ c.state = .triggered ∧ p.channel = ch ∧ p.reason = none then p.finish .reconfigured c else p

theorem shedChannel_eq (d : Detector) (ch : Nat) : shedChannel d ch = { d with
    channels := d.channels.update ch (Channel.shed (d.params.get ch))
    participants := d.participants.map (Participant.shedAt ch (d.params.get ch) (d.channels.get ch)) } := by
  have same (x : Six Channel) : x.update ch (fun c => c) = x := by unfold Six.update; split <;> rfl
  unfold shedChannel endTrigger Channel.shed Participant.shedAt
  by_cases critical : (d.params.get ch).critical = true
  · simp [critical, same]
  · by_cases triggered : (d.channels.get ch).state = .triggered <;> simp [critical, triggered]

theorem wakeChannel_eq (d : Detector) (ch : Nat) : wakeChannel d ch =
    { d with channels := d.channels.update ch (Channel.woken (d.params.get ch)) } := by
  have same (x : Six Channel) : x.update ch (fun c => c) = x := by unfold Six.update; split <;> rfl
  unfold wakeChannel Channel.woken
  by_cases stays : (d.params.get ch).critical = true ∨ (d.params.get ch).enabled = false
  · rcases stays with e | e <;> simp [e, same]
  · obtain ⟨outside, enabled⟩ := not_or.1 stays
    simp only [Bool.not_eq_true, Bool.not_eq_false] at outside enabled
    simp [outside, enabled, Channel.restart]

theorem Participant.shedAt_channel (ch : Nat) (k : ChannelCfg) (c : Channel) (p : Participant) :
    (p.shedAt ch k c).channel = p.channel := by unfold Participant.shedAt; split <;> rfl

theorem Participant.shedAt_other {ch : Nat} {p : Participant} (other : p.channel ≠ ch) (k : ChannelCfg) (c : Channel) :
    p.shedAt ch k c = p := if_neg fun ⟨_, _, own, _⟩ => other own

/-- Every participant's entry is ended by its own channel only. -/
theorem foldl_shedAt (d : Detector) {p : Participant} (low : 1 ≤ p.channel) (high : p.channel ≤ 6) :
    channelNumbers.foldl (fun p ch => p.shedAt ch (d.params.get ch) (d.channels.get ch)) p =
      p.shedAt p.channel (d.params.get p.channel) (d.channels.get p.channel) := by
  have own : p.channel = 1 ∨ p.channel = 2 ∨ p.channel = 3 ∨ p.channel = 4 ∨ p.channel = 5 ∨ p.channel = 6 := by omega
  rcases own with e | e | e | e | e | e <;>
    simp [channelNumbers, Participant.shedAt_other, Participant.shedAt_channel, e]

theorem foldl_wakeChannel (d : Detector) : channelNumbers.foldl wakeChannel d =
    { d with channels := d.channels.map fun ch c => c.woken (d.params.get ch) } := by
  simp only [channelNumbers, List.foldl_cons, List.foldl_nil, wakeChannel_eq]
  rfl

theorem foldl_shedChannel (d : Detector) : channelNumbers.foldl shedChannel d = { d with
    channels := d.channels.map fun ch c => c.shed (d.params.get ch)
    participants := d.participants.map fun p =>
      channelNumbers.foldl (fun p ch => p.shedAt ch (d.params.get ch) (d.channels.get ch)) p } := by
  obtain ⟨params, ⟨c1, c2, c3, c4, c5, c6⟩, _⟩ := d
  simp only [channelNumbers, List.foldl_cons, List.foldl_nil, shedChannel_eq, Six.update, Six.get, Six.map, List.map_map,
    Function.comp_def]

/-- The channels at a change of level. -/
def levelChannels (old new : Option Level) (params : Six ChannelCfg) (x : Six Channel) : Six Channel :=
  if shedLevel new && !shedLevel old then x.map fun ch c => c.shed (params.get ch)
  else if shedLevel old && !shedLevel new then x.map fun ch c => c.woken (params.get ch)
  else x

/-- The state with its channels at a change of level. -/
def channelsAt (old new : Option Level) (s : State) : State :=
  { s with det := { s.det with channels := levelChannels old new s.det.params s.det.channels } }

theorem shedLevel_iff (l : Option Level) : shedLevel l = true ↔ l = some .critical ∨ l = some .dormant := by
  simp [shedLevel]

theorem detectorLevel_sheds {old new : Option Level} (now : shedLevel new = true) (before : shedLevel old = false)
    (s : State) : detectorLevel old new s = afterChannelChange (s.onDet fun d => channelNumbers.foldl shedChannel d) := by
  simp [detectorLevel, now, before]

theorem detectorLevel_wakes {old new : Option Level} (now : shedLevel new = false) (before : shedLevel old = true)
    (s : State) : detectorLevel old new s = s.onDet fun d => channelNumbers.foldl wakeChannel d := by
  simp [detectorLevel, now, before]

theorem detectorLevel_same {old new : Option Level} (same : shedLevel new = shedLevel old) (s : State) :
    detectorLevel old new s = s := by
  simp [detectorLevel, same]

theorem detectorLevel_outline (old new : Option Level) (s : State) :
    (detectorLevel old new s).outline = channelsAt old new s.outline := by
  cases now : shedLevel new <;> cases before : shedLevel old
  case true.false =>
    rw [detectorLevel_sheds now before, afterChannelChange_outline]
    simp only [State.onDet, foldl_shedChannel, channelsAt, levelChannels, now, before]
    rfl
  case false.true =>
    rw [detectorLevel_wakes now before]
    simp only [State.onDet, foldl_wakeChannel, channelsAt, levelChannels, now, before]
    rfl
  all_goals
    rw [detectorLevel_same (now.trans before.symm)]
    simp only [channelsAt, levelChannels, now, before]
    rfl

/-! ### LEVEL_CHANGED on the OPEN record (R105) -/

/-- Every OPEN record carries LEVEL_CHANGED. -/
def LevelFlagged (s : State) : Prop := ∀ r ∈ s.ev.records, r.closed = false → r.levelChanged = true

/-- A change of records that opens none and clears no LEVEL_CHANGED. -/
structure KeepsLevelFlag (f : Record → Record) : Prop where
  closed : ∀ r, (f r).closed = false → r.closed = false
  flag : ∀ r, r.levelChanged = true → (f r).levelChanged = true

theorem LevelFlagged.map {f : Record → Record} (kept : KeepsLevelFlag f) (flagged : LevelFlagged s)
    (records : t.ev.records = s.ev.records.map f) : LevelFlagged t := by
  intro r mem opened
  rw [records] at mem
  obtain ⟨x, inRecords, rfl⟩ := List.mem_map.1 mem
  exact kept.flag x (flagged x inRecords (kept.closed x opened))

theorem revised_closed (old new : Record) : (revised old new).closed = new.closed := by
  unfold revised; split <;> rfl

theorem revised_levelChanged (old new : Record) : (revised old new).levelChanged = new.levelChanged := by
  unfold revised; split <;> rfl

theorem updateOpen_flagged {f : Record → Record} (kept : KeepsLevelFlag f) (flagged : LevelFlagged s) :
    LevelFlagged (updateOpen f s) := by
  refine flagged.map ⟨fun r opened => ?_, fun r flag => ?_⟩ rfl
  · revert opened; split
    · exact id
    · rw [revised_closed]; exact kept.closed r
  · split
    · exact flag
    · rw [revised_levelChanged]; exact kept.flag r flag

theorem updateRecord_flagged {seq : Nat} {f : Record → Record} (kept : KeepsLevelFlag f) (flagged : LevelFlagged s) :
    LevelFlagged (updateRecord seq f s) := by
  refine flagged.map ⟨fun r opened => ?_, fun r flag => ?_⟩ rfl
  · revert opened; split
    · split
      · exact kept.closed r
      · rw [revised_closed]; exact kept.closed r
    · exact id
  · split
    · split
      · exact kept.flag r flag
      · rw [revised_levelChanged]; exact kept.flag r flag
    · exact flag

theorem closeRecord_flagged (seq : Nat) (x : Time) (flagged : LevelFlagged s) : LevelFlagged (closeRecord seq x s) := by
  refine flagged.map ⟨fun r opened => ?_, fun r flag => ?_⟩ rfl
  · revert opened; split
    · exact nofun
    · exact id
  · split <;> exact flag

/-- The report of a level sets the flag on whatever record is OPEN. -/
theorem flagLevelChanged_flagged (s : State) : LevelFlagged (flagLevelChanged s) := by
  intro r mem opened
  obtain ⟨x, -, rfl⟩ := List.mem_map.1 mem
  revert opened
  dsimp only
  split
  next closed => exact fun opened => absurd closed (by simp [opened])
  next => exact fun _ => revised_levelChanged ..

theorem driveOutput_flagged {h : Heater} {level : Bool} {x : Time} {switched : Bool} (flagged : LevelFlagged s) :
    LevelFlagged (driveOutput h level x switched s) := by
  unfold driveOutput; dsimp only
  split
  · exact flagged
  · split
    · exact updateOpen_flagged ⟨fun _ => id, fun _ => id⟩ flagged
    · exact flagged

theorem cutHeater_flagged {h : Heater} {v : Nat} (flagged : LevelFlagged s) : LevelFlagged (cutHeater h v s) := by
  unfold cutHeater; dsimp only
  split
  · exact flagged
  · split
    · exact driveOutput_flagged flagged
    · exact flagged

theorem formCap_flagged {h : Heater} (flagged : LevelFlagged s) : LevelFlagged (formCap h s) := by
  unfold formCap; dsimp only
  split
  · exact cutHeater_flagged flagged
  · exact flagged

theorem formCaps_flagged (flagged : LevelFlagged s) : LevelFlagged (formCaps s) := formCap_flagged (formCap_flagged flagged)

theorem quietHeater_flagged {h : Heater} {quiet : Bool} (flagged : LevelFlagged s) :
    LevelFlagged (quietHeater h quiet s) := by
  unfold quietHeater; dsimp only
  split
  · split <;> exact flagged
  · split
    · exact driveOutput_flagged flagged
    · exact flagged

theorem formQuiet_flagged (flagged : LevelFlagged s) : LevelFlagged (formQuiet s) := by
  unfold formQuiet; dsimp only
  split
  · exact flagged
  · exact quietHeater_flagged (quietHeater_flagged flagged)

theorem writeOutcome_flagged {seq : Nat} {k : NoticeKind} {o : AlertOutcome} (flagged : LevelFlagged s) :
    LevelFlagged (writeOutcome seq k o s) :=
  updateRecord_flagged ⟨fun r => by cases k <;> exact id, fun r => by cases k <;> exact id⟩ flagged

theorem waitAgain_ev (n : Nat) (s : State) : (waitAgain n s).ev = s.ev := by
  unfold waitAgain alarmWaiting; dsimp only
  split
  · split <;> rfl
  · rfl

theorem waitWithTag_flagged {n : Nat} (flagged : LevelFlagged s) : LevelFlagged (waitWithTag n s) := by
  unfold LevelFlagged waitWithTag
  rw [waitAgain_ev]
  exact flagged

theorem requestNotice_flagged {a : NoticeAsk} (below : a.cls ≠ .alarm) (flagged : LevelFlagged s) :
    LevelFlagged (requestNotice a s).1 := by
  have obtained := obtainSlot_below below s
  unfold requestNotice
  generalize obtainSlot a.cls s = o at obtained
  obtain ⟨x, slot⟩ := o
  obtain rfl : x = s := obtained
  cases slot with
  | none =>
    cases a.event with
    | none => exact flagged
    | some e => exact writeOutcome_flagged flagged
  | some n =>
    cases a.event with
    | none => exact waitWithTag_flagged flagged
    | some event =>
      have pinned := updateRecord_flagged (seq := event) (f := fun r => { r with pins := r.pins + 1 })
        ⟨fun _ => id, fun _ => id⟩ flagged
      exact waitWithTag_flagged (writeOutcome_flagged pinned)

theorem handUpdate_flagged (flagged : LevelFlagged s) : LevelFlagged (handUpdate s) := by
  unfold handUpdate
  split
  · exact flagged
  · exact flagged
  · exact updateOpen_flagged ⟨fun _ => id, fun _ => id⟩ flagged

theorem closeIfDone_flagged {x : Time} {frame : Nat} (flagged : LevelFlagged s) :
    LevelFlagged (closeIfDone x frame s) := by
  unfold closeIfDone
  split
  · split
    · exact flagged
    · exact flagged
    · exact requestNotice_flagged (show NoticeClass.routine ≠ .alarm from nofun) (closeRecord_flagged _ _ flagged)
  · exact flagged

theorem afterChannelChange_flagged (flagged : LevelFlagged s) : LevelFlagged (afterChannelChange s) :=
  formQuiet_flagged (closeIfDone_flagged (handUpdate_flagged flagged))

theorem detectorLevel_flagged {old new : Option Level} (flagged : LevelFlagged s) :
    LevelFlagged (detectorLevel old new s) := by
  unfold detectorLevel
  split
  · exact afterChannelChange_flagged flagged
  · split <;> exact flagged

end Sys2Proof.Machine
end

section
/-! A change of level before its level-entry notice (R164): the standing loads (R169), the Discipline Unit (R56), the link
(R124, R127), the heater starts (R175), and last the two watchers. -/

namespace Sys2Proof.Machine

variable {s : State}

/-! ### The reports to the watchers -/

/-- The report of a level to the Heater Controller (R177). -/
def capsAt (new : Level) (s : State) : State := formCaps (s.onHt fun h => { h with level := some new })

/-- The heaters under the caps of a level, without the edges of the cuts. -/
def heatersAt (new : Level) (s : State) : State := capOne .ho (capOne .hb (s.onHt fun h => { h with level := some new }))

theorem capsAt_outline (new : Level) (s : State) : (capsAt new s).outline = heatersAt new s.outline := formCaps_outline _

theorem heatersAt_channelsAt (old : Option Level) (new : Level) (s : State) :
    channelsAt old (some new) (heatersAt new s) = heatersAt new (channelsAt old (some new) s) := rfl

/-- A step of a change of level that only the first level takes (R161). -/
def atFirst (s : State) (f : State → State) (x : State) : State := if s.pw.level = none then f x else x

/-- The Power Controller at the entry of a level (R162, R165, R166). -/
def levelEntered (new : Level) (s : State) : State :=
  { s with pw := { s.pw with
    level := some new, dwell := 0, restartCount := 0
    cutoffCount := if s.pw.level = some .dormant then 0 else s.pw.cutoffCount } }

/-- The state that the watchers are told of. -/
def levelBase (new : Level) (s : State) : State :=
  atFirst s startHeaters (linkLevel (disciplineLevel (some new) (atFirst s formStanding (levelEntered new s))))

/-- The state after a change of level, before its level-entry notice. -/
def levelReported (new : Level) (s : State) : State :=
  notifyAll .levelChanged (reportLevel s.pw.level new (atFirst s formStanding (levelEntered new s)))

theorem changeLevel_eq {new : Level} (changes : s.pw.level ≠ some new) (notice : Bool) : changeLevel new notice s =
    if notice then entryNotice new (levelReported new s) else levelReported new s := by
  have reported : levelReported new s = notifyAll .levelChanged (reportLevel s.pw.level new
      (if s.pw.level.isNone then formStanding (levelEntered new s) else levelEntered new s)) := by
    simp only [levelReported, atFirst, Option.isNone_iff_eq_none]
  rw [reported]
  exact if_neg changes

theorem reportToWatchers_cases (old : Option Level) (new : Level) (s : State) :
    reportToWatchers old new s = detectorLevel old (some new) (capsAt new s) ∨
      reportToWatchers old new s = capsAt new (detectorLevel old (some new) s) := by
  unfold reportToWatchers; dsimp only
  split
  · exact .inr rfl
  · exact .inl rfl

theorem levelReported_cases (new : Level) (s : State) :
    levelReported new s = notifyAll .levelChanged (flagLevelChanged (reportToWatchers s.pw.level new (levelBase new s))) ∨
      levelReported new s =
        notifyAll .levelChanged (reportToWatchers s.pw.level new (flagLevelChanged (levelBase new s))) := by
  have base (x : State) : (if s.pw.level.isNone then startHeaters x else x) = atFirst s startHeaters x := by
    simp only [atFirst, Option.isNone_iff_eq_none]
  unfold levelReported reportLevel; dsimp only
  rw [base]
  split
  · exact .inl rfl
  · exact .inr rfl

theorem reportToWatchers_outline (old : Option Level) (new : Level) (s : State) :
    (reportToWatchers old new s).outline = heatersAt new (channelsAt old (some new) s.outline) := by
  rcases reportToWatchers_cases old new s with e | e <;> rw [e]
  · rw [detectorLevel_outline, capsAt_outline, heatersAt_channelsAt]
  · rw [capsAt_outline, detectorLevel_outline]

theorem levelReported_outline (new : Level) (s : State) :
    (levelReported new s).outline = heatersAt new (channelsAt s.pw.level (some new) (levelBase new s).outline) := by
  have flag (x : State) : (flagLevelChanged x).outline = x.outline := rfl
  have all (x : State) : (notifyAll .levelChanged x).outline = x.outline := rfl
  rcases levelReported_cases new s with e | e <;> rw [e, all]
  · rw [flag, reportToWatchers_outline]
  · rw [reportToWatchers_outline, flag]

theorem reportToWatchers_flagged {old : Option Level} {new : Level} (flagged : LevelFlagged s) :
    LevelFlagged (reportToWatchers old new s) := by
  rcases reportToWatchers_cases old new s with e | e <;> rw [e]
  · exact detectorLevel_flagged (formCaps_flagged flagged)
  · exact formCaps_flagged (detectorLevel_flagged flagged)

theorem levelReported_flagged (new : Level) (s : State) : LevelFlagged (levelReported new s) := by
  rcases levelReported_cases new s with e | e <;> rw [e]
  · exact flagLevelChanged_flagged _
  · exact reportToWatchers_flagged (s := flagLevelChanged _) (flagLevelChanged_flagged _)

theorem levelReported_notices (new : Level) (s : State) (p : Port) :
    ((levelReported new s).ports.get p).notices.getLsbD 3 = true := by
  unfold levelReported
  cases p <;> simp [notifyAll, State.onPorts, PerPort.map, PerPort.get, Kind.bit]

/-! ### The parts of the state before the watchers -/

theorem formStanding_rest (s : State) :
    formStanding s = { s with pw := { s.pw with loads := (formStanding s).pw.loads } } := by
  simp only [formStanding, allLoads, List.foldl_cons, List.foldl_nil, setAsk, State.onLoad, State.onPw]

theorem formStanding_load (s : State) (l : Load) : (formStanding s).pw.loads.get l =
    { s.pw.loads.get l with asks := { (s.pw.loads.get l).asks with
      station := if s.pw.act.standing.getLsbD (Load.code l) then .standing else .absent } } := by
  cases l <;>
    simp only [formStanding, allLoads, List.foldl_cons, List.foldl_nil, setAsk, State.onLoad, State.onPw, PerLoad.update,
      PerLoad.get, PerRequester.put]

/-- The compare record of a heater that starts: HO runs half a period behind HB (R175). -/
def startedCompare (h : Heater) (s : State) : Compare := { (s.ccu.heaters.get h).cmp with
  mode := .repeating, period := 160000000, waiting := none
  phase := match h with | .hb => 0 | .ho => 80000000
  next := match h with
    | .hb => (s.tb.now / 160000000 + 1) * 160000000
    | .ho => (s.tb.now + 80000000) / 160000000 * 160000000 + 80000000 }

/-- A heater's paired channel that starts. -/
def startedPaired (h : Heater) (s : State) : Paired := { s.ccu.heaters.get h with
  cmp := startedCompare h s, duty := 0, pendingDuty := none, boundary := none, offMatch := none }

theorem Paired.start_hb (s : State) :
    (s.ccu.heaters.get .hb).start heaterPeriod 0 0 s.tb.now s.tb.now = startedPaired .hb s := by
  have next : firstMatch 160000000 0 (s.tb.now + 1) = (s.tb.now / 160000000 + 1) * 160000000 := by
    unfold firstMatch
    generalize s.tb.now = now
    change @Eq Nat _ _
    omega
  simp [Paired.start, Compare.start, startedPaired, startedCompare, heaterPeriod, scheduleOk, pairedOk, next]

theorem Paired.start_ho (s : State) :
    (s.ccu.heaters.get .ho).start heaterPeriod 80000000 0 s.tb.now s.tb.now = startedPaired .ho s := by
  have next : firstMatch 160000000 80000000 (s.tb.now + 1) =
      (s.tb.now + 80000000) / 160000000 * 160000000 + 80000000 := by
    unfold firstMatch
    generalize s.tb.now = now
    change @Eq Nat _ _
    omega
  simp [Paired.start, Compare.start, startedPaired, startedCompare, heaterPeriod, scheduleOk, pairedOk, next]

theorem startHeaters_eq (s : State) : startHeaters s = { s with
    pace := { s.pace with heaterSeconds := s.pace.seconds - 1 }
    ccu := { s.ccu with heaters := ⟨startedPaired .hb s, startedPaired .ho s⟩ } } := by
  rw [← Paired.start_hb, ← Paired.start_ho]
  rfl

theorem disciplineLevel_rest (new : Level) (s : State) : disciplineLevel (some new) s = { s with
    disc := (disciplineLevel (some new) s).disc
    pw := { s.pw with loads := s.pw.loads.update .gnss fun l =>
      { l with asks := { l.asks with timebase := ((disciplineLevel (some new) s).pw.loads.gnss).asks.timebase } } } } := by
  cases new <;> rfl

/-- The listen request that a level calls for (R127). -/
def listenAskFor (level : Option Level) (s : State) : Bool :=
  match level with
  | none => false
  | some .full => true
  | some .reduced => true
  | some .survival => s.link.cfg.listensAt s.tb.now
  | some .critical => false
  | some .dormant => false

theorem setLinkState_eq (new : LinkState) (s : State) : ∃ ports worst,
    setLinkState new s = { s with ports := ports, link := { s.link with state := new, worst := worst } } := by
  unfold setLinkState
  split
  next same => exact ⟨s.ports, s.link.worst, by rw [← same]⟩
  next => exact ⟨_, _, rfl⟩

theorem listenLevel_eq (level : Option Level) (s : State) : ∃ ch7, listenLevel level s =
    { s with link := { s.link with listenAsk := listenAskFor level s }, ccu := { s.ccu with ch7 := ch7 } } := by
  have set (ask : Link → Bool) (f : Compare → Compare) :
      ((s.onLink fun l => { l with listenAsk := ask l }).onCcu fun c => { c with ch7 := f c.ch7 }) =
        { s with link := { s.link with listenAsk := ask s.link }, ccu := { s.ccu with ch7 := f s.ccu.ch7 } } := rfl
  rcases level with _ | _ | _ | _ | _ | _
  case some.survival =>
    exact ⟨_, set (fun l => l.cfg.listensAt s.tb.now)
      fun c => c.start .oneShot 1 0 (s.link.cfg.nextPoint s.tb.now) s.tb.now⟩
  all_goals exact ⟨_, set (fun _ => _) Compare.stop⟩

theorem linkLevel_eq (s : State) : ∃ ports worst ch7, linkLevel s = { s with
    ports := ports
    link := { s.link with
      state := linkStateFor s.pw.level s.link.health, worst := worst, listenAsk := listenAskFor s.pw.level s }
    ccu := { s.ccu with ch7 := ch7 } } := by
  obtain ⟨ports, worst, formed⟩ := setLinkState_eq (linkStateFor s.pw.level s.link.health) s
  rw [linkLevel, formLinkState, formed]
  obtain ⟨ch7, listens⟩ := listenLevel_eq s.pw.level
    { s with ports := ports, link := { s.link with state := linkStateFor s.pw.level s.link.health, worst := worst } }
  exact ⟨ports, worst, ch7, listens⟩

/-- The Discipline Unit after the report of a level (R56). -/
structure DisciplineAt (new : Level) (s : State) (d : Discipline) : Prop where
  continuous : d.continuous = true ↔ new = .full ∨ new = .reduced
  window : d.window = if new = .survival then some (s.pace.seconds + s.disc.cfg.windowLength) else none

theorem disciplineLevel_at (new : Level) (s : State) : DisciplineAt new s (disciplineLevel (some new) s).disc := by
  constructor
  case window => cases new <;> rfl
  case continuous =>
    cases new <;> simp [disciplineLevel, formTimebaseEntry, openGnssWindow, setAsk, State.onLoad, State.onDisc, State.onPw]

theorem disciplineLevel_eq (new : Level) (s : State) : ∃ disc loads, DisciplineAt new s disc ∧
    (∀ l, (loads.get l).asks.station = (s.pw.loads.get l).asks.station) ∧
    disciplineLevel (some new) s = { s with disc := disc, pw := { s.pw with loads := loads } } :=
  ⟨_, _, disciplineLevel_at new s, fun l => by cases l <;> rfl, disciplineLevel_rest new s⟩

theorem standing_eq (new : Level) (s : State) : ∃ loads,
    (∀ l, (loads.get l).asks.station = if s.pw.level ≠ none then (s.pw.loads.get l).asks.station
      else if s.pw.act.standing.getLsbD (Load.code l) then .standing else .absent) ∧
    atFirst s formStanding (levelEntered new s) =
      { s with pw := { (levelEntered new s).pw with loads := loads } } := by
  unfold atFirst
  by_cases first : s.pw.level = none
  · refine ⟨_, fun l => ?_, (if_pos first).trans (formStanding_rest _)⟩
    rw [formStanding_load, if_neg (not_not.2 first)]
    rfl
  · exact ⟨s.pw.loads, fun l => (if_pos first).symm, if_neg first⟩

/-- The state that the watchers are told of, block by block. -/
theorem levelBase_eq (new : Level) (s : State) : ∃ disc loads ports worst ch7, DisciplineAt new s disc ∧
    (∀ l, (loads.get l).asks.station = if s.pw.level ≠ none then (s.pw.loads.get l).asks.station
      else if s.pw.act.standing.getLsbD (Load.code l) then .standing else .absent) ∧
    levelBase new s = { s with
      pace := if s.pw.level = none then { s.pace with heaterSeconds := s.pace.seconds - 1 } else s.pace
      ccu := { s.ccu with
        ch7 := ch7
        heaters := if s.pw.level = none then ⟨startedPaired .hb s, startedPaired .ho s⟩ else s.ccu.heaters }
      disc := disc
      pw := { (levelEntered new s).pw with loads := loads }
      ports := ports
      link := { s.link with
        state := linkStateFor (some new) s.link.health, worst := worst, listenAsk := listenAskFor (some new) s } } := by
  obtain ⟨loads, station, stands⟩ := standing_eq new s
  obtain ⟨disc, loads', disciplined, kept, reported⟩ :=
    disciplineLevel_eq new { s with pw := { (levelEntered new s).pw with loads := loads } }
  obtain ⟨ports, worst, ch7, linked⟩ :=
    linkLevel_eq { s with disc := disc, pw := { (levelEntered new s).pw with loads := loads' } }
  refine ⟨disc, loads', ports, worst, ch7, ⟨disciplined.continuous, disciplined.window⟩,
    fun l => (kept l).trans (station l), ?_⟩
  have told : linkLevel (disciplineLevel (some new) (atFirst s formStanding (levelEntered new s))) = _ :=
    (congrArg linkLevel ((congrArg (disciplineLevel (some new)) stands).trans reported)).trans linked
  rw [levelBase, told, atFirst]
  by_cases first : s.pw.level = none
  · simp only [first, if_true, startHeaters_eq]
    rfl
  · simp only [first, if_false]
    rfl

/-! ### The heaters and channels after the watchers -/

/-- The cap that a level puts in force for a heater (R177). -/
def capOf (h : Heater) (new : Level) (u : HeaterUnit) : Nat :=
  if h = .hb ∧ u.sourceHeating = true then u.limits.sourceCap else (u.limits.caps.get h).get new

theorem heatersAt_paired (new : Level) (h : Heater) (s : State) : (heatersAt new s).ccu.heaters.get h =
    (s.ccu.heaters.get h).cappedBy (s.ht.units.get h).cap (capOf h new s.ht) := by cases h <;> rfl

theorem heatersAt_thermostat (new : Level) (h : Heater) (s : State) : (heatersAt new s).ht.units.get h =
    (s.ht.units.get h).cappedBy (capOf h new s.ht) := by cases h <;> rfl

theorem outline_paired (h : Heater) (s : State) : s.outline.ccu.heaters.get h = (s.ccu.heaters.get h).outline := by
  cases h <;> rfl

theorem outline_thermostat (h : Heater) (s : State) : s.outline.ht.units.get h = (s.ht.units.get h).outline := by
  cases h <;> rfl

theorem outline_duties {c d : Paired} (e : c.outline = d.outline) : c.cmp = d.cmp ∧ c.duty = d.duty ∧
    c.pendingDuty = d.pendingDuty ∧ c.boundary = d.boundary ∧ c.offMatch = d.offMatch :=
  have field {α : Type} (f : Paired → α) : f c.outline = f d.outline := congrArg f e
  ⟨field Paired.cmp, field Paired.duty, field Paired.pendingDuty, field Paired.boundary, field Paired.offMatch⟩

theorem Paired.cappedBy_cmp (old new : Nat) (c : Paired) : (c.cappedBy old new).cmp = c.cmp := by
  unfold Paired.cappedBy; split <;> rfl

/-- A cut of a channel that has no duty and has seen no boundary changes nothing. -/
theorem startedPaired_cappedBy (h : Heater) (s : State) (old new : Nat) :
    (startedPaired h s).cappedBy old new = startedPaired h s := by
  have none : (startedPaired h s).cutTo new = startedPaired h s := by
    simp [Paired.cutTo, startedPaired]
  unfold Paired.cappedBy
  rw [none, ite_self]

theorem Paired.cappedBy_le {old new : Nat} (falls : new < old) (within : new ≤ 64) (c : Paired) :
    (c.cappedBy old new).duty ≤ new ∧ ∀ d, (c.cappedBy old new).pendingDuty = some d → d ≤ new := by
  rw [Paired.cappedBy, if_pos ⟨falls, within⟩]
  refine ⟨Nat.min_le_right .., fun d pending => ?_⟩
  obtain ⟨x, -, rfl⟩ := Option.map_eq_some_iff.1 pending
  exact Nat.min_le_right ..

theorem Thermostat.cappedBy_le {new : Nat} {u : Thermostat} (falls : new < u.cap) : (u.cappedBy new).computed ≤ new := by
  rw [Thermostat.cappedBy, if_pos falls]
  exact Nat.min_le_right ..

/-- A heater after a change of level. -/
theorem levelReported_paired (new : Level) (h : Heater) (s : State) :
    ((levelReported new s).ccu.heaters.get h).outline =
      (((levelBase new s).ccu.heaters.get h).cappedBy ((levelBase new s).ht.units.get h).cap
        (capOf h new (levelBase new s).ht)).outline := by
  rw [← outline_paired, levelReported_outline, heatersAt_paired, Paired.cappedBy_outline]
  cases h <;> rfl

theorem levelReported_thermostat (new : Level) (h : Heater) (s : State) :
    ((levelReported new s).ht.units.get h).outline =
      (((levelBase new s).ht.units.get h).cappedBy (capOf h new (levelBase new s).ht)).outline := by
  rw [← outline_thermostat, levelReported_outline, heatersAt_thermostat]
  cases h <;> rfl

theorem Six.get_map {α β : Type} (x : Six α) (f : Nat → α → β) {ch : Nat} (low : 1 ≤ ch) (high : ch ≤ 6) :
    (x.map f).get ch = f ch (x.get ch) := by
  interval_cases ch <;> rfl

end Sys2Proof.Machine
end

section
/-! What a change of level leaves in every block, whichever of the watchers is told first (R164). -/

namespace Sys2Proof.Machine

variable {s : State}

/-! ### Notices and the Detector's report, as stated -/

theorem powerNotice_live {c : PowerCause} (live : s.pw.refOf c ≠ none) : powerNotice c s = s :=
  if_pos (Option.isSome_iff_ne_none.2 live)

theorem powerNotice_asks {c : PowerCause} (free : s.pw.refOf c = none) :
    powerNotice c s = (requestNotice c.ask s).1.onPw (Power.withRef c (requestNotice c.ask s).2) :=
  if_neg (by rw [free]; decide)

theorem Participant.shedAt_own (k : ChannelCfg) (c : Channel) (p : Participant) : p.shedAt p.channel k c =
    if k.critical = false ∧ c.state = .triggered ∧ p.reason = none then
      { p with reason := some .reconfigured, peakD := max p.peakD c.peakD, peakRatio := max p.peakRatio c.peakRatio }
    else p := by
  simp only [Participant.shedAt, Participant.finish, true_and]

/-- The entry to CRITICAL or DORMANT at the Detector (R91, R96). -/
theorem detectorLevel_shed {old new : Option Level} (now : shedLevel new = true) (before : shedLevel old = false)
    (inside : ∀ p ∈ s.det.participants, 1 ≤ p.channel ∧ p.channel ≤ 6) :
    detectorLevel old new s = afterChannelChange { s with det := { s.det with
      channels := s.det.channels.map fun ch c => c.shed (s.det.params.get ch)
      participants := s.det.participants.map fun p =>
        p.shedAt p.channel (s.det.params.get p.channel) (s.det.channels.get p.channel) } } := by
  have entries := List.map_congr_left fun p mem =>
    foldl_shedAt s.det (p := p) (inside p mem).1 (inside p mem).2
  rw [detectorLevel_sheds now before, State.onDet, foldl_shedChannel, entries]

/-- The return from CRITICAL and DORMANT at the Detector (R78, R96). -/
theorem detectorLevel_woken {old new : Option Level} (now : shedLevel new = false) (before : shedLevel old = true)
    (s : State) : detectorLevel old new s = { s with det := { s.det with
      channels := s.det.channels.map fun ch c => c.woken (s.det.params.get ch) } } := by
  rw [detectorLevel_wakes now before, State.onDet, foldl_wakeChannel]

theorem detectorLevel_cases (old new : Option Level) (s : State)
    (inside : ∀ p ∈ s.det.participants, 1 ≤ p.channel ∧ p.channel ≤ 6) :
    let shed (l : Option Level) : Prop := l = some .critical ∨ l = some .dormant
    (shed new → ¬shed old → detectorLevel old new s = afterChannelChange { s with det := { s.det with
      channels := s.det.channels.map fun ch c => if (s.det.params.get ch).critical then c else { c with state := .off }
      participants := s.det.participants.map fun p =>
        let c := s.det.channels.get p.channel
        if (s.det.params.get p.channel).critical = false ∧ c.state = .triggered ∧ p.reason = none then
          { p with reason := some .reconfigured, peakD := max p.peakD c.peakD, peakRatio := max p.peakRatio c.peakRatio }
        else p } }) ∧
    (shed old → ¬shed new → detectorLevel old new s = { s with det := { s.det with
      channels := s.det.channels.map fun ch c =>
        if (s.det.params.get ch).critical = false ∧ (s.det.params.get ch).enabled = true ∧ c.state = .off then
          { c with state := .warmup, warm := 0 }
        else c } }) ∧
    ((shed old ↔ shed new) → detectorLevel old new s = s) := by
  intro shed
  have iff (l : Option Level) : shedLevel l = true ↔ shed l := shedLevel_iff l
  have out {l : Option Level} (h : ¬shed l) : shedLevel l = false := by rw [← Bool.not_eq_true, iff]; exact h
  refine ⟨fun now before => ?_, fun before now => ?_, fun same => detectorLevel_same ?_ s⟩
  · rw [detectorLevel_shed ((iff new).2 now) (out before) inside]
    simp only [Participant.shedAt_own]
    rfl
  · exact detectorLevel_woken (out now) ((iff old).2 before) s
  · rw [Bool.eq_iff_iff, iff, iff]; exact same.symm

/-! ### The parts of the state after the watchers -/

/-- What a change of level leaves in each block, before its level-entry notice. -/
structure LevelTold (new : Level) (s u : State) : Prop where
  power : u.pw = { (levelEntered new s).pw with loads := u.pw.loads }
  station : ∀ l, (u.pw.loads.get l).asks.station = if s.pw.level ≠ none then (s.pw.loads.get l).asks.station
    else if s.pw.act.standing.getLsbD (Load.code l) then .standing else .absent
  heaterSeconds : u.pace.heaterSeconds = if s.pw.level = none then s.pace.seconds - 1 else s.pace.heaterSeconds
  discipline : DisciplineAt new s u.disc
  link : u.link.state = linkStateFor (some new) s.link.health
  listen : u.link.listenAsk = listenAskFor (some new) s
  level : u.ht.level = some new
  paired : ∀ h, (u.ccu.heaters.get h).outline = ((if s.pw.level = none then startedPaired h s else
    s.ccu.heaters.get h).cappedBy (s.ht.units.get h).cap (capOf h new s.ht)).outline
  thermostat : ∀ h, (u.ht.units.get h).outline = ((s.ht.units.get h).cappedBy (capOf h new s.ht)).outline
  channels : u.det.channels = levelChannels s.pw.level (some new) s.det.params s.det.channels

/-- What the reports to the watchers make of a state, as far as its outline shows. -/
structure OutlineTold (old : Option Level) (new : Level) (x y : State) : Prop where
  pw : y.pw = x.pw
  pace : y.pace = x.pace
  disc : y.disc = x.disc
  link : y.link.state = x.link.state
  listen : y.link.listenAsk = x.link.listenAsk
  level : y.ht.level = some new
  channels : y.det.channels = levelChannels old (some new) x.det.params x.det.channels

theorem outlineTold {old : Option Level} {new : Level} {x y : State}
    (out : y.outline = heatersAt new (channelsAt old (some new) x.outline)) : OutlineTold old new x y := by
  constructor
  case pw => show y.outline.pw = x.pw; rw [out]; rfl
  case pace => show y.outline.pace = x.pace; rw [out]; rfl
  case disc => show y.outline.disc = x.disc; rw [out]; rfl
  case link => show y.outline.link.state = x.link.state; rw [out]; rfl
  case listen => show y.outline.link.listenAsk = x.link.listenAsk; rw [out]; rfl
  case level => show y.outline.ht.level = some new; rw [out]; rfl
  case channels => show y.outline.det.channels = _; rw [out]; rfl

theorem levelReported_told (new : Level) (s : State) : LevelTold new s (levelReported new s) := by
  obtain ⟨disc, loads, ports, worst, ch7, disciplined, station, base⟩ := levelBase_eq new s
  obtain ⟨pw, pace, discipline, link, ask, level, channels⟩ := outlineTold (levelReported_outline new s)
  have paired := fun h => levelReported_paired new h s
  have thermostat := fun h => levelReported_thermostat new h s
  rw [base] at pw pace discipline link ask channels
  refine ⟨?_, fun l => ?_, ?_, discipline ▸ disciplined, link, ask, level, fun h => ?_, fun h => ?_, channels⟩
  · rw [pw]
  · rw [pw]; exact station l
  · rw [pace]; split <;> rfl
  · rw [paired h, base]
    split
    · cases h <;> rfl
    · rfl
  · rw [thermostat h, base]

section
variable {new : Level} {s u : State} (told : LevelTold new s u)
include told

/-- A change of level after the first leaves both schedules. -/
theorem LevelTold.cmp (later : s.pw.level ≠ none) (h : Heater) :
    (u.ccu.heaters.get h).cmp = (s.ccu.heaters.get h).cmp := by
  have same := told.paired h
  rw [if_neg later] at same
  exact (outline_duties same).1.trans (Paired.cappedBy_cmp ..)

/-- The first level starts both schedules with duty 0 (R175). -/
theorem LevelTold.starts (first : s.pw.level = none) (h : Heater) :
    (u.ccu.heaters.get h).cmp = startedCompare h s ∧ (u.ccu.heaters.get h).duty = 0 ∧
      (u.ccu.heaters.get h).pendingDuty = none ∧ (u.ccu.heaters.get h).boundary = none ∧
      (u.ccu.heaters.get h).offMatch = none := by
  have same := told.paired h
  rw [if_pos first, startedPaired_cappedBy] at same
  exact outline_duties same

theorem LevelTold.cap (h : Heater) : (u.ht.units.get h).cap = capOf h new s.ht :=
  have same : (u.ht.units.get h).outline.cap = _ := congrArg Thermostat.cap (told.thermostat h)
  same

/-- A fall of a cap lowers the computed duty and cuts (R31, R177). -/
theorem LevelTold.falls {h : Heater} (falls : capOf h new s.ht < (s.ht.units.get h).cap) (within : capOf h new s.ht ≤ 64) :
    (u.ht.units.get h).computed ≤ capOf h new s.ht ∧ (u.ccu.heaters.get h).duty ≤ capOf h new s.ht ∧
      ∀ d, (u.ccu.heaters.get h).pendingDuty = some d → d ≤ capOf h new s.ht := by
  have computed : (u.ht.units.get h).outline.computed = _ := congrArg Thermostat.computed (told.thermostat h)
  obtain ⟨-, duty, pending, -⟩ := outline_duties (told.paired h)
  obtain ⟨low, lowPending⟩ := Paired.cappedBy_le falls within
    (if s.pw.level = none then startedPaired h s else s.ccu.heaters.get h)
  exact ⟨computed.le.trans (Thermostat.cappedBy_le falls), duty.le.trans low,
    fun d e => lowPending d (pending.symm.trans e)⟩

theorem LevelTold.shed (now : new = .critical ∨ new = .dormant) (notCritical : s.pw.level ≠ some .critical)
    (notDormant : s.pw.level ≠ some .dormant) {ch : Nat} (low : 1 ≤ ch) (high : ch ≤ 6)
    (outside : (s.det.params.get ch).critical = false) : (u.det.channels.get ch).state = .off := by
  have sheds : (shedLevel (some new) && !shedLevel s.pw.level) = true := by
    rcases now with rfl | rfl <;> simp [shedLevel, notCritical, notDormant]
  rw [told.channels, levelChannels, if_pos sheds, Six.get_map _ _ low high, Channel.shed, outside]
  rfl

theorem LevelTold.woken (notCritical : new ≠ .critical) (notDormant : new ≠ .dormant)
    (before : s.pw.level = some .critical ∨ s.pw.level = some .dormant) {ch : Nat} (low : 1 ≤ ch) (high : ch ≤ 6)
    (outside : (s.det.params.get ch).critical = false) (enabled : (s.det.params.get ch).enabled = true)
    (off : (s.det.channels.get ch).state = .off) : (u.det.channels.get ch).state = .warmup := by
  have now : shedLevel (some new) = false := by simp [shedLevel, notCritical, notDormant]
  have wakes : (shedLevel s.pw.level && !shedLevel (some new)) = true := by
    rw [(shedLevel_iff _).2 before, now]; rfl
  rw [told.channels, levelChannels, now, if_neg (by simp), ← now, if_pos wakes, Six.get_map _ _ low high, Channel.woken,
    if_pos ⟨outside, enabled, off⟩]

end

/-- Settles O48: what the watchers leave of the state, whichever is told first, is read off the outline of the state after
the change; the LEVEL_CHANGED of an OPEN record is kept by every operation of theirs. -/
theorem changesOfLevelReachEveryBlock : Obligations.ChangesOfLevelReachEveryBlock := by
  unfold Obligations.ChangesOfLevelReachEveryBlock
  intro codeOf started
  have codes : codeOf = Load.code := by funext l; cases l <;> rfl
  have starts : started = startedCompare := rfl
  rw [codes, starts]
  clear starts codes
  clear_value codeOf started
  refine ⟨fun new notice s changes => ⟨levelReported new s, ?notice, ?watchers, ?rest⟩, startHeaters_eq,
    fun s => ⟨formStanding_rest s, formStanding_load s⟩, detectorLevel_cases,
    fun s => ⟨fun c => powerNotice_live, fun free => powerNotice_asks (c := .survivalEntry) free,
      fun free => powerNotice_asks (c := .criticalEntry) free, fun free => powerNotice_asks (c := .coldHold) free⟩⟩
  case notice =>
    rw [changeLevel_eq changes]
    cases notice <;> cases new <;> rfl
  case watchers =>
    intro first entered base caps det
    rcases levelReported_cases new s with e | e
    · rcases reportToWatchers_cases s.pw.level new (levelBase new s) with w | w
      · exact ⟨_, List.mem_cons_self, .inr (e.trans (by rw [w]; rfl))⟩
      · exact ⟨_, List.mem_cons_of_mem _ List.mem_cons_self, .inr (e.trans (by rw [w]; rfl))⟩
    · rcases reportToWatchers_cases s.pw.level new (flagLevelChanged (levelBase new s)) with w | w
      · exact ⟨_, List.mem_cons_self, .inl (e.trans (by rw [w]; rfl))⟩
      · exact ⟨_, List.mem_cons_of_mem _ List.mem_cons_self, .inl (e.trans (by rw [w]; rfl))⟩
  case rest =>
    have told := levelReported_told new s
    have flagged := levelReported_flagged new s
    have notices := levelReported_notices new s
    generalize levelReported new s = u at told flagged notices
    have link : linkStateFor (some new) s.link.health = if new = .dormant then .off else s.link.health := by
      cases new <;> rfl
    refine ⟨told.station, told.heaterSeconds, told.cmp, told.starts, congrArg Power.level told.power,
      congrArg Power.dwell told.power, congrArg Power.restartCount told.power, fun dormant => ?_, notices,
      told.discipline.continuous, told.discipline.window, told.link.trans link,
      told.listen.trans (by clear told; cases new <;> rfl), told.level,
      fun h => ⟨told.cap h, told.falls⟩, fun now a b ch low high => told.shed now a b low high,
      fun a b before ch low high => told.woken a b before low high, flagged⟩
    exact (congrArg Power.cutoffCount told.power).trans (if_pos dormant)

end Sys2Proof.Machine
end

section
/-! The drain of the sample ring (R68, R72): the frames from the cursor on, the cursor after them, and the holds that it
has passed. -/

namespace Sys2Proof.Machine

variable {s : State}

/-- A command that is taken and leaves the reply in preparation alone: the state it leaves is answered. -/
theorem request_leaves {p : Port} {right : Right} (adm : Admits p right s) {tag : Byte} {run : State → Answer}
    {data : List Byte} {x : State} (runs : run (s.taking p tag) = taken data (x.taking p tag)) :
    request p tag right run s = .next (x.answered p tag .ok data) := by
  rw [request_admitted adm, runs, taken, finishReply_preparing (State.taking_reply ..), replyReady_taking]

/-! ### The bytes of a frame (R68) -/

theorem sampleBytes_eq (x : Option Samples) : sampleBytes x = match x with
    | none => zeros 18
    | some v => [v.s1, v.s2, v.s3, v.s4, v.s5, v.s6].flatMap fun w => be 3 w.toNat := by
  cases x with
  | none => rfl
  | some v => simp only [sampleBytes, List.flatMap_cons, List.flatMap_nil, List.append_nil, List.append_assoc]

/-! ### What a drain leaves (R68, R72) -/

/-- The release after a drain keeps the entries that are open and those whose close frame lies ahead (R72). -/
theorem releaseHolds_eq (s : State) : releaseHolds s = s.onAcq fun a => { a with
    holds := s.acq.holds.filter fun e => match e.close with | none => true | some c => !seqAfter s.acq.cursor c } := by
  have kept (e : HoldEntry) : (!match e.close with | none => false | some c => seqAfter s.acq.cursor c) =
      match e.close with | none => true | some c => !seqAfter s.acq.cursor c := by cases e.close <;> rfl
  simp only [← kept]
  rfl

/-- DRAIN_SAMPLES by its one byte (R68, R72). -/
theorem runDrainSamples_eq (n : Byte) (s : State) : runDrainSamples [n] s =
    if 1 ≤ n.toNat ∧ n.toNat ≤ 8 then
      let frames := drainFrames n.toNat s
      let cursor := cursorAfter s.acq.cursor frames
      taken (be 4 s.acq.overrun ++ frames.flatMap frameBytes) (s.onAcq fun a => { a with
        cursor := cursor, overrun := 0
        holds := s.acq.holds.filter fun e => match e.close with | none => true | some c => !seqAfter cursor c })
    else refuse .outOfRange s := by
  unfold runDrainSamples
  simp only [natOf_single, releaseHolds_eq, List.length_singleton, true_and]
  rfl

/-- Settles O23: the command by its one byte, in its range and outside it. -/
theorem drainReturnsFramesFromTheCursor : Obligations.DrainReturnsFramesFromTheCursor := by
  intro p tag n s adm frames cursor bytes
  have spelled : frameBytes = bytes := by
    funext f
    simp only [frameBytes, sampleBytes_eq, Frame.flags]
    rfl
  rw [← spelled]
  refine ⟨fun low high => ?_, fun outside => ?_⟩
  · exact request_leaves adm ((runDrainSamples_eq n _).trans (if_pos ⟨low, high⟩))
  · exact request_answers adm ((runDrainSamples_eq n _).trans (if_neg (by omega)))

end Sys2Proof.Machine
end

section
/-! Updates of the event records as the Detector and the Acquisition Unit make them (R70, R104 to R106). -/

namespace Sys2Proof.Machine

variable {s : State}

/-- An update that leaves the pin count moves the revision where it changes the record (R104). -/
theorem revised_of_pins {old new : Record} (pins : new.pins = old.pins) : revised old new =
    if new = old then old else { new with revision := (old.revision + 1) % 256 } := by
  split
  next same => rw [same, revised_self]
  next ne => exact revised_of_ne pins ne

/-- An update of the OPEN record that leaves its pin count (R104, R105). -/
theorem updateOpen_eq {f : Record → Record} (pins : ∀ r, (f r).pins = r.pins) (s : State) :
    updateOpen f s = { s with ev := { s.ev with
      records := s.ev.records.map fun r =>
        if r.closed ∨ f r = r then r else { f r with revision := (r.revision + 1) % 256 } } } := by
  have record (r : Record) : (if r.closed then r else revised r (f r)) =
      if r.closed ∨ f r = r then r else { f r with revision := (r.revision + 1) % 256 } := by
    rw [revised_of_pins (pins r)]
    by_cases closed : r.closed = true
    · rw [if_pos closed, if_pos (.inl closed)]
    · rw [if_neg closed]
      exact if_congr (by simp [closed]) rfl rfl
  simp only [updateOpen, record]
  rfl

/-- The record with what the Detector hands over in one update (R104). -/
def Record.updated (d : Detector) (r : Record) : Record :=
  { r with
    participants := d.participants, cls := max r.cls d.cls, votePeak := d.votePeak
    clipped := r.clipped || d.clippedFlag, gap := r.gap || d.gapFlag }

theorem handUpdate_opened {seq : Nat} (opened : s.det.episode = .opened seq) :
    handUpdate s = { s with ev := { s.ev with
      records := s.ev.records.map fun r =>
        if r.closed ∨ r.updated s.det = r then r
        else { r.updated s.det with revision := (r.revision + 1) % 256 } } } := by
  have hands : handUpdate s = updateOpen (Record.updated s.det) s := by simp only [handUpdate, opened]; rfl
  exact hands.trans (updateOpen_eq (f := Record.updated s.det) (fun _ => rfl) s)

theorem handUpdate_idle (idle : ∀ seq, s.det.episode ≠ .opened seq) : handUpdate s = s := by
  unfold handUpdate
  split
  next => rfl
  next => rfl
  next seq opened => exact absurd opened (idle seq)

/-- RING_LOST on the record of an event, one update where it is OPEN (R105, R106). -/
theorem flagRingLost_eq (event : Nat) (s : State) :
    flagRingLost event s = { s with ev := { s.ev with
      records := s.ev.records.map fun r =>
        if r.seq ≠ event ∨ r.ringLost then r
        else if r.closed then { r with ringLost := true }
        else { r with ringLost := true, revision := (r.revision + 1) % 256 } } } := by
  have record (r : Record) : r.flagged event =
      if r.seq ≠ event ∨ r.ringLost then r
      else if r.closed then { r with ringLost := true }
      else { r with ringLost := true, revision := (r.revision + 1) % 256 } := by
    rw [Record.flagged, revised_of_pins (by rfl)]
    by_cases own : r.seq = event
    · by_cases lost : r.ringLost = true
      · have same : { r with ringLost := true } = r := by rw [← lost]
        rw [if_pos own, same, if_pos rfl, ite_self, if_pos (.inr lost)]
      · have ne : { r with ringLost := true } ≠ r := fun e => lost (congrArg Record.ringLost e).symm
        rw [if_pos own, if_neg (not_or.2 ⟨not_not.2 own, lost⟩), if_neg ne]
    · rw [if_neg own, if_pos (.inl own)]
  simp only [← record]
  rfl

end Sys2Proof.Machine
end

section
/-! An episode that goes on: the channels that join (R89), the class and its rise (R90, R92, R93), the hold request
(R70) and the quiet request (R94, R180). -/

namespace Sys2Proof.Machine

variable {s : State}

/-! ### Joins and retriggers (R89) -/

theorem joinEpisode_new {ch : Nat} {d : Detector} (new : ∀ p ∈ d.participants, p.channel ≠ ch) :
    joinEpisode ch d = { d with participants := d.participants ++ [newParticipant d d.onsetFrame ch] } :=
  if_neg (by simpa using new)

theorem joinEpisode_again {ch : Nat} {d : Detector} (again : ∃ p ∈ d.participants, p.channel = ch) :
    joinEpisode ch d = { d with participants := d.participants.map fun p =>
      if p.channel = ch then { p with
        reason := none, peakD := max p.peakD (d.channels.get ch).peakD
        peakRatio := max p.peakRatio (d.channels.get ch).peakRatio
        suspect := p.suspect && (d.channels.get ch).suspect }
      else p } :=
  if_pos (by simpa using again)

/-- The channels that trigger on a frame join one after the other. -/
def joinAll (joiners : List Nat) (d : Detector) : Detector := joiners.foldl (fun d ch => joinEpisode ch d) d

/-- The joins change the list of participants alone. -/
theorem joinAll_only (joiners : List Nat) (d : Detector) : ∃ ps, joinAll joiners d = { d with participants := ps } := by
  induction joiners generalizing d with
  | nil => exact ⟨d.participants, rfl⟩
  | cons ch rest ih =>
    obtain ⟨ps, joined⟩ := ih (joinEpisode ch d)
    refine ⟨ps, joined.trans ?_⟩
    unfold joinEpisode; dsimp only
    split <;> rfl

/-! ### The class (R90) -/

theorem livePeak_eq (d : Detector) (p : Participant) :
    livePeak d p = if p.reason = none then max p.peakD (d.channels.get p.channel).peakD else p.peakD :=
  if_congr Option.isNone_iff_eq_none rfl rfl

/-- A participant that is not suspect reaches a peak (R90). -/
def Reaches (d : Detector) (n : Nat) : Prop := ∃ p ∈ d.participants, p.suspect = false ∧ n ≤ livePeak d p

/-- A largest value reaches a bound where a value does. -/
theorem le_foldl_max {α : Type} (f : α → Nat) (l : List α) (n start : Nat) :
    n ≤ l.foldl (fun acc x => max acc (f x)) start ↔ n ≤ start ∨ ∃ x ∈ l, n ≤ f x := by
  induction l generalizing start with
  | nil => simp
  | cons x rest ih => rw [List.foldl_cons, ih, le_max_iff, or_assoc, List.exists_mem_cons_iff]

/-- The class by the peaks that are reached; without a participant that is not suspect none is (R90). -/
theorem classNow_cases (d : Detector) :
    (Reaches d d.cfg.t3 → classNow d = 3) ∧ (¬Reaches d d.cfg.t3 → Reaches d d.cfg.t2 → classNow d = 2) ∧
      (¬Reaches d d.cfg.t3 → ¬Reaches d d.cfg.t2 → classNow d = 1) := by
  unfold classNow; dsimp only
  split
  next suspect =>
    have none (n : Nat) : ¬Reaches d n := fun ⟨p, mem, sound, _⟩ =>
      Bool.false_ne_true (sound.symm.trans (List.all_eq_true.1 suspect p mem))
    exact ⟨fun r => absurd r (none _), fun _ r => absurd r (none _), fun _ _ => rfl⟩
  next sound =>
    obtain ⟨q, inList, clear⟩ : ∃ q ∈ d.participants, q.suspect = false := by simpa using sound
    have peak (n : Nat) : n ≤ (d.participants.filter fun p => !p.suspect).foldl
        (fun acc p => max acc (livePeak d p)) 0 ↔ Reaches d n := by
      simp only [le_foldl_max, List.mem_filter, Bool.not_eq_true', and_assoc]
      exact or_iff_right_of_imp fun zero => ⟨q, inList, clear, zero.trans (Nat.zero_le _)⟩
    have no {n : Nat} := mt (peak n).1
    exact ⟨fun r => if_pos ((peak _).2 r), fun n r => (if_neg (no n)).trans (if_pos ((peak _).2 r)),
      fun n m => (if_neg (no n)).trans (if_neg (no m))⟩

/-! ### The hold request (R70) -/

/-- A hold entry stands before another: of lower mark by R65's comparison, or of the same mark and of lower event. -/
def HoldEntry.Before (a b : HoldEntry) : Prop :=
  (0 < seqDiff b.mark a.mark ∧ seqDiff b.mark a.mark < 2 ^ 31) ∨ (b.mark = a.mark ∧ a.event < b.event)

theorem seqDiff_self (n : Nat) : seqDiff n n = 0 := by simp only [seqDiff, seqSpan]; omega

/-- A sequence less than 2^31 beyond another lies after it, and the other not after it (R65). -/
theorem seqAfter_of_before {a b : Nat} (low : 0 < seqDiff b a) (high : seqDiff b a < 2 ^ 31) :
    seqAfter b a = true ∧ seqAfter a b = false := by
  have ne : b % seqSpan ≠ a % seqSpan := by unfold seqDiff seqSpan at *; omega
  have beyond : ¬seqDiff a b < 2 ^ 31 := by unfold seqDiff seqSpan at *; omega
  constructor
  · rw [seqAfter, Bool.and_eq_true]
    exact ⟨decide_eq_true high, bne_iff_ne.2 ne⟩
  · rw [seqAfter, Bool.and_eq_false_iff]
    exact .inl (decide_eq_false beyond)

/-- The entry that stands before the other is the one that a full list gives up, whichever is named first. -/
theorem lowerEntry_of_before {a b : HoldEntry} (before : a.Before b) : lowerEntry a b = a ∧ lowerEntry b a = a := by
  rcases before with ⟨low, high⟩ | ⟨same, event⟩
  · have ne : b.mark ≠ a.mark := fun e => by rw [e, seqDiff_self] at low; exact Nat.lt_irrefl 0 low
    obtain ⟨after, notAfter⟩ := seqAfter_of_before low high
    simp [lowerEntry, ne, ne.symm, after, notAfter]
  · simp [lowerEntry, same, event, Nat.not_lt_of_lt event]

theorem lowerEntry_self (e : HoldEntry) : lowerEntry e e = e := by simp [lowerEntry]

/-- An entry that stands before all others is the one given up. -/
theorem foldl_lowerEntry {first out : HoldEntry} {rest : List HoldEntry} (member : out ∈ first :: rest)
    (before : ∀ e ∈ first :: rest, e ≠ out → out.Before e) : rest.foldl lowerEntry first = out := by
  have meets (e : HoldEntry) (mem : e ∈ first :: rest) : lowerEntry out e = out ∧ lowerEntry e out = out := by
    by_cases own : e = out
    · rw [own]; exact ⟨lowerEntry_self out, lowerEntry_self out⟩
    · exact lowerEntry_of_before (before e mem own)
  clear before
  induction rest generalizing first with
  | nil => exact (List.mem_singleton.1 member).symm
  | cons e rest ih =>
    refine ih (first := lowerEntry first e) ?_ fun x mem => meets x ?_
    · rcases List.mem_cons.1 member with rfl | later
      · rw [(meets e (by simp)).1]; exact List.mem_cons_self
      · rcases List.mem_cons.1 later with rfl | later
        · rw [(meets first (by simp)).2]; exact List.mem_cons_self
        · exact List.mem_cons_of_mem _ later
    · have pick : lowerEntry first e ∈ [first, e] := foldl_lowerEntry_mem first [e]
      rcases List.mem_cons.1 mem with rfl | later
      · exact List.mem_append_left rest pick
      · exact List.mem_append_right [first, e] later

theorem holdMark_eq {oldest : Frame} {rest : List Frame} (onset : Nat) (ring : s.acq.ring = oldest :: rest) :
    let mark := seqDiff onset (s.acq.cfg.preEvent * s.acq.cfg.rate.perSec)
    holdMark onset s = if (∃ f ∈ s.acq.ring, f.seq = onset) ∧ seqDiff mark oldest.seq < 2 ^ 31 then mark
      else oldest.seq := by
  simp only [holdMark, ring, List.head?_cons, frameInRing, seqAtOrAfter, Bool.and_eq_true, List.any_eq_true, beq_iff_eq,
    decide_eq_true_iff]

theorem holdRequest_held {event : Nat} (held : ∃ e ∈ s.acq.holds, e.event = event) (onset : Nat) :
    holdRequest event onset s = s := if_pos (by simpa using held)

theorem holdRequest_room {event : Nat} (new : ∀ e ∈ s.acq.holds, e.event ≠ event) (room : s.acq.holds.length < 4)
    (onset : Nat) : holdRequest event onset s =
      s.onAcq fun a => { a with
        holds := a.holds ++ [{ event := event, mark := holdMark onset s, close := none }] } := by
  unfold holdRequest; dsimp only
  rw [if_neg (by simpa using new)]
  split
  next empty => rw [State.onAcq, State.onAcq, empty]; rfl
  next => exact if_pos room

/-- A full list gives up the entry that stands before all others, and its record takes RING_LOST (R70, R105). -/
theorem holdRequest_full {event : Nat} {out : HoldEntry} (new : ∀ e ∈ s.acq.holds, e.event ≠ event)
    (full : 4 ≤ s.acq.holds.length) (member : out ∈ s.acq.holds)
    (before : ∀ e ∈ s.acq.holds, e ≠ out → out.Before e) (onset : Nat) : holdRequest event onset s =
      flagRingLost out.event (s.onAcq fun a => { a with holds := s.acq.holds.filter (fun e => e != out) ++
        [{ event := event, mark := holdMark onset s, close := none }] }) := by
  unfold holdRequest; dsimp only
  rw [if_neg (by simpa using new)]
  split
  next empty => rw [empty] at full; exact absurd full (by decide)
  next first rest holds =>
    rw [if_neg (Nat.not_lt.2 full)]
    rw [holds] at member before
    rw [foldl_lowerEntry member before]
    rfl

theorem holdRequest_ports (event onset : Nat) (s : State) : (holdRequest event onset s).ports = s.ports := by
  unfold holdRequest; dsimp only
  split
  · rfl
  · split
    · rfl
    · split <;> rfl

/-! ### A rise of the class (R90, R92, R93, R109) -/

theorem classRise_lost (lost : s.det.episode = .lost) (old : Nat) :
    classRise old s = if old < s.det.cls ∧ 2 ≤ s.det.cls then recorderWake s else s := by
  simp only [classRise, strongRequests, lost, ite_and]

theorem classRise_opened {seq : Nat} (opened : s.det.episode = .opened seq) (old : Nat) : classRise old s =
    let strong := if 2 ≤ s.det.cls then holdRequest seq s.det.onsetFrame (recorderWake s) else s
    let told : State := { strong with ports := s.ports.map fun r => { r with notices := r.notices ||| 0x4 } }
    if old < s.det.cls then (if s.det.cls = 3 then escalate seq told else told) else s := by
  have told : (if 2 ≤ s.det.cls then holdRequest seq s.det.onsetFrame (recorderWake s) else s).ports = s.ports := by
    split
    · exact holdRequest_ports ..
    · rfl
  simp only [classRise, strongRequests, opened, ← told]
  rfl

/-- The Detector after a frame's joins and vote in an episode (R89, R90). -/
def episodeAfter (frame : Frame) (joiners : List Nat) (d : Detector) : Detector :=
  { joinAll joiners d with
    cls := max d.cls (classNow (joinAll joiners d)), votePeak := max d.votePeak (voteSum d)
    clippedFlag := d.clippedFlag || frame.clipped }

theorem updateEpisode_joinAll (frame : Frame) (joiners : List Nat) (d : Detector) :
    updateEpisode frame (joinAll joiners d) = episodeAfter frame joiners d := by
  obtain ⟨ps, joined⟩ := joinAll_only joiners d
  rw [episodeAfter, joined]
  rfl

/-- The episode and its onset go on. -/
theorem episodeAfter_kept (frame : Frame) (joiners : List Nat) (d : Detector) :
    (episodeAfter frame joiners d).episode = d.episode ∧ (episodeAfter frame joiners d).onsetFrame = d.onsetFrame := by
  obtain ⟨ps, joined⟩ := joinAll_only joiners d
  rw [episodeAfter, joined]
  exact ⟨rfl, rfl⟩

theorem voteAndUpdate_lost (lost : s.det.episode = .lost) (frame : Frame) (joiners : List Nat) :
    let d := episodeAfter frame joiners s.det
    voteAndUpdate frame joiners s =
      if s.det.cls < d.cls ∧ 2 ≤ d.cls then recorderWake { s with det := d } else { s with det := d } := by
  intro d
  have runs : voteAndUpdate frame joiners s = classRise s.det.cls { s with det := d } := by
    simp only [voteAndUpdate, lost, d, ← updateEpisode_joinAll]
    rfl
  rw [runs]
  exact classRise_lost ((episodeAfter_kept frame joiners s.det).1.trans lost) s.det.cls

theorem voteAndUpdate_opened {seq : Nat} (opened : s.det.episode = .opened seq) (frame : Frame) (joiners : List Nat) :
    let d := episodeAfter frame joiners s.det
    let updated : State := { s with
      det := d
      ev := { s.ev with
        records := s.ev.records.map fun r =>
          if r.closed ∨ r.updated d = r then r else { r.updated d with revision := (r.revision + 1) % 256 } } }
    let strong := if 2 ≤ d.cls then holdRequest seq s.det.onsetFrame (recorderWake updated) else updated
    let told : State := { strong with ports := s.ports.map fun r => { r with notices := r.notices ||| 0x4 } }
    voteAndUpdate frame joiners s =
      if s.det.cls < d.cls then (if d.cls = 3 then escalate seq told else told) else updated := by
  intro d updated strong told
  obtain ⟨episode, onset⟩ := episodeAfter_kept frame joiners s.det
  have runs : voteAndUpdate frame joiners s = classRise s.det.cls (handUpdate { s with det := d }) := by
    simp only [voteAndUpdate, opened, d, ← updateEpisode_joinAll]
    rfl
  have hands : handUpdate { s with det := d } = updated := handUpdate_opened (episode.trans opened)
  have rises := classRise_opened (s := updated) (episode.trans opened) s.det.cls
  rw [show updated.det.onsetFrame = s.det.onsetFrame from onset] at rises
  rw [runs, hands]
  exact rises

/-! ### The quiet request (R94, R180) -/

theorem quietWanted_iff (d : Detector) : quietWanted d = true ↔
    (∃ seq, d.episode = .opened seq) ∨ ∃ ch, 1 ≤ ch ∧ ch ≤ 6 ∧ (d.channels.get ch).state = .triggered := by
  have opened : (match d.episode with | .none => false | .lost => false | .opened _ => true) = true ↔
      ∃ seq, d.episode = .opened seq := by cases d.episode <;> simp
  have triggered : (channelNumbers.any fun ch => (d.channels.get ch).state == .triggered) = true ↔
      ∃ ch, 1 ≤ ch ∧ ch ≤ 6 ∧ (d.channels.get ch).state = .triggered := by
    simp only [channelNumbers, List.any_eq_true, beq_iff_eq]
    refine exists_congr fun ch => ?_
    rw [← and_assoc]
    exact and_congr_left fun _ => by simp; omega
  rw [quietWanted, Bool.or_eq_true, triggered]
  exact or_congr_left opened

theorem formQuiet_same (same : quietWanted s.det = s.det.quiet) : formQuiet s = s := if_pos same

theorem formQuiet_change {q : Bool} (wanted : quietWanted s.det = q) (change : q ≠ s.det.quiet) :
    formQuiet s = reportQuiet q (s.onDet fun d => { d with quiet := q }) := by
  subst wanted; exact if_neg change

/-- The end of a heater's hold, by the level that its schedule calls for (R180). -/
theorem unheld_eq (h : Heater) (s : State) : unheld h s =
    if (s.ccu.heaters.get h).hold then
      driveOutput h ((s.ccu.heaters.get h).level s.tb.now) s.tb.now false (freed h s)
    else freed h s := by
  split
  next hold => exact (driveOutput_freed hold).symm
  next hold => exact unheld_of_no_edge (by simp [Paired.releaseEdge, hold])

/-- Settles O27: the joins, the class, the update and its rise, the hold request and the quiet request, each by its own
cases. -/
theorem episodesJoinAndRise : Obligations.EpisodesJoinAndRise := by
  refine ⟨fun ch d => ⟨joinEpisode_new, joinEpisode_again⟩, fun d => ?classes, fun frame joiners s =>
    ⟨fun lost => voteAndUpdate_lost lost frame joiners, fun seq opened => voteAndUpdate_opened opened frame joiners⟩,
    fun event onset s => ?hold, fun s => ?quiet⟩
  case classes =>
    intro reaches
    have peaks : reaches = Reaches d := funext fun n => by simp only [reaches, Reaches, livePeak_eq]
    rw [peaks]
    exact classNow_cases d
  case hold =>
    intro mark
    refine ⟨fun held => holdRequest_held held onset, fun oldest rest new room ring => ?_,
      fun oldest rest out new full ring member before => ?_⟩
    · have entry := holdMark_eq onset ring
      rw [holdRequest_room new room, entry]
      rfl
    · have entry := holdMark_eq onset ring
      rw [holdRequest_full new full member before, flagRingLost_eq, entry]
      rfl
  case quiet =>
    intro wanted report holds ends
    have iff : quietWanted s.det = true ↔ wanted := quietWanted_iff s.det
    refine ⟨fun same => formQuiet_same (Bool.eq_iff_iff.2 (iff.trans same)), fun wants quiet => ?_,
      fun unwanted quiet => ?_⟩
    · have begins (h : Heater) (x : State) : quietHeater h true x = holds h x := rfl
      rw [formQuiet_change (iff.2 wants) (by simp [quiet]), reportQuiet, begins, begins]
      rfl
    · have ended (h : Heater) (x : State) (same : x.tb = s.tb) : unheld h x = ends h x := by rw [unheld_eq, same]; rfl
      have first : unheld .hb (report false) = ends .hb (report false) := ended .hb _ rfl
      have second : unheld .ho (unheld .hb (report false)) = ends .ho (unheld .hb (report false)) := ended .ho _ rfl
      rw [formQuiet_change (Bool.eq_false_iff.2 (mt iff.1 unwanted)) (by simp [quiet]), reportQuiet_clear, ← first]
      exact second

end Sys2Proof.Machine
end

section
/-! The settings of acquisition and detection (R74, R75, R77, R78, R97) with what a change of them makes of the channels
and of an episode (R89, R91, R94), and the read of a channel (R98). -/

namespace Sys2Proof.Machine

variable {s : State}

/-! ### Bytes and their codes -/

theorem be_one_toNat (b : Byte) : be 1 b.toNat = [b] := by simp [be]

/-- The one byte that ends a request. -/
theorem natAt_last (b : Byte) : natAt [b] 0 1 = b.toNat := natAt_byte [] b []

/-- A byte followed by other fields. -/
theorem natAt_first (b : Byte) (rest : List Byte) : natAt ([b] ++ rest) 0 1 = b.toNat := natAt_byte [] b rest

/-- The rate that a byte of SET_DETECTOR names, where it names one (R97). -/
def SampleRate.named (b : Byte) : SampleRate := if b = 0 then .r50 else if b = 1 then .r100 else .r200

theorem SampleRate.ofCode_byte (b : Byte) :
    SampleRate.ofCode b.toNat = if b.toNat ≤ 2 then some (named b) else none := by
  have zero : b = 0 ↔ b.toNat = 0 := BitVec.toNat_inj (y := 0).symm
  have one : b = 1 ↔ b.toNat = 1 := BitVec.toNat_inj (y := 1).symm
  unfold named
  simp only [zero, one]
  generalize b.toNat = n
  match n with
  | 0 | 1 | 2 => rfl
  | n + 3 => exact (if_neg (by omega)).symm

theorem SampleRate.named_period (b : Byte) :
    (named b).period = if b = 0 then 200000 else if b = 1 then 100000 else 50000 := by
  unfold named; split_ifs <;> rfl

theorem NoticeClass.ofCode_code (c : NoticeClass) : NoticeClass.ofCode c.code = some c := by cases c <;> rfl

theorem NoticeClass.ofCode_above {n : Nat} (above : 2 < n) : NoticeClass.ofCode n = none := by
  match n with
  | n + 3 => rfl

/-! ### SET_ACQUISITION (R75) -/

theorem runSetAcquisition_spelled {seconds : Nat} (fits : seconds < 2 ^ 16) (pre : Byte) (s : State) :
    runSetAcquisition (be 2 seconds ++ [pre]) s =
      if seconds ≤ 600 ∧ pre.toNat ≤ 30 then
        taken [] (s.onAcq fun a => { a with cfg := { a.cfg with settleTime := seconds, preEvent := pre.toNat } })
      else refuse .outOfRange s := by
  have first : natAt (be 2 seconds ++ [pre]) 0 2 = seconds := natAt_be fits _
  have last : natAt (be 2 seconds ++ [pre]) 2 1 = pre.toNat := (natAt_beyond (by simp) ..).trans (by simp [natAt_last])
  have size : (be 2 seconds ++ [pre]).length = 3 := by simp
  unfold runSetAcquisition
  simp only [first, last, size, true_and]

/-! ### SET_DETECTOR (R74, R97) -/

/-- The settings as SET_DETECTOR spells them. -/
def DetectorCfg.spelled (rate priority : Byte) (c : DetectorCfg) : List Byte :=
  [rate] ++ be 1 c.holdoffTime ++ be 2 c.maxDuration ++ be 1 c.guard ++ be 1 c.window ++ be 1 c.threshold ++
    be 4 c.t2 ++ be 4 c.t3 ++ [priority]

/-- The settings fit into the fields that spell them. -/
structure DetectorCfg.Fits (c : DetectorCfg) : Prop where
  holdoffTime : c.holdoffTime < 2 ^ 8
  maxDuration : c.maxDuration < 2 ^ 16
  guard : c.guard < 2 ^ 8
  window : c.window < 2 ^ 8
  threshold : c.threshold < 2 ^ 8
  t2 : c.t2 < 2 ^ 32
  t3 : c.t3 < 2 ^ 32

/-- The ranges of the Detector's settings (R97). -/
abbrev DetectorCfg.InRange (c : DetectorCfg) : Prop :=
  (1 ≤ c.holdoffTime ∧ c.holdoffTime ≤ 30) ∧ (5 ≤ c.maxDuration ∧ c.maxDuration ≤ 600) ∧ c.guard ≤ 100 ∧
    (1 ≤ c.window ∧ c.window ≤ 100) ∧ (1 ≤ c.threshold ∧ c.threshold ≤ 18) ∧ (1 ≤ c.t2 ∧ c.t2 ≤ 8388606) ∧
    (c.t2 < c.t3 ∧ c.t3 ≤ 8388607)

theorem DetectorCfg.spelled_length (rate priority : Byte) (c : DetectorCfg) :
    (c.spelled rate priority).length = 16 := by simp [spelled]

/-- Settings that are spelled are read back where they are in their ranges (R97). -/
theorem detectorCfgOf_spelled {c : DetectorCfg} (fits : c.Fits) {priority : Byte}
    (named : priority.toNat = c.priority.code) (rate : Byte) : detectorCfgOf (c.spelled rate priority) =
      if rate.toNat ≤ 2 ∧ c.InRange then some (SampleRate.named rate, c) else none := by
  have size := DetectorCfg.spelled_length rate priority c
  obtain ⟨_, _, _, _, _, _, _⟩ := fits
  simp only [detectorCfgOf, size]
  simp only [DetectorCfg.spelled, List.append_assoc, natAt_beyond, be_length, List.length_singleton, Nat.reduceLeDiff,
    Nat.reduceSub, natAt_first, natAt_last, named, NoticeClass.ofCode_code]
  simp (disch := assumption) only [natAt_be, SampleRate.ofCode_byte]
  by_cases known : rate.toNat ≤ 2
  · simp only [known, if_true, true_and, and_assoc]
  · simp only [known, if_false, false_and]

/-- A priority above ALARM is out of range, whatever stands before it (R97). -/
theorem detectorCfgOf_priority {front : List Byte} (size : front.length = 15) {priority : Byte}
    (above : 2 < priority.toNat) : detectorCfgOf (front ++ [priority]) = none := by
  have last : natAt (front ++ [priority]) 15 1 = priority.toNat := size ▸ natAt_byte front priority []
  unfold detectorCfgOf
  rw [last, NoticeClass.ofCode_above above]
  cases SampleRate.ofCode (natAt (front ++ [priority]) 0 1) <;> rfl

theorem runSetDetector_of {args : List Byte} {rate : SampleRate} {c : DetectorCfg}
    (settings : detectorCfgOf args = some (rate, c)) (s : State) : runSetDetector args s = taken [] (settle
      (if rate = s.acq.cfg.rate then s.onDet fun d => { d with cfg := c }
      else changeRate rate (s.onDet fun d => { d with cfg := c }))) := by
  simp only [runSetDetector, settings]

theorem runSetDetector_refused {args : List Byte} (bad : detectorCfgOf args = none) (s : State) :
    runSetDetector args s = refuse .outOfRange s := by
  simp only [runSetDetector, bad]

/-- A change of rate while the stream runs waits for the next whole second (R74). -/
theorem changeRate_running (rate : SampleRate) (running : s.acq.state = .running) (on : s.ccu.ch4.mode ≠ .off) :
    changeRate rate s = detectorRateChange { s with
      acq := { s.acq with cfg := { s.acq.cfg with rate := rate } }
      ccu := { s.ccu with ch4 := { s.ccu.ch4 with waiting := some {
        period := rate.period, phase := 0, loadTime := some (nextSecond s.tb.now) } } } } := by
  have load : s.ccu.ch4.load rate.period 0 (some (nextSecond s.tb.now)) = { s.ccu.ch4 with waiting := some {
      period := rate.period, phase := 0, loadTime := some (nextSecond s.tb.now) } } := by
    rw [Compare.load, if_pos (SampleRate.scheduleOk_period rate), if_neg on]
  unfold changeRate; dsimp only
  rw [if_pos running]
  exact congrArg (fun ch4 => detectorRateChange { s with
    acq := { s.acq with cfg := { s.acq.cfg with rate := rate } }, ccu := { s.ccu with ch4 := ch4 } }) load

theorem changeRate_still (rate : SampleRate) (still : s.acq.state ≠ .running) : changeRate rate s =
    detectorRateChange { s with acq := { s.acq with cfg := { s.acq.cfg with rate := rate } } } := by
  simp only [changeRate, still, if_false]
  rfl

/-! ### SET_DETECTOR_CHANNEL (R77, R78) -/

/-- The parameters as SET_DETECTOR_CHANNEL spells them. -/
def ChannelCfg.spelled (ch enabled critical : Byte) (c : ChannelCfg) : List Byte :=
  [ch, enabled] ++ be 1 c.weight ++ be 1 c.h ++ be 1 c.ks ++ be 1 c.kl ++ be 1 c.rt ++ be 1 c.rd ++
    be 2 c.lmin ++ [critical]

/-- The parameters fit into the fields that spell them. -/
structure ChannelCfg.Fits (enabled critical : Byte) (c : ChannelCfg) : Prop where
  enabled : c.enabled = (enabled == 1)
  weight : c.weight < 2 ^ 8
  h : c.h < 2 ^ 8
  ks : c.ks < 2 ^ 8
  kl : c.kl < 2 ^ 8
  rt : c.rt < 2 ^ 8
  rd : c.rd < 2 ^ 8
  lmin : c.lmin < 2 ^ 16
  critical : c.critical = (critical == 1)

/-- The ranges and the relations of one channel's parameters (R77). -/
abbrev ChannelCfg.InRange (c : ChannelCfg) : Prop :=
  c.weight ≤ 3 ∧ (4 ≤ c.h ∧ c.h ≤ 12) ∧ (1 ≤ c.ks ∧ c.ks ≤ 8) ∧ (6 ≤ c.kl ∧ c.kl ≤ 14) ∧ c.ks + 3 ≤ c.kl ∧ 20 ≤ c.rt ∧
    (16 ≤ c.rd ∧ c.rd < c.rt)

theorem ChannelCfg.spelled_length (ch enabled critical : Byte) (c : ChannelCfg) :
    (c.spelled ch enabled critical).length = 11 := by simp [spelled]

/-- A flag byte is set where its number is 1. -/
theorem toNat_beq_one (b : Byte) : (b.toNat == 1) = (b == 1) := by
  rw [Bool.eq_iff_iff, beq_iff_eq, beq_iff_eq]
  exact BitVec.toNat_inj (y := 1)

/-- The request as one field after the other. -/
theorem ChannelCfg.spelled_fields (ch enabled critical : Byte) (c : ChannelCfg) : c.spelled ch enabled critical =
    [ch] ++ ([enabled] ++ (be 1 c.weight ++ (be 1 c.h ++ (be 1 c.ks ++ (be 1 c.kl ++ (be 1 c.rt ++ (be 1 c.rd ++
      (be 2 c.lmin ++ [critical])))))))) := by
  simp only [spelled, List.append_assoc]
  rfl

/-- The three bytes of a channel's request beside the parameters' numbers. -/
theorem channelBytes_spelled (ch enabled critical : Byte) (c : ChannelCfg) :
    natAt (c.spelled ch enabled critical) 0 1 = ch.toNat ∧ natAt (c.spelled ch enabled critical) 1 1 = enabled.toNat ∧
      natAt (c.spelled ch enabled critical) 10 1 = critical.toNat := by
  simp only [ChannelCfg.spelled_fields, natAt_beyond, be_length, List.length_singleton, Nat.reduceLeDiff, Nat.reduceSub,
    natAt_first, natAt_last, and_self]

theorem channelCfgOf_spelled {enabled critical : Byte} {c : ChannelCfg} (fits : c.Fits enabled critical) (ch : Byte) :
    channelCfgOf (c.spelled ch enabled critical) = c := by
  obtain ⟨-, second, last⟩ := channelBytes_spelled ch enabled critical c
  obtain ⟨on, _, _, _, _, _, _, _, crit⟩ := fits
  rw [channelCfgOf, second, last, toNat_beq_one, toNat_beq_one, ← on, ← crit]
  simp only [ChannelCfg.spelled_fields, natAt_beyond, be_length, List.length_singleton, Nat.reduceLeDiff, Nat.reduceSub]
  simp (disch := assumption) only [natAt_be]

theorem channelArgsOk_spelled {enabled critical : Byte} {c : ChannelCfg} (fits : c.Fits enabled critical) (ch : Byte) :
    channelArgsOk (c.spelled ch enabled critical) = true ↔
      (1 ≤ ch.toNat ∧ ch.toNat ≤ 6) ∧ enabled.toNat ≤ 1 ∧ critical.toNat ≤ 1 ∧ c.InRange := by
  obtain ⟨first, second, last⟩ := channelBytes_spelled ch enabled critical c
  unfold channelArgsOk
  simp only [first, second, last, channelCfgOf_spelled fits, ChannelCfg.spelled_length, Bool.and_eq_true,
    decide_eq_true_iff, true_and]
  tauto

/-- SET_DETECTOR_CHANNEL with parameters that are spelled (R77). -/
theorem runSetDetectorChannel_spelled {enabled critical : Byte} {c : ChannelCfg} (fits : c.Fits enabled critical)
    (ch : Byte) (s : State) : runSetDetectorChannel (c.spelled ch enabled critical) s =
      if (1 ≤ ch.toNat ∧ ch.toNat ≤ 6) ∧ enabled.toNat ≤ 1 ∧ critical.toNat ≤ 1 ∧ c.InRange then
        taken [] (settle (afterChannelChange (s.onDet (reconfigure ch.toNat c s.pw.level))))
      else refuse .outOfRange s := by
  obtain ⟨first, -⟩ := channelBytes_spelled ch enabled critical c
  unfold runSetDetectorChannel
  rw [first, channelCfgOf_spelled fits]
  exact if_congr (channelArgsOk_spelled fits ch) rfl rfl

/-! ### Triggers that end and channels that start over (R77, R80, R89, R95, R97) -/

/-- A participant's entry when channel `ch`, which stands as `c`, ends its trigger for a reason. -/
def Participant.endedAt (ch : Nat) (reason : Reason) (c : Channel) (p : Participant) : Participant :=
  if c.state = .triggered ∧ p.channel = ch ∧ p.reason = none then p.finish reason c else p

theorem endTrigger_eq (ch : Nat) (reason : Reason) (d : Detector) : endTrigger ch reason d =
    { d with participants := d.participants.map (Participant.endedAt ch reason (d.channels.get ch)) } := by
  unfold endTrigger Participant.endedAt
  by_cases triggered : (d.channels.get ch).state = .triggered <;> simp [triggered]

theorem Participant.endedAt_channel (ch : Nat) (reason : Reason) (c : Channel) (p : Participant) :
    (p.endedAt ch reason c).channel = p.channel := by unfold Participant.endedAt; split <;> rfl

/-- A participant's channel and reason when a trigger ends. -/
theorem Participant.endedAt_reason (ch : Nat) (reason : Reason) (c : Channel) (p : Participant) :
    ((p.endedAt ch reason c).channel, (p.endedAt ch reason c).reason) =
      (p.channel, if c.state = .triggered ∧ p.channel = ch ∧ p.reason = none then some reason else p.reason) := by
  unfold Participant.endedAt; split <;> rfl

theorem Participant.endedAt_other {ch : Nat} {p : Participant} (other : p.channel ≠ ch) (reason : Reason)
    (c : Channel) : p.endedAt ch reason c = p := if_neg fun ⟨_, own, _⟩ => other own

/-- Every participant's entry is ended by its own channel only. -/
theorem foldl_endedAt (reason : Reason) (x : Six Channel) {p : Participant} (low : 1 ≤ p.channel)
    (high : p.channel ≤ 6) : channelNumbers.foldl (fun p ch => p.endedAt ch reason (x.get ch)) p =
      p.endedAt p.channel reason (x.get p.channel) := by
  have own : p.channel = 1 ∨ p.channel = 2 ∨ p.channel = 3 ∨ p.channel = 4 ∨ p.channel = 5 ∨ p.channel = 6 := by omega
  rcases own with e | e | e | e | e | e <;>
    simp [channelNumbers, Participant.endedAt_other, Participant.endedAt_channel, e]

theorem foldl_endTrigger (reason : Reason) (d : Detector) :
    channelNumbers.foldl (fun x ch => endTrigger ch reason x) d = { d with
      participants := d.participants.map fun p =>
        channelNumbers.foldl (fun p ch => p.endedAt ch reason (d.channels.get ch)) p } := by
  simp only [channelNumbers, List.foldl_cons, List.foldl_nil, endTrigger_eq, List.map_map, Function.comp_def]

/-- Every trigger ends, and every channel that is not OFF starts over (R80, R95, R97). -/
theorem restartAll_eq {reason : Reason} {d : Detector}
    (inside : ∀ p ∈ d.participants, 1 ≤ p.channel ∧ p.channel ≤ 6) : restartAll reason d = { d with
      channels := d.channels.map fun _ c => if c.state = .off then c else { c with state := .warmup, warm := 0 }
      participants := d.participants.map fun p => p.endedAt p.channel reason (d.channels.get p.channel) } := by
  have entries := List.map_congr_left fun p mem =>
    foldl_endedAt reason d.channels (p := p) (inside p mem).1 (inside p mem).2
  rw [restartAll, foldl_endTrigger, entries]
  rfl

theorem markGap_eq (d : Detector) : markGap d = { d with
    gapFlag := d.gapFlag || match d.episode with | .opened _ => true | .none => false | .lost => false } := by
  obtain ⟨_, _, episode, _⟩ := d
  cases episode <;> simp [markGap]

theorem Channel.reconfigured_workingState (c : ChannelCfg) (level : Option Level) (x : Channel) :
    x.reconfigured (workingState c level) =
      if c.enabled ∧ (c.critical ∨ (level ≠ some .critical ∧ level ≠ some .dormant)) then
        { x with state := .warmup, warm := 0 }
      else { x with state := .off } := by
  rw [workingState_eq]
  split <;> rfl

/-- A channel with new parameters is put to work by them, and its trigger ends (R77, R78). -/
theorem reconfigure_eq (ch : Nat) (c : ChannelCfg) (level : Option Level) (d : Detector) :
    reconfigure ch c level d = { d with
      params := d.params.update ch fun _ => c
      channels := d.channels.update ch fun x =>
        if c.enabled ∧ (c.critical ∨ (level ≠ some .critical ∧ level ≠ some .dormant)) then
          { x with state := .warmup, warm := 0 }
        else { x with state := .off }
      participants := d.participants.map (Participant.endedAt ch .reconfigured (d.channels.get ch)) } := by
  rw [reconfigure, endTrigger_eq]
  simp only [Channel.reconfigured_workingState]

theorem afterChannelChange_eq (s : State) :
    afterChannelChange s = formQuiet (closeIfDone s.tb.now s.det.lastHanded (handUpdate s)) := by
  have kept : (handUpdate s).tb = s.tb ∧ (handUpdate s).det = s.det := by
    unfold handUpdate; split <;> exact ⟨rfl, rfl⟩
  rw [afterChannelChange, kept.1, kept.2]

/-! ### GET_DETECTOR_CHANNEL (R98) -/

theorem runGetDetectorChannel_eq (ch : Byte) (s : State) : runGetDetectorChannel [ch] s =
    if 1 ≤ ch.toNat ∧ ch.toNat ≤ 6 then
      taken (detectorChannelData ch.toNat (s.det.params.get ch.toNat) (s.det.channels.get ch.toNat)) s
    else refuse .outOfRange s := by
  unfold runGetDetectorChannel
  simp only [natOf_single, List.length_singleton, true_and]

theorem triggerData_eq (t : Option (Time × Nat)) :
    triggerData t = match t with | none => zeros 12 | some (time, f) => timeBytes time ++ be 4 f := by
  cases t <;> rfl

theorem exec_getDetectorChannel {p : Port} {ch : Byte} (adm : Admits p .read s) (tag : Byte) :
    exec (.getDetectorChannel p tag [ch]) s = .next (if 1 ≤ ch.toNat ∧ ch.toNat ≤ 6 then
      s.answered p tag .ok (detectorChannelData ch.toNat (s.det.params.get ch.toNat) (s.det.channels.get ch.toNat))
    else s.answered p tag .outOfRange []) := by
  have runs := runGetDetectorChannel_eq ch (s.taking p tag)
  by_cases inside : 1 ≤ ch.toNat ∧ ch.toNat ≤ 6
  · rw [if_pos inside] at runs ⊢
    exact request_answers adm runs
  · rw [if_neg inside] at runs ⊢
    exact request_answers adm runs

/-- Settles O29: each command through its spelled request, then what it makes of the channels and of the episode. -/
theorem detectorSettingsAreWritten : Obligations.DetectorSettingsAreWritten := by
  refine ⟨fun p tag settleTime pre s adm fits => ?acquisition,
    fun p tag rate priority c s adm h1 h2 h3 h4 h5 h6 h7 named => ?detector,
    fun p tag front priority s adm size above => ?priority,
    fun p tag ch enabled critical c s adm h1 h2 h3 h4 h5 h6 h7 on crit => ?channel, fun s inside => ?restart,
    afterChannelChange_eq, fun s => ⟨fun seq opened => handUpdate_opened opened, handUpdate_idle⟩,
    fun p tag ch s adm => ?read⟩
  case acquisition =>
    have runs := runSetAcquisition_spelled fits pre (s.taking p tag)
    refine ⟨fun settles before => ?_, fun outside => ?_⟩
    · exact request_leaves adm (runs.trans (if_pos ⟨settles, before⟩))
    · exact request_answers adm (runs.trans (if_neg (by omega)))
  case detector =>
    intro args ok newRate period
    have settings : detectorCfgOf args = if ok then some (newRate, c) else none :=
      detectorCfgOf_spelled ⟨h1, h2, h3, h4, h5, h6, h7⟩ (named.trans (NoticeClass.code_eq _).symm) rate
    have named : newRate.period = period := SampleRate.named_period rate
    let written : State := (s.taking p tag).onDet fun d => { d with cfg := c }
    have runs (good : ok) : runSetDetector args (s.taking p tag) =
        taken [] (settle (if newRate = s.acq.cfg.rate then written else changeRate newRate written)) :=
      runSetDetector_of (settings.trans (if_pos good)) _
    refine ⟨fun good same => request_takes adm ((runs good).trans ?_),
      fun good change running on => request_takes adm ((runs good).trans ?_),
      fun good change still => request_takes adm ((runs good).trans ?_),
      fun bad => request_answers adm (runSetDetector_refused (settings.trans (if_neg bad)) _)⟩
    · rw [if_pos same]
    · rw [if_neg change, changeRate_running (s := written) _ running on, named]
      rfl
    · rw [if_neg change, changeRate_still (s := written) _ still]
      rfl
  case priority => exact request_answers adm (runSetDetector_refused (detectorCfgOf_priority size above) _)
  case channel =>
    intro args ok
    have runs := runSetDetectorChannel_spelled (c := c) ⟨on, h1, h2, h3, h4, h5, h6, h7, crit⟩ ch (s.taking p tag)
    refine ⟨fun good => ⟨reconfigure ch.toNat c s.pw.level s.det, request_takes adm (runs.trans (if_pos good)), ?_⟩,
      fun bad => request_answers adm (runs.trans (if_neg bad))⟩
    rw [reconfigure_eq]
    refine ⟨rfl, rfl, rfl, ?_⟩
    rw [List.map_map]
    exact List.map_congr_left fun r _ => r.endedAt_reason ..
  case restart =>
    rw [detectorRateChange, State.onDet, markGap_eq, restartAll_eq inside]
    simp only [Participant.endedAt, true_and]
    rfl
  case read =>
    intro c x
    rw [exec_getDetectorChannel adm tag]
    simp only [detectorChannelData, channelCfgData, be_one_toNat, boolByte_eq, triggerData_eq, ChannelState.code_eq,
      List.append_assoc]
    rfl

end Sys2Proof.Machine
end

section
/-! The channel arithmetic of one frame (R81 to R86). -/

namespace Sys2Proof.Machine

theorem suspectAt_eq (t guard : Nat) (edge : Option Time) : suspectAt t guard edge =
    match edge with
    | none => false
    | some e => decide (0 < guard ∧ t ≤ e + guard * 1000000) := by
  cases edge with
  | none => rfl
  | some e => exact (Bool.decide_and ..).symm

/-- Settles O26: one equation of the channel arithmetic per state of the channel and per outcome of its test. -/
theorem channelsFollowTheirAverages : Obligations.ChannelsFollowTheirAverages := by
  intro frame x rate cfg edge p c d m e sta floor lta ratio out
  refine ⟨fun off => ?off, fun warmup => ?warmup, fun quiet below => ?stays, fun quiet reached => ?triggers,
    fun triggered below => ?detriggers, fun at' seq triggered trigger reached => ?holds, fun holdoff left => ?holdoff⟩
  case off => simp only [out, channelWork, off]
  case warmup =>
    simp only [out, channelWork, warmup]
    split <;> rfl
  case stays =>
    simp only [out, channelWork, quiet]
    exact if_neg (Int.not_le.2 below)
  case triggers =>
    simp only [out, channelWork, quiet, suspectAt_eq]
    exact if_pos reached
  case detriggers =>
    simp only [out, channelWork, triggered]
    exact if_pos below
  case holds =>
    obtain ⟨_, _, _, _, _, _, _, _, _, _⟩ := c
    obtain rfl : _ = ChannelState.triggered := triggered
    obtain rfl : _ = some (at', seq) := trigger
    intro peaked since
    have test : out = if cfg.maxDuration * rate < since then
        ({ peaked with state := .holdoff, holdoff := cfg.holdoffTime * rate }, .ended .duration)
      else (peaked, .nothing) := if_neg (Int.not_lt.2 reached)
    rw [test]
    exact ⟨fun within => if_neg (Nat.not_lt.2 within), fun beyond => if_pos beyond⟩
  case holdoff =>
    have last : c.holdoff - 1 = 0 ↔ c.holdoff = 1 := by omega
    simp only [out, channelWork, holdoff, last]
    split
    next one => rw [one]
    next => rfl

end Sys2Proof.Machine
end

section
/-! The gap accounting of a frame (R80), and the frames that end a trigger, a warm-up or a holdoff (R82, R84, R85). -/

namespace Sys2Proof.Machine

variable {s : State} {f : Frame}

/-! ### Gap accounting (R80) -/

theorem foldl_endedAt_outside (reason : Reason) (x : Six Channel) {p : Participant}
    (outside : ¬(1 ≤ p.channel ∧ p.channel ≤ 6)) :
    channelNumbers.foldl (fun p ch => p.endedAt ch reason (x.get ch)) p = p := by
  have other : p.channel ≠ 1 ∧ p.channel ≠ 2 ∧ p.channel ≠ 3 ∧ p.channel ≠ 4 ∧ p.channel ≠ 5 ∧ p.channel ≠ 6 := by omega
  simp [channelNumbers, Participant.endedAt_other, other]

/-- A participant's entry when all channels end their triggers for a reason: only a channel's own entry takes it. -/
def Participant.endedIn (reason : Reason) (x : Six Channel) (p : Participant) : Participant :=
  if 1 ≤ p.channel ∧ p.channel ≤ 6 ∧ (x.get p.channel).state = .triggered ∧ p.reason = none then
    p.finish reason (x.get p.channel)
  else p

theorem foldl_endedAt_eq (reason : Reason) (x : Six Channel) (p : Participant) :
    channelNumbers.foldl (fun p ch => p.endedAt ch reason (x.get ch)) p = p.endedIn reason x := by
  unfold Participant.endedIn
  by_cases inside : 1 ≤ p.channel ∧ p.channel ≤ 6
  · rw [foldl_endedAt reason x inside.1 inside.2]
    simp [Participant.endedAt, inside]
  · rw [foldl_endedAt_outside reason x inside, if_neg fun h => inside ⟨h.1, h.2.1⟩]

/-- A gap action (R80). -/
theorem gapAction_eq (d : Detector) : gapAction d = { d with
    gapRun := 0, gapActions := min 65535 (d.gapActions + 1)
    gapFlag := match d.episode with | .opened _ => true | .none => d.gapFlag | .lost => d.gapFlag
    channels := d.channels.map fun _ c => if c.state = .off then c else { c with state := .warmup, warm := 0 }
    participants := d.participants.map (Participant.endedIn .gap d.channels) } := by
  have restarted : restartAll .gap d = { d with
      channels := d.channels.map fun _ c => if c.state = .off then c else { c with state := .warmup, warm := 0 }
      participants := d.participants.map (Participant.endedIn .gap d.channels) } := by
    rw [restartAll, foldl_endTrigger, funext (foldl_endedAt_eq .gap d.channels)]
    rfl
  obtain ⟨_, _, episode, _⟩ := d
  rw [gapAction, restarted, satInc_eq]
  cases episode <;> rfl

/-- The gap run with a frame's skipped strobes, and 1 for a MISSING frame (R80). -/
def gapRunWith (f : Frame) (d : Detector) : Nat :=
  d.gapRun + f.stepGap.getD 0 + if f.samples = none then 1 else 0

theorem gapAccounting_continues {d : Detector} (noSet : f.stepGap ≠ some 0) (short : gapRunWith f d ≤ 4) :
    gapAccounting f d = { d with gapRun := if f.samples = none then gapRunWith f d else 0 } := by
  have run : d.gapRun + f.stepGap.getD 0 + (if f.samples.isNone then 1 else 0) = gapRunWith f d := by
    simp only [gapRunWith, Option.isNone_iff_eq_none]
  unfold gapAccounting
  simp only [run, if_neg noSet, if_neg (Nat.not_lt.2 short)]
  cases f.samples <;> rfl

/-- A step of the time scale discards an edge later than its frame (R80). -/
theorem gapAccounting_breaks {d : Detector} (broken : f.stepGap = some 0 ∨ 4 < gapRunWith f d) :
    gapAccounting f d = { gapAction d with
      lastEdge := match d.lastEdge with
        | none => none
        | some e => if f.stepGap = some 0 ∧ f.timestamp < e then none else some e } := by
  have run : d.gapRun + f.stepGap.getD 0 + (if f.samples.isNone then 1 else 0) = gapRunWith f d := by
    simp only [gapRunWith, Option.isNone_iff_eq_none]
  unfold gapAccounting
  simp only [run, gapAction_eq]
  by_cases set : f.stepGap = some 0
  · simp only [set, if_true, true_and, ite_self]
    cases d.lastEdge <;> rfl
  · simp only [set, if_false, if_pos (broken.resolve_left set), false_and, ite_self]
    cases d.lastEdge <;> rfl

/-! ### The next frame -/

/-- What a frame with samples does to a channel, by the channel arithmetic (R81 to R86). -/
def channelShare (f : Frame) (x : Samples) (rate : Nat) (d : Detector) (ch : Nat) : Channel × ChannelNews :=
  channelWork f (sampleOf x ch) rate d.cfg d.lastEdge (d.params.get ch) (d.channels.get ch)

theorem workSamples_get (f : Frame) (x : Samples) (s : State) (ch : Nat) :
    (workSamples f x s).get ch = channelShare f x s.acq.cfg.rate.perSec s.det ch := by
  match ch with
  | 0 | 1 | 2 | 3 | 4 | 5 | 6 | n + 7 => rfl

theorem takeFrame_of {rest : List Frame} (waits : s.det.waiting = f :: rest) :
    takeFrame s = workFrame f (s.onDet fun d => { d with waiting := rest }) := by simp only [takeFrame, waits]

/-- The news of the next frame where its gap run stays short (R80). -/
theorem nextFrameNews_of {rest : List Frame} {x : Samples} (waits : s.det.waiting = f :: rest)
    (samples : f.samples = some x) (noGap : f.stepGap = none) (short : s.det.gapRun ≤ 4) (ch : Nat) :
    let share := channelShare f x s.acq.cfg.rate.perSec s.det ch
    nextFrameNews ch s = some ((s.det.channels.get ch).state, share.1.state, share.2) := by
  have run : gapRunWith f s.det ≤ 4 := by simpa [gapRunWith, noGap, samples] using short
  have gap := gapAccounting_continues (by simp [noGap]) run
  simp only [nextFrameNews, waits, samples, workSamples_get, State.onDet_det, gap]
  rfl

/-- Settles O24: the frame's work is taken, and what the channel arithmetic makes of the frame is what each of the three
commands waits for. -/
theorem detectorFramesAreWorkedInOrder : Obligations.DetectorFramesAreWorkedInOrder := by
  intro f rest s released waits step
  have takes {due : State → Bool} (isDue : due s = true) :
      takeEvent due (fun x => settle (takeFrame x)) s = .next step := by
    rw [takeEvent_due released isDue, takeFrame_of waits]
  refine ⟨takes (due := frameWaits) (by simp [frameWaits, waits]), fun ch x low high samples noGap short => ?_⟩
  intro c p
  have channel : channelNumbers.contains ch = true := by interval_cases ch <;> rfl
  have news := nextFrameNews_of waits samples noGap short ch
  have moves {old new : ChannelState} (before : c.state = old)
      (after : (channelShare f x s.acq.cfg.rate.perSec s.det ch).1.state = new) :
      takeEvent (fun y => channelNumbers.contains ch && movesState old new ch y) (fun y => settle (takeFrame y)) s =
        .next step :=
    takes (by simp only [channel, movesState, news, after, ← before, c, beq_self_eq_true, Bool.and_self])
  obtain ⟨-, warmup, -, -, -, triggered, holdoff⟩ := channelsFollowTheirAverages f (sampleOf x ch)
    s.acq.cfg.rate.perSec s.det.cfg s.det.lastEdge p c
  refine ⟨fun state last => moves (new := .quiet) state ?_, fun state last => moves (new := .quiet) state ?_, ?duration⟩
  · exact (congrArg (fun w => w.1.state) (warmup state)).trans (if_pos last)
  · exact (congrArg (fun w => w.1.state) (holdoff state (Nat.le_of_eq last.symm))).trans (if_pos last)
  case duration =>
    intro at' seq state trigger d sta reached beyond
    have ends : (channelShare f x s.acq.cfg.rate.perSec s.det ch).2 = .ended .duration :=
      congrArg Prod.snd ((triggered at' seq state trigger reached).2 beyond)
    exact takes (due := fun x => channelNumbers.contains ch && endsDuration ch x)
      (by simp only [channel, endsDuration, news, ends, Bool.and_self])

end Sys2Proof.Machine
end

section
/-! The vote (R87), and the steps of a frame's work (R79). -/

namespace Sys2Proof.Machine

variable {s : State} {f : Frame} {d : Detector}

/-! ### The vote (R87) -/

theorem mem_channelNumbers {ch : Nat} : ch ∈ channelNumbers ↔ 1 ≤ ch ∧ ch ≤ 6 := by
  simp only [channelNumbers, List.mem_cons, List.not_mem_nil, or_false]
  omega

/-- The channels that the vote counts. -/
theorem mem_filter_counted {ch : Nat} : ch ∈ channelNumbers.filter (counted d) ↔ Counted d ch := by
  simp only [List.mem_filter, mem_channelNumbers, counted, Counted, Bool.and_eq_true, beq_iff_eq, Bool.not_eq_true',
    decide_eq_true_iff, and_assoc]

/-- Of two channels, the one that the vote takes as the earlier. -/
def earlierOf (d : Detector) (acc : Option Nat) (ch : Nat) : Option Nat :=
  match acc with
  | none => some ch
  | some m => if (triggerOf d ch).1 < (triggerOf d m).1 then some ch else some m

theorem earliestCounted_eq (d : Detector) :
    earliestCounted d = (channelNumbers.filter (counted d)).foldl (earlierOf d) none := rfl

theorem foldl_earlierOf_stays {first : Nat} {l : List Nat}
    (least : ∀ ch ∈ l, triggerTime d first ≤ triggerTime d ch) : l.foldl (earlierOf d) (some first) = some first := by
  induction l with
  | nil => rfl
  | cons ch rest ih =>
    have stays : earlierOf d (some first) ch = some first := if_neg (Nat.not_lt.2 (least ch List.mem_cons_self))
    rw [List.foldl_cons, stays]
    exact ih fun c mem => least c (List.mem_cons_of_mem ch mem)

/-- In a list of rising numbers the earliest channel is found, the lower number first where two are equal (R87). -/
theorem foldl_earlierOf {first : Nat} {l : List Nat} {acc : Option Nat} (rising : l.Pairwise (· < ·))
    (member : first ∈ l)
    (least : ∀ ch ∈ l, triggerTime d first < triggerTime d ch ∨ (triggerTime d first = triggerTime d ch ∧ first ≤ ch))
    (later : ∀ m, acc = some m → triggerTime d first < triggerTime d m) : l.foldl (earlierOf d) acc = some first := by
  induction l generalizing acc with
  | nil => exact absurd member List.not_mem_nil
  | cons ch rest ih =>
    obtain ⟨below, rising⟩ := List.pairwise_cons.1 rising
    have leastRest c (mem : c ∈ rest) := least c (List.mem_cons_of_mem ch mem)
    rw [List.foldl_cons]
    rcases List.mem_cons.1 member with rfl | member
    · have found : earlierOf d acc first = some first := by
        cases acc with
        | none => rfl
        | some m => exact if_pos (later m rfl)
      rw [found]
      exact foldl_earlierOf_stays fun c mem => (leastRest c mem).elim Nat.le_of_lt fun same => Nat.le_of_eq same.1
    · have beyond : triggerTime d first < triggerTime d ch :=
        (least ch List.mem_cons_self).resolve_right fun same => Nat.not_le.2 (below first member) same.2
      refine ih rising member leastRest fun m taken => ?_
      have either : m = ch ∨ acc = some m := by
        unfold earlierOf at taken
        split at taken
        next => exact .inl (Option.some.inj taken).symm
        next => split at taken; exacts [.inl (Option.some.inj taken).symm, .inr taken]
      rcases either with rfl | taken
      · exact beyond
      · exact later m taken

theorem earliestCounted_of {first : Nat} (earliest : EarliestCounted d first) : earliestCounted d = some first := by
  obtain ⟨isCounted, least⟩ := earliest
  rw [earliestCounted_eq]
  refine foldl_earlierOf (List.Pairwise.filter _ (by decide)) (mem_filter_counted.2 isCounted)
    (fun ch mem => least ch (mem_filter_counted.1 mem)) nofun

theorem earliestCounted_none (none : ∀ ch, ¬Counted d ch) : earliestCounted d = .none := by
  have empty : channelNumbers.filter (counted d) = [] :=
    List.eq_nil_iff_forall_not_mem.2 fun ch mem => none ch (mem_filter_counted.1 mem)
  rw [earliestCounted_eq, empty]
  rfl

theorem foldl_filter_add (w : Nat → Nat) (p : Nat → Bool) (l : List Nat) (n : Nat) :
    (l.filter p).foldl (fun acc c => acc + w c) n = n + (l.map fun c => if p c then w c else 0).sum := by
  induction l generalizing n with
  | nil => rfl
  | cons c rest ih =>
    rw [List.filter_cons, List.map_cons, List.sum_cons, ← Nat.add_assoc]
    split
    · exact ih (n + w c)
    · exact ih n

/-- A channel of weight 0 adds nothing, so the sum need not leave it out (R87). -/
theorem voteSum_of {first : Nat} (earliest : EarliestCounted d first) : voteSum d =
    (channelNumbers.map fun ch =>
      if (d.channels.get ch).state = .triggered ∧ (d.channels.get ch).suspect = false ∧
          triggerTime d ch ≤ triggerTime d first + d.cfg.window * 1000000 then (d.params.get ch).weight
      else 0).sum := by
  simp only [voteSum, earliestCounted_of earliest, List.filter_filter, foldl_filter_add, Nat.zero_add]
  refine congrArg List.sum (List.map_congr_left fun ch _ => ?_)
  have shown : (decide ((triggerOf d ch).1 ≤ (triggerOf d first).1 + d.cfg.window * 1000000) && counted d ch) = true ↔
      ((d.channels.get ch).state = .triggered ∧ (d.channels.get ch).suspect = false ∧
        triggerTime d ch ≤ triggerTime d first + d.cfg.window * 1000000) ∧ 0 < (d.params.get ch).weight := by
    simp only [counted, triggerOf, triggerTime, Bool.and_eq_true, beq_iff_eq, Bool.not_eq_true', decide_eq_true_iff]
    exact ⟨fun ⟨near, ⟨state, sound⟩, weight⟩ => ⟨⟨state, sound, of_decide_eq_true near⟩, weight⟩,
      fun ⟨⟨state, sound, near⟩, weight⟩ => ⟨decide_eq_true near, ⟨state, sound⟩, weight⟩⟩
  by_cases weight : 0 < (d.params.get ch).weight
  · exact if_congr (shown.trans (and_iff_left weight)) rfl rfl
  · rw [Nat.eq_zero_of_not_pos weight, ite_self, ite_self]

theorem voteSum_none (none : ∀ ch, ¬Counted d ch) : voteSum d = 0 := by
  simp only [voteSum, earliestCounted_none none]

/-- Without an episode and below the threshold a frame's vote changes nothing (R87). -/
theorem voteAndUpdate_below (idle : s.det.episode = .none)
    (below : (∀ ch, ¬Counted s.det ch) ∨ voteSum s.det < s.det.cfg.threshold) (joiners : List Nat) :
    voteAndUpdate f joiners s = s := by
  simp only [voteAndUpdate, idle]
  split
  next => rfl
  next first found =>
    refine if_neg (Nat.not_le.2 (below.resolve_left fun none => ?_))
    rw [earliestCounted_none none] at found
    cases found

/-! ### The steps of a frame's work (R79) -/

/-- A participant's entry after a frame's work on its channel: one that ends takes its reason and its peaks (R89). -/
def Participant.worked (work : Channel × ChannelNews) (p : Participant) : Participant :=
  match work.2, p.reason with
  | .ended r, none => p.finish r work.1
  | _, _ => p

theorem takeSamples_participants (work : Six (Channel × ChannelNews)) (d : Detector) :
    (takeSamples work d).participants = d.participants.map fun p => p.worked (work.get p.channel) := by
  refine List.map_congr_left fun p _ => ?_
  unfold Participant.worked; dsimp only
  cases (work.get p.channel).2 <;> cases p.reason <;> rfl

/-- The Detector after its channels have taken a frame's samples (R81 to R86, R89). -/
theorem takeSamples_eq (f : Frame) (x : Samples) (s : State) : takeSamples (workSamples f x s) s.det =
    let work := channelShare f x s.acq.cfg.rate.perSec s.det
    let triggered := channelNumbers.filter fun ch => (work ch).2 == .triggered
    { s.det with
      channels := ⟨(work 1).1, (work 2).1, (work 3).1, (work 4).1, (work 5).1, (work 6).1⟩
      triggers := (s.det.triggers + triggered.length) % 2 ^ 32
      suspects := (s.det.suspects + (triggered.filter fun ch => (work ch).1.suspect).length) % 2 ^ 32
      participants := s.det.participants.map fun p => p.worked (work p.channel) } := by
  have entries := takeSamples_participants (workSamples f x s) s.det
  simp only [takeSamples, workSamples_get] at entries ⊢
  rw [entries]
  rfl

theorem workFrame_missing (missing : f.samples = none) : workFrame f s =
    formQuiet (closeIfDone f.timestamp f.seq
      (voteAndUpdate f [] ((s.onDet (gapAccounting f)).onDet formVote))) := by
  simp only [workFrame, missing]

theorem workFrame_samples {x : Samples} (samples : f.samples = some x) : workFrame f s =
    let gapped := s.onDet (gapAccounting f)
    let work := channelShare f x s.acq.cfg.rate.perSec gapped.det
    formQuiet (closeIfDone f.timestamp f.seq
      (voteAndUpdate f (channelNumbers.filter fun ch => (work ch).2 == .triggered)
        ((gapped.onDet (takeSamples (workSamples f x gapped))).onDet formVote))) := by
  simp only [workFrame, samples, workSamples_get]
  rfl

/-- Settles O25: the gap accounting, the vote and the two forms of a frame's work, each by its own cases. -/
theorem framesFormGapsAndVotes : Obligations.FramesFormGapsAndVotes := by
  refine ⟨fun frame d => ?gap, fun d => ⟨voteSum_none, fun first => voteSum_of⟩,
    fun frame joiners s idle below => voteAndUpdate_below idle below joiners, fun frame s => ?work⟩
  case gap =>
    intro run
    refine ⟨gapAccounting_continues, fun broken => ?_⟩
    rw [gapAccounting_breaks broken, gapAction_eq]
    rfl
  case work =>
    intro d ended
    refine ⟨workFrame_missing, fun x samples => ?_⟩
    intro work triggered new
    have taken : takeSamples (workSamples frame x (s.onDet (gapAccounting frame))) d = new :=
      takeSamples_eq frame x (s.onDet (gapAccounting frame))
    rw [workFrame_samples samples, ← taken]
    rfl

end Sys2Proof.Machine
end

section
/-! Requests for notices about an event: what every one of them leaves (R133, R134, R146), and what a request makes that
finds an EMPTY slot or none (R107, R108, R133). -/

namespace Sys2Proof.Machine

variable {s : State}

/-! ### What a request for a notice leaves -/

/-- The record without its revision and RING_LOST. -/
def Record.steady (r : Record) : Record := { r with revision := 0, ringLost := false }

/-- The record as the Detector hands it over: without what notices and the loss of the ring write into it. -/
def Record.core (r : Record) : Record :=
  { r.steady with declaredOutcome := .none, updateOutcome := .none, summaryOutcome := .none, pins := 0 }

/-- The part of the state that a request for a notice leaves: the Detector, the records but for their outcomes, pins and
revisions, and the event kinds of the notifications. -/
def State.episodePart (s : State) : Detector × List Record × PerPort (BitVec 16) :=
  (s.det, s.ev.records.map Record.core, s.ports.map fun r => r.notices &&& 7#16)

theorem revised_steady (old new : Record) : (revised old new).steady = new.steady := by
  unfold revised; split <;> rfl

theorem updateRecord_steady (seq : Nat) (f : Record → Record) (s : State) :
    (updateRecord seq f s).ev.records.map Record.steady =
      s.ev.records.map fun r => if r.seq = seq then (f r).steady else r.steady := by
  simp only [updateRecord, State.onEv_ev, List.map_map]
  refine List.map_congr_left fun r _ => ?_
  dsimp only [Function.comp]
  split
  · split
    · rfl
    · exact revised_steady ..
  · rfl

theorem core_of_steady {l m : List Record} (same : l.map Record.steady = m.map Record.steady) :
    l.map Record.core = m.map Record.core := by
  have core : Record.core = Record.core ∘ Record.steady := rfl
  rw [core, ← List.map_map, ← List.map_map, same]

theorem updateRecord_episodePart {f : Record → Record} (kept : ∀ r, (f r).core = r.core) (seq : Nat) (s : State) :
    (updateRecord seq f s).episodePart = s.episodePart := by
  have core : (updateRecord seq f s).ev.records.map Record.core = s.ev.records.map Record.core := by
    simp only [updateRecord, State.onEv_ev, List.map_map]
    refine List.map_congr_left fun r _ => ?_
    dsimp only [Function.comp]
    split
    · split
      · exact kept r
      · exact (congrArg Record.core (revised_steady r (f r))).trans (kept r)
    · rfl
  exact congrArg (fun l => (s.det, l, s.ports.map fun r => r.notices &&& 7#16)) core

@[simp] theorem pinRecord_episodePart (seq : Nat) (s : State) : (pinRecord seq s).episodePart = s.episodePart :=
  updateRecord_episodePart (by intro; rfl) ..
@[simp] theorem unpinRecord_episodePart (seq : Nat) (s : State) : (unpinRecord seq s).episodePart = s.episodePart :=
  updateRecord_episodePart (by intro; rfl) ..
@[simp] theorem writeOutcome_episodePart (seq : Nat) (k : NoticeKind) (o : AlertOutcome) (s : State) :
    (writeOutcome seq k o s).episodePart = s.episodePart := updateRecord_episodePart (by intro; cases k <;> rfl) ..
@[simp] theorem onSlot_episodePart (n : Nat) (f : Slot → Slot) (s : State) :
    (onSlot n f s).episodePart = s.episodePart := rfl

theorem notify_episodePart {k : Kind} (other : k.bit &&& 7#16 = 0#16) (p : Port) (s : State) :
    (notify p k s).episodePart = s.episodePart := by
  have kinds (b : BitVec 16) : (b ||| k.bit) &&& 7#16 = b &&& 7#16 := by
    rw [BitVec.and_comm, BitVec.and_or_distrib_left, BitVec.and_comm 7#16 k.bit, other, BitVec.or_zero, BitVec.and_comm]
  cases p <;> simp [State.episodePart, notify, State.onPort, PerPort.update, PerPort.map, kinds]

@[simp] theorem notify_slotFinished_episodePart (p : Port) (s : State) :
    (notify p .slotFinished s).episodePart = s.episodePart := notify_episodePart (by decide) ..
@[simp] theorem notify_slotDisplaced_episodePart (p : Port) (s : State) :
    (notify p .slotDisplaced s).episodePart = s.episodePart := notify_episodePart (by decide) ..

@[simp] theorem waitAgain_episodePart (n : Nat) (s : State) : (waitAgain n s).episodePart = s.episodePart := by
  unfold waitAgain alarmWaiting; dsimp only
  split
  · split <;> rfl
  · rfl

@[simp] theorem waitWithTag_episodePart (n : Nat) (s : State) : (waitWithTag n s).episodePart = s.episodePart := by
  rw [waitWithTag, waitAgain_episodePart]; rfl

theorem endPreempting_episodePart (n : Nat) (s : State) : (endPreempting n s).episodePart = s.episodePart := by
  have entry (x : State) (i : Nat) : (endEntry n i x).episodePart = x.episodePart := by
    unfold endEntry; repeat' split
    all_goals first | rfl | exact waitAgain_episodePart ..
  unfold endPreempting
  generalize (List.range s.nt.stack.length).reverse = l
  induction l generalizing s with
  | nil => rfl
  | cons i l ih => rw [List.foldl_cons, ih, entry]

@[simp] theorem emptySlot_episodePart (n : Nat) (s : State) : (emptySlot n s).episodePart = s.episodePart := by
  unfold emptySlot; dsimp only
  split
  · rfl
  · exact unpinRecord_episodePart ..

@[simp] theorem tellOrigin_episodePart (n : Nat) (o : NoticeOrigin) (s : State) :
    (tellOrigin n o s).episodePart = s.episodePart := by cases o <;> rfl

theorem serveOrigin_episodePart (n : Nat) (s : State) : (serveOrigin n s).episodePart = s.episodePart := by
  unfold serveOrigin; dsimp only
  repeat' split
  all_goals simp only [emptySlot_episodePart, notify_slotFinished_episodePart, notify_slotDisplaced_episodePart,
    tellOrigin_episodePart, writeOutcome_episodePart]

theorem obtainSlot_episodePart (c : NoticeClass) (s : State) : (obtainSlot c s).1.episodePart = s.episodePart := by
  have finished (v : Nat) : (finishSlot v .displaced .displaced s).episodePart = s.episodePart := by
    rw [finishSlot, serveOrigin_episodePart, endPreempting_episodePart, onSlot_episodePart]
  unfold obtainSlot
  repeat' split
  · rfl
  · rfl
  · exact finished _
  · rfl

theorem requestNotice_episodePart (a : NoticeAsk) (s : State) :
    (requestNotice a s).1.episodePart = s.episodePart := by
  have obtained := obtainSlot_episodePart a.cls s
  unfold requestNotice
  generalize obtainSlot a.cls s = o at obtained
  obtain ⟨x, slot⟩ := o
  have unqueued : (x.onNt fun nt => { nt with unqueued := satInc 65535 nt.unqueued }).episodePart = x.episodePart := rfl
  cases slot <;> cases a.event <;>
    simp only [waitWithTag_episodePart, writeOutcome_episodePart, pinRecord_episodePart, onSlot_episodePart, unqueued,
      obtained]

/-! ### A slot for a request (R133, R134) -/

theorem emptySlotNumber_of {n : Nat} (inside : n < 12) (empty : (slotAt n s).state = .empty)
    (lowest : ∀ m, m < n → (slotAt m s).state ≠ .empty) : emptySlotNumber s = some n := by
  simp only [emptySlotNumber, slotNumbers, List.find?_range_eq_some, List.mem_range, beq_iff_eq, Bool.not_eq_true',
    beq_eq_false_iff_ne]
  exact ⟨empty, inside, lowest⟩

theorem emptySlotNumber_none (full : ∀ m, m < 12 → (slotAt m s).state ≠ .empty) : emptySlotNumber s = none := by
  simp only [emptySlotNumber, slotNumbers, List.find?_eq_none, List.mem_range, beq_iff_eq]
  exact full

theorem displaceVictim_none (kept : ∀ m, m < 12 → (slotAt m s).displaceable = false) : displaceVictim s = none := by
  have kept : ∀ m ∈ slotNumbers, (slotAt m s).displaceable = false := fun m mem => kept m (List.mem_range.1 mem)
  unfold displaceVictim
  generalize slotNumbers = l at kept
  induction l with
  | nil => rfl
  | cons m l ih =>
    rw [List.foldl_cons, if_neg (by simp [kept m])]
    exact ih fun k mem => kept k (List.mem_cons_of_mem m mem)

theorem obtainSlot_empty {n : Nat} (found : emptySlotNumber s = some n) (c : NoticeClass) :
    obtainSlot c s = (s, some n) := by simp only [obtainSlot, found]

theorem obtainSlot_full {c : NoticeClass} (full : emptySlotNumber s = none)
    (kept : c = .alarm → displaceVictim s = none) : obtainSlot c s = (s, none) := by
  simp only [obtainSlot, full]
  split
  next alarm => simp only [kept alarm]
  next => rfl

/-- The slot of a request from an internal origin, before it waits (R133). -/
def NoticeAsk.slot (a : NoticeAsk) : Slot :=
  { Slot.clear with
    kind := a.kind, cls := a.cls, origin := a.origin, event := a.event, reason := a.reason, preemptible := true }

theorem requestNotice_fills {a : NoticeAsk} {event n : Nat} (about : a.event = some event)
    (obtained : obtainSlot a.cls s = (s, some n)) : (requestNotice a s).1 =
      waitWithTag n (writeOutcome event a.kind .pending (pinRecord event (onSlot n (fun _ => a.slot) s))) := by
  simp only [requestNotice, obtained, about, NoticeAsk.slot]

theorem requestNotice_refused {a : NoticeAsk} {event : Nat} (about : a.event = some event)
    (obtained : obtainSlot a.cls s = (s, none)) : (requestNotice a s).1 =
      writeOutcome event a.kind .notQueued
        (s.onNt fun nt => { nt with unqueued := min 65535 (nt.unqueued + 1) }) := by
  simp only [requestNotice, obtained, about, satInc_eq]

/-! ### The slot that waits -/

theorem slotAt_onSlot {n : Nat} (inside : n < s.nt.slots.length) (f : Slot → Slot) :
    slotAt n (onSlot n f s) = f (slotAt n s) := by
  simp [slotAt, onSlot, List.getD, List.getElem?_eq_getElem inside]

theorem waitAgain_nt (n : Nat) (s : State) :
    (waitAgain n s).nt = (onSlot n (fun sl => { sl with state := .waiting, view := .notWaiting }) s).nt := by
  unfold waitAgain alarmWaiting; dsimp only
  split
  · split <;> rfl
  · rfl

theorem slotAt_congr {s t : State} (same : s.nt = t.nt) (n : Nat) : slotAt n s = slotAt n t := by
  rw [slotAt, same, slotAt]

/-- A slot that becomes WAITING takes the next tag and the time (R133). -/
theorem waitWithTag_nt {n : Nat} (inside : n < s.nt.slots.length) :
    let tag := (s.nt.tagCounter + 1) % 256
    (waitWithTag n s).nt.tagCounter = tag ∧ slotAt n (waitWithTag n s) =
      { slotAt n s with tag := tag, queued := s.tb.now, state := .waiting, view := .notWaiting } := by
  intro tag
  have tagged := slotAt_onSlot (s := s.onNt fun nt => { nt with tagCounter := tag }) inside
    (fun sl => { sl with tag := tag, queued := s.tb.now })
  refine ⟨by rw [waitWithTag, waitAgain_nt]; rfl, ?_⟩
  rw [waitWithTag, slotAt_congr (waitAgain_nt ..), slotAt_onSlot (by simpa [onSlot] using inside)]
  exact congrArg (fun sl : Slot => { sl with state := .waiting, view := .notWaiting }) tagged

/-- A request for a notice about an event that finds an EMPTY slot (R107, R133). -/
theorem requestNotice_slot {a : NoticeAsk} {event n : Nat} (about : a.event = some event)
    (obtained : obtainSlot a.cls s = (s, some n)) (inside : n < s.nt.slots.length) :
    let tag := (s.nt.tagCounter + 1) % 256
    (requestNotice a s).1.nt.tagCounter = tag ∧ slotAt n (requestNotice a s).1 =
      { a.slot with tag := tag, queued := s.tb.now, state := .waiting } := by
  rw [requestNotice_fills about obtained]
  generalize filled : writeOutcome event a.kind .pending (pinRecord event (onSlot n (fun _ => a.slot) s)) = x
  have table : x.nt = (onSlot n (fun _ => a.slot) s).nt := by rw [← filled]; rfl
  have time : x.tb = s.tb := by rw [← filled]; rfl
  have length : x.nt.slots.length = s.nt.slots.length := by rw [table]; exact List.length_modify ..
  have slot : slotAt n x = a.slot := (slotAt_congr table n).trans (slotAt_onSlot inside _)
  have counter : x.nt.tagCounter = s.nt.tagCounter := by rw [table]; rfl
  have waits := waitWithTag_nt (length ▸ inside : n < x.nt.slots.length)
  rw [slot, time, counter] at waits
  exact waits

theorem waitWithTag_ev (n : Nat) (s : State) : (waitWithTag n s).ev = s.ev := by rw [waitWithTag, waitAgain_ev]; rfl

end Sys2Proof.Machine
end

section
/-! A declaration (R87, R88, R92, R93, R100 to R103): its participants, the room in the Event Table, and the state
after it. -/

namespace Sys2Proof.Machine

variable {s t : State} {d : Detector} {frame : Frame} {first : Nat}

/-! ### The participants (R88) -/

/-- Channel `a` stands before `b`: by the trigger frame's distance from the onset frame, then by number (R88). -/
def TriggersBefore (distance : Nat → Nat) (a b : Nat) : Prop :=
  distance a < distance b ∨ (distance a = distance b ∧ a < b)

/-- A channel of a higher number than those in the list goes behind all of an equal distance. -/
theorem insertByTrigger_ordered {distance : Nat → Nat} {l : List Nat} {ch : Nat} (above : ∀ c ∈ l, c < ch)
    (ordered : l.Pairwise (TriggersBefore distance)) :
    (insertByTrigger distance ch l).Pairwise (TriggersBefore distance) := by
  induction l with
  | nil => exact List.pairwise_singleton ..
  | cons q rest ih =>
    obtain ⟨low, ordered⟩ := List.pairwise_cons.1 ordered
    simp only [insertByTrigger]
    split
    next nearer =>
      refine List.pairwise_cons.2 ⟨fun c mem => ?_, List.pairwise_cons.2 ⟨low, ordered⟩⟩
      rcases List.mem_cons.1 mem with rfl | mem
      · exact .inl nearer
      · rcases low c mem with further | ⟨same, -⟩
        · exact .inl (nearer.trans further)
        · exact .inl (same ▸ nearer)
    next notNearer =>
      refine List.pairwise_cons.2 ⟨fun c mem => ?_, ih (fun c mem => above c (List.mem_cons_of_mem q mem)) ordered⟩
      rcases List.mem_cons.1 ((insertByTrigger_perm distance ch rest).mem_iff.1 mem) with rfl | mem
      · exact (Nat.lt_or_eq_of_le (Nat.not_lt.1 notNearer)).imp_right fun same => ⟨same, above q List.mem_cons_self⟩
      · exact low c mem

/-- Channels given by rising number are put in the order of their trigger frames, the lower number first where two are
equal (R88). -/
theorem byTriggerFrame_ordered (d : Detector) (onset : Nat) {chs : List Nat} (rising : chs.Pairwise (· < ·)) :
    (byTriggerFrame d onset chs).Pairwise (TriggersBefore (framesAfter d onset)) := by
  suffices go : ∀ acc, (∀ a ∈ acc, ∀ c ∈ chs, a < c) → acc.Pairwise (TriggersBefore (framesAfter d onset)) →
      (chs.foldl (fun acc ch => insertByTrigger (framesAfter d onset) ch acc) acc).Pairwise
        (TriggersBefore (framesAfter d onset)) from go [] (by simp) .nil
  induction chs with
  | nil => exact fun acc _ ordered => ordered
  | cons ch rest ih =>
    obtain ⟨below, rising⟩ := List.pairwise_cons.1 rising
    intro acc above ordered
    have placed := insertByTrigger_ordered (fun a mem => above a mem ch List.mem_cons_self) ordered
    refine ih rising _ (fun a mem c later => ?_) placed
    rcases List.mem_cons.1 ((insertByTrigger_perm _ ch acc).mem_iff.1 mem) with rfl | mem
    · exact below c later
    · exact above a mem c (List.mem_cons_of_mem ch later)

/-! ### Room in the Event Table (R102) -/

/-- The record may be given up for a declaration (R102, item 2). -/
def Replaceable (s : State) (r : Record) : Prop := r.closed = true ∧ r.pins = 0 ∧
  (s.ev.unreadProtection = true → ∀ q, drainHolder s = some q → r.seq ≤ s.ev.cursors.get q)

theorem qualifies_iff (s : State) (r : Record) : qualifies s r = true ↔ Replaceable s r := by
  have unread : mayGiveUp r.seq s = true ↔
      (s.ev.unreadProtection = true → ∀ q, drainHolder s = some q → r.seq ≤ s.ev.cursors.get q) := by
    unfold mayGiveUp
    cases drainHolder s <;> cases s.ev.unreadProtection <;> simp
  rw [qualifies, Bool.and_eq_true, Bool.and_eq_true, beq_iff_eq, unread, and_assoc, Replaceable]

/-- The lower of a sequence found before and that of a record. -/
def lowerSeq (acc : Option Nat) (r : Record) : Option Nat :=
  match acc with
  | none => some r.seq
  | some m => some (min m r.seq)

theorem lowestSeq_eq (rs : List Record) : lowestSeq rs = rs.foldl lowerSeq none := rfl

theorem lowestSeq_of {out : Record} {rs : List Record} (member : out ∈ rs) (least : ∀ r ∈ rs, out.seq ≤ r.seq) :
    lowestSeq rs = some out.seq := by
  rw [lowestSeq_eq]
  suffices go : ∀ acc, (out ∈ rs ∨ acc = some out.seq) → (∀ m, acc = some m → out.seq ≤ m) →
      rs.foldl lowerSeq acc = some out.seq from go none (.inl member) nofun
  clear member
  induction rs with
  | nil => exact fun acc found _ => found.resolve_left List.not_mem_nil
  | cons r rest ih =>
    intro acc found low
    have head := least r List.mem_cons_self
    refine ih (fun q mem => least q (List.mem_cons_of_mem r mem)) _ ?_ fun m taken => ?_
    · rcases found with member | rfl
      · rcases List.mem_cons.1 member with rfl | member
        · cases acc with
          | none => exact .inr rfl
          | some m => exact .inr (congrArg some (Nat.min_eq_right (low m rfl)))
        · exact .inl member
      · exact .inr (congrArg some (Nat.min_eq_left head))
    · cases acc with
      | none => exact (Option.some.inj taken) ▸ head
      | some m => exact (Option.some.inj taken) ▸ Nat.le_min.2 ⟨low m rfl, head⟩

theorem roomForRecord_room (room : s.ev.records.length < 32) : roomForRecord s = some s.ev.records := if_pos room

theorem roomForRecord_gives {out : Record} (full : 32 ≤ s.ev.records.length) (member : out ∈ s.ev.records)
    (given : Replaceable s out) (least : ∀ r ∈ s.ev.records, Replaceable s r → out.seq ≤ r.seq) :
    roomForRecord s = some (s.ev.records.filter fun r => r.seq != out.seq) := by
  have lowest : lowestSeq (s.ev.records.filter (qualifies s)) = some out.seq :=
    lowestSeq_of (List.mem_filter.2 ⟨member, (qualifies_iff s out).2 given⟩) fun r mem =>
      least r (List.mem_filter.1 mem).1 ((qualifies_iff s r).1 (List.mem_filter.1 mem).2)
  rw [roomForRecord, if_neg (Nat.not_lt.2 full), lowest]

theorem roomForRecord_none (full : 32 ≤ s.ev.records.length) (none : ∀ r ∈ s.ev.records, ¬Replaceable s r) :
    roomForRecord s = .none := by
  have empty : s.ev.records.filter (qualifies s) = [] :=
    List.filter_eq_nil_iff.2 fun r mem given => none r mem ((qualifies_iff s r).1 given)
  rw [roomForRecord, if_neg (Nat.not_lt.2 full), empty]
  rfl

/-! ### The state after a declaration -/

/-- The Detector at a declaration, but for its episode (R88, R90). -/
def declaredDetector (frame : Frame) (first : Nat) (d : Detector) : Detector :=
  let onset := triggerOf d first
  let joined := { d with
    onsetTime := onset.1, onsetFrame := onset.2, participants := declaredParticipants d onset.2
    votePeak := voteSum d, clippedFlag := frame.clipped, gapFlag := false }
  { joined with cls := classNow joined }

/-- The record that a declaration places (R100). -/
def declaredRecord (frame : Frame) (first : Nat) (s : State) : Record :=
  let d := declaredDetector frame first s.det
  { seq := s.ev.nextSeq, closed := false, revision := 0, onset := d.onsetTime, declared := frame.timestamp
    close := none, timeState := s.tb.state, uncertainty := s.tb.uncertainty
    onsetFrame := if ∃ f ∈ s.acq.ring, f.seq = d.onsetFrame then some d.onsetFrame else none
    cls := d.cls, votePeak := d.votePeak, participants := d.participants, heaterSwitched := false
    levelChanged := false, gap := false, ringLost := false, clipped := frame.clipped, lostBefore := s.ev.lostPending
    declaredOutcome := .none, updateOutcome := .none, summaryOutcome := .none, pins := 0 }

/-- The state in which a declaration with room asks for its notice. -/
def placedIn (left : List Record) (frame : Frame) (first : Nat) (s : State) : State :=
  { s with
    det := { declaredDetector frame first s.det with episode := .opened s.ev.nextSeq }
    ev := { s.ev with
      records := left ++ [declaredRecord frame first s], nextSeq := seqAfterThis s.ev.nextSeq, lostPending := 0 }
    ports := s.ports.map fun r => { r with notices := r.notices ||| 1 } }

/-- The state after a declaration that is lost, but for the wake (R103). -/
def lostIn (frame : Frame) (first : Nat) (s : State) : State :=
  { s with
    det := { declaredDetector frame first s.det with episode := .lost }
    ev := { s.ev with
      nextSeq := seqAfterThis s.ev.nextSeq, lost := (s.ev.lost + 1) % 2 ^ 32
      lostPending := min 255 (s.ev.lostPending + 1) } }

/-- What a declaration with room asks for (R92). -/
def declareAsk (frame : Frame) (first : Nat) (s : State) : NoticeAsk :=
  { kind := .quakeDeclared, cls := declareClass (declaredDetector frame first s.det), origin := .detector
    event := some s.ev.nextSeq, reason := .levelEntry }

/-- The requests of a class for a recorded event (R93). -/
def requestsOf (cls event onset : Nat) (x : State) : State :=
  if 2 ≤ cls then holdRequest event onset (recorderWake x) else x

theorem strongRequests_opened {seq : Nat} (opened : s.det.episode = .opened seq) :
    strongRequests s = holdRequest seq s.det.onsetFrame (recorderWake s) := by simp only [strongRequests, opened]

theorem declareEvent_placed {left : List Record} (room : roomForRecord s = some left) : declareEvent frame first s =
    requestsOf (declaredDetector frame first s.det).cls s.ev.nextSeq (declaredDetector frame first s.det).onsetFrame
      (requestNotice (declareAsk frame first s) (placedIn left frame first s)).1 := by
  have onsetFrame : (if frameInRing (triggerOf s.det first).2 s then some (triggerOf s.det first).2 else none) =
      (declaredRecord frame first s).onsetFrame := if_congr (by simp [frameInRing, declaredDetector]) rfl rfl
  have det : (requestNotice (declareAsk frame first s) (placedIn left frame first s)).1.det =
      (placedIn left frame first s).det := congrArg Prod.fst (requestNotice_episodePart ..)
  have room' (g : Detector → Detector) : roomForRecord (s.onDet g) = some left := room
  have strong := strongRequests_opened (congrArg Detector.episode det)
  rw [det] at strong
  simp only [declareEvent, declareRecord, room', onsetFrame]
  exact if_congr Iff.rfl strong rfl

theorem declareEvent_lost (room : roomForRecord s = none) : declareEvent frame first s =
    if 2 ≤ (declaredDetector frame first s.det).cls then recorderWake (lostIn frame first s)
    else lostIn frame first s := by
  have room' (g : Detector → Detector) : roomForRecord (s.onDet g) = none := room
  simp only [declareEvent, declareRecord, room', satInc_eq]
  rfl

/-! ### What a declaration leaves -/

theorem recorderWake_eq (s : State) : recorderWake s = s.onLoad .recorder fun r =>
    { r with asks := { r.asks with detector := .until (s.pace.seconds + s.pw.act.eventWake) } } := rfl

/-- The requests of a class change no slot and no port, and of the records at most RING_LOST. -/
structure SameButHolds (x y : State) : Prop where
  nt : y.nt = x.nt
  det : y.det = x.det
  ports : y.ports = x.ports
  kept : y.ev.kept = x.ev.kept
  steady : y.ev.records.map Record.steady = x.ev.records.map Record.steady

theorem flagRingLost_sameButHolds (event : Nat) (x : State) : SameButHolds x (flagRingLost event x) := by
  refine ⟨rfl, rfl, rfl, rfl, (updateRecord_steady ..).trans (List.map_congr_left fun r _ => ?_)⟩
  split <;> rfl

theorem holdRequest_sameButHolds (event onset : Nat) (x : State) : SameButHolds x (holdRequest event onset x) := by
  unfold holdRequest; dsimp only
  repeat' split
  · exact ⟨rfl, rfl, rfl, rfl, rfl⟩
  · exact ⟨rfl, rfl, rfl, rfl, rfl⟩
  · exact ⟨rfl, rfl, rfl, rfl, rfl⟩
  · obtain ⟨nt, det, ports, kept, steady⟩ := flagRingLost_sameButHolds ..
    exact ⟨nt, det, ports, kept, steady⟩

theorem requestsOf_sameButHolds (cls event onset : Nat) (x : State) :
    SameButHolds x (requestsOf cls event onset x) := by
  unfold requestsOf
  split
  · obtain ⟨nt, det, ports, kept, steady⟩ := holdRequest_sameButHolds event onset (recorderWake x)
    exact ⟨nt, det, ports, kept, steady⟩
  · exact ⟨rfl, rfl, rfl, rfl, rfl⟩

theorem SameButHolds.episodePart {x y : State} (same : SameButHolds x y) : y.episodePart = x.episodePart := by
  rw [State.episodePart, same.det, same.ports, core_of_steady same.steady]
  rfl

/-- A declaration that is placed leaves the part that no notice and no hold writes as it was placed. -/
theorem declareEvent_episodePart {left : List Record} (room : roomForRecord s = some left) :
    (declareEvent frame first s).episodePart = (placedIn left frame first s).episodePart := by
  rw [declareEvent_placed room]
  exact (requestsOf_sameButHolds ..).episodePart.trans (requestNotice_episodePart ..)

theorem declareEvent_kept {left : List Record} (room : roomForRecord s = some left) :
    (declareEvent frame first s).ev.kept = (placedIn left frame first s).ev.kept := by
  rw [declareEvent_placed room]
  exact (requestsOf_sameButHolds ..).kept.trans (congrArg State.ev (requestNotice_fixed ..))

theorem declareEvent_det (frame : Frame) (first : Nat) (s : State) : ∃ e,
    (declareEvent frame first s).det = { declaredDetector frame first s.det with episode := e } := by
  cases room : roomForRecord s with
  | some left => exact ⟨_, congrArg Prod.fst (declareEvent_episodePart room)⟩
  | none =>
    rw [declareEvent_lost room]
    exact ⟨.lost, by split <;> rfl⟩

theorem declareEvent_nextSeq (frame : Frame) (first : Nat) (s : State) :
    (declareEvent frame first s).ev.nextSeq = seqAfterThis s.ev.nextSeq := by
  cases room : roomForRecord s with
  | some left => exact congrArg EventTable.nextSeq (declareEvent_kept room)
  | none =>
    rw [declareEvent_lost room]
    split <;> rfl

/-- The event kinds of a port's notifications. -/
theorem notices_of_episodePart {x y : State} (same : x.episodePart = y.episodePart) {i : Nat} (event : i < 3)
    (q : Port) : (x.ports.get q).notices.getLsbD i = (y.ports.get q).notices.getLsbD i := by
  have bit (z : State) : (z.episodePart.2.2.get q).getLsbD i = (z.ports.get q).notices.getLsbD i := by
    have seven : (7#16).getLsbD i = true := by interval_cases i <;> rfl
    have get : z.episodePart.2.2.get q = (z.ports.get q).notices &&& 7#16 := by cases q <;> rfl
    rw [get, BitVec.getLsbD_and, seven, Bool.and_true]
  rw [← bit x, same, bit y]

/-! ### The records of a request -/

theorem pinRecord_ev (event : Nat) (s : State) : (pinRecord event s).ev = { s.ev with
    records := s.ev.records.map fun r => if r.seq = event then { r with pins := r.pins + 1 } else r } := by
  have pinned (r : Record) : revised r { r with pins := r.pins + 1 } = { r with pins := r.pins + 1 } := if_pos rfl
  simp only [pinRecord, updateRecord, State.onEv_ev, pinned, ite_self]

/-- A request that finds an EMPTY slot pins the event's record, and its outcome is pending (R107, R108). -/
theorem requestNotice_pins {a : NoticeAsk} {event n : Nat} (about : a.event = some event)
    (obtained : obtainSlot a.cls s = (s, some n)) : (requestNotice a s).1.ev.records.map Record.steady =
      s.ev.records.map fun r => if r.seq = event
        then (({ r with pins := r.pins + 1 } : Record).withOutcome a.kind .pending).steady else r.steady := by
  rw [requestNotice_fills about obtained, waitWithTag_ev, writeOutcome, updateRecord_steady, pinRecord_ev]
  rw [List.map_map]
  refine List.map_congr_left fun r _ => ?_
  by_cases own : r.seq = event <;> simp [own]

/-- A request that meets NO_SLOT writes so into the event's record (R108). -/
theorem requestNotice_notQueued {a : NoticeAsk} {event : Nat} (about : a.event = some event)
    (obtained : obtainSlot a.cls s = (s, none)) : (requestNotice a s).1.ev.records.map Record.steady =
      s.ev.records.map fun r => if r.seq = event then (r.withOutcome a.kind .notQueued).steady else r.steady := by
  rw [requestNotice_refused about obtained, writeOutcome, updateRecord_steady]
  rfl

/-- A list whose image ends with a value ends with a member of that image. -/
theorem exists_last_of_map {α β : Type} {f : α → β} {l : List α} {m : List β} {b : β} (image : l.map f = m ++ [b]) :
    ∃ a ∈ l, l.getLast? = some a ∧ f a = b := by
  obtain ⟨front, back, rfl, -, last⟩ := List.map_eq_append_iff.1 image
  obtain ⟨a, rfl, rfl⟩ := List.map_eq_singleton_iff.1 last
  exact ⟨a, by simp, by simp, rfl⟩

theorem map_last {α β : Type} {f : α → β} {l : List α} {m : List β} {a : α} {b : β} (last : l.getLast? = some a)
    (image : l.map f = m ++ [b]) : f a = b := by
  have ends := congrArg List.getLast? image
  rw [List.getLast?_map, last, List.getLast?_concat] at ends
  exact Option.some.inj ends

/-- The record that a declaration places, and its notice (R100, R107, R108, R133). -/
theorem declareEvent_record {left : List Record} (room : roomForRecord s = some left) (slots : s.nt.slots.length = 12) :
    let t := declareEvent frame first s
    let cls := declareClass (declaredDetector frame first s.det)
    let tag := (s.nt.tagCounter + 1) % 256
    ∃ r ∈ t.ev.records, r.core = (declaredRecord frame first s).core ∧
      (∀ n, n < 12 → (slotAt n s).state = .empty → (∀ m, m < n → (slotAt m s).state ≠ .empty) →
        r.declaredOutcome = .pending ∧ r.pins = 1 ∧ t.nt.tagCounter = tag ∧ slotAt n t = { Slot.clear with
          state := .waiting, kind := .quakeDeclared, cls := cls, origin := .detector, event := some s.ev.nextSeq
          preemptible := true, tag := tag, queued := s.tb.now }) ∧
      ((∀ m, m < 12 → (slotAt m s).state ≠ .empty) →
        (cls = .alarm → ∀ m, m < 12 → (slotAt m s).state = .waiting → (slotAt m s).cls = .routine →
          (slotAt m s).responder = true) →
        r.declaredOutcome = .notQueued ∧ r.pins = 0 ∧ t.nt.slots = s.nt.slots ∧
          t.nt.unqueued = min 65535 (s.nt.unqueued + 1)) := by
  intro t cls tag
  let asked := (requestNotice (declareAsk frame first s) (placedIn left frame first s)).1
  obtain ⟨nt, -, -, -, steady⟩ : SameButHolds asked t := by
    simp only [t, declareEvent_placed room]
    exact requestsOf_sameButHolds ..
  have core : t.ev.records.map Record.core = left.map Record.core ++ [(declaredRecord frame first s).core] := by
    have := congrArg (fun p => p.2.1) (declareEvent_episodePart (frame := frame) (first := first) room)
    exact this.trans (by simp [State.episodePart, placedIn])
  obtain ⟨r, member, last, rcore⟩ := exists_last_of_map core
  refine ⟨r, member, rcore, fun n inside empty lowest => ?_, fun full kept => ?_⟩
  · have obtained := obtainSlot_empty (s := placedIn left frame first s) (emptySlotNumber_of inside empty lowest)
      (declareAsk frame first s).cls
    obtain ⟨counter, slot⟩ := requestNotice_slot rfl obtained (show n < s.nt.slots.length by omega)
    have pinned := (map_last last ((steady.trans (requestNotice_pins rfl obtained)).trans List.map_append)).trans
      (if_pos rfl)
    exact ⟨congrArg Record.declaredOutcome pinned, congrArg Record.pins pinned,
      (congrArg NoticeTable.tagCounter nt).trans counter, (slotAt_congr nt n).trans slot⟩
  · have victim (alarm : cls = .alarm) : displaceVictim (placedIn left frame first s) = none := by
      refine displaceVictim_none fun m inside => ?_
      change (slotAt m s).displaceable = false
      have responds := kept alarm m inside
      by_cases waits : (slotAt m s).state = .waiting ∧ (slotAt m s).cls = .routine
      · simp [Slot.displaceable, responds waits.1 waits.2]
      · simpa [Slot.displaceable] using fun _ state => not_and.1 waits state
    have obtained := obtainSlot_full (s := placedIn left frame first s) (emptySlotNumber_none full) victim
    have refused := (map_last last ((steady.trans (requestNotice_notQueued rfl obtained)).trans
      List.map_append)).trans (if_pos rfl)
    have table : t.nt = { s.nt with unqueued := min 65535 (s.nt.unqueued + 1) } :=
      nt.trans (congrArg State.nt (requestNotice_refused rfl obtained))
    exact ⟨congrArg Record.declaredOutcome refused, congrArg Record.pins refused, by rw [table], by rw [table]⟩

end Sys2Proof.Machine
end

section
/-! The close of an episode (R91, R103, R106 to R109), and the statement about declarations and closes. -/

namespace Sys2Proof.Machine

variable {s : State}

/-! ### The close (R91, R106) -/

/-- The record as its close leaves it (R106). -/
def Record.closedAt (at' : Time) (r : Record) : Record :=
  { r with closed := true, close := some at', revision := (r.revision + 1) % 256 }

/-- The state in which the close of an OPEN episode asks for the summary. -/
def closing (seq : Nat) (at' : Time) (n : Nat) (s : State) : State :=
  closeFrame seq n (closeRecord seq at' (s.onDet Detector.endEpisode))

/-- What the close of an OPEN episode asks for (R92). -/
def summaryAsk (seq : Nat) : NoticeAsk :=
  { kind := .quakeSummary, cls := .routine, origin := .detector, event := some seq, reason := .levelEntry }

theorem closeIfDone_still {at' : Time} {n : Nat} (still : ∃ p ∈ s.det.participants, p.reason = none) :
    closeIfDone at' n s = s := by
  obtain ⟨p, mem, none⟩ := still
  exact if_neg fun all => by simpa [none] using List.all_eq_true.1 all p mem

theorem participants_done (done : ∀ p ∈ s.det.participants, p.reason ≠ none) :
    (s.det.participants.all fun p => p.reason.isSome) = true :=
  List.all_eq_true.2 fun p mem => Option.isSome_iff_ne_none.2 (done p mem)

theorem closeIfDone_lost {at' : Time} {n : Nat} (lost : s.det.episode = .lost)
    (done : ∀ p ∈ s.det.participants, p.reason ≠ none) : closeIfDone at' n s = s.onDet Detector.endEpisode := by
  rw [closeIfDone, if_pos (participants_done done), lost]

theorem closeIfDone_opened {at' : Time} {n seq : Nat} (opened : s.det.episode = .opened seq)
    (done : ∀ p ∈ s.det.participants, p.reason ≠ none) :
    closeIfDone at' n s = (requestNotice (summaryAsk seq) (closing seq at' n s)).1 := by
  rw [closeIfDone, if_pos (participants_done done), opened]
  rfl

theorem closing_records (seq : Nat) (at' : Time) (n : Nat) (s : State) : (closing seq at' n s).ev.records =
    s.ev.records.map fun r => if r.seq = seq then r.closedAt at' else r := rfl

theorem closing_closed {seq : Nat} {at' : Time} {n : Nat} {r : Record} (mem : r ∈ (closing seq at' n s).ev.records)
    (own : r.seq = seq) : r.closed = true := by
  rw [closing_records] at mem
  obtain ⟨q, -, rfl⟩ := List.mem_map.1 mem
  revert own
  split
  · exact fun _ => rfl
  next other => exact fun own => absurd own other

/-- A CLOSED record takes an update without a revision (R106). -/
theorem updateRecord_closed {seq : Nat} (closed : ∀ r ∈ s.ev.records, r.seq = seq → r.closed = true)
    (f : Record → Record) : (updateRecord seq f s).ev.records =
      s.ev.records.map fun r => if r.seq = seq then f r else r := by
  refine List.map_congr_left fun r mem => ?_
  split
  next own => exact if_pos (closed r mem own)
  next => rfl

theorem requestNotice_pins_closed {a : NoticeAsk} {event n : Nat} (about : a.event = some event)
    (obtained : obtainSlot a.cls s = (s, some n)) (closed : ∀ r ∈ s.ev.records, r.seq = event → r.closed = true) :
    (requestNotice a s).1.ev.records = s.ev.records.map fun r =>
      if r.seq = event then ({ r with pins := r.pins + 1 } : Record).withOutcome a.kind .pending else r := by
  rw [requestNotice_fills about obtained, waitWithTag_ev, writeOutcome, updateRecord_closed, pinRecord_ev]
  · rw [List.map_map]
    refine List.map_congr_left fun r _ => ?_
    by_cases own : r.seq = event <;> simp [own]
  · intro r mem own
    rw [pinRecord_ev] at mem
    obtain ⟨q, inTable, rfl⟩ := List.mem_map.1 mem
    revert own
    split
    next same => exact fun _ => closed q inTable same
    next other => exact fun own => absurd own other

theorem requestNotice_notQueued_closed {a : NoticeAsk} {event : Nat} (about : a.event = some event)
    (obtained : obtainSlot a.cls s = (s, none)) (closed : ∀ r ∈ s.ev.records, r.seq = event → r.closed = true) :
    (requestNotice a s).1.ev.records = s.ev.records.map fun r =>
      if r.seq = event then r.withOutcome a.kind .notQueued else r := by
  rw [requestNotice_refused about obtained, writeOutcome]
  exact updateRecord_closed (s := s.onNt fun nt => { nt with unqueued := min 65535 (nt.unqueued + 1) }) closed _

/-- The close of a record, then a change of it. -/
theorem closing_records_map (seq : Nat) (at' : Time) (n : Nat) (s : State) (g : Record → Record) :
    (closing seq at' n s).ev.records.map (fun r => if r.seq = seq then g r else r) =
      s.ev.records.map fun r => if r.seq = seq then g (r.closedAt at') else r := by
  rw [closing_records, List.map_map]
  refine List.map_congr_left fun r _ => ?_
  by_cases own : r.seq = seq <;> simp [own, Record.closedAt]

theorem closing_summary_pins {seq m : Nat} {at' : Time} {n : Nat}
    (obtained : obtainSlot .routine (closing seq at' n s) = (closing seq at' n s, some m)) :
    (requestNotice (summaryAsk seq) (closing seq at' n s)).1.ev.records = s.ev.records.map fun r =>
      if r.seq = seq then { r.closedAt at' with summaryOutcome := .pending, pins := r.pins + 1 } else r :=
  (requestNotice_pins_closed rfl obtained fun _ => closing_closed).trans (closing_records_map ..)

theorem closing_summary_notQueued {seq : Nat} {at' : Time} {n : Nat}
    (obtained : obtainSlot .routine (closing seq at' n s) = (closing seq at' n s, none)) :
    (requestNotice (summaryAsk seq) (closing seq at' n s)).1.ev.records = s.ev.records.map fun r =>
      if r.seq = seq then { r.closedAt at' with summaryOutcome := .notQueued } else r :=
  (requestNotice_notQueued_closed rfl obtained fun _ => closing_closed).trans (closing_records_map ..)

/-- What of the records a close and its summary's outcome show, by what they show of one record. -/
theorem map_map_own {α : Type} {l m : List Record} {seq : Nat} {f : Record → Record} {view own : Record → α}
    (records : m = l.map fun r => if r.seq = seq then f r else r) (shown : ∀ r, r.seq = seq → view (f r) = own r) :
    m.map view = l.map fun r => if r.seq = seq then own r else view r := by
  rw [records, List.map_map]
  refine List.map_congr_left fun r _ => ?_
  by_cases same : r.seq = seq
  · simp [same, shown r same]
  · simp [same]

/-- The lowest EMPTY slot, or none. -/
theorem obtainSlot_routine (s : State) : obtainSlot .routine s = (s, emptySlotNumber s) := by
  cases found : emptySlotNumber s with
  | some n => exact obtainSlot_empty found _
  | none => exact obtainSlot_full found nofun

/-- An OPEN episode that closes (R91, R106 to R109). -/
theorem closeIfDone_closes {seq : Nat} (opened : s.det.episode = .opened seq) (slots : s.nt.slots.length = 12)
    (done : ∀ p ∈ s.det.participants, p.reason ≠ none) (at' : Time) (n : Nat) :
    let t := closeIfDone at' n s
    t.det = s.det.endEpisode ∧ (∀ q, (t.ports.get q).notices.getLsbD 1 = true) ∧
    t.ev.records.map (fun r => (r.seq, r.closed, r.close, r.revision)) =
      (s.ev.records.map fun r =>
        if r.seq = seq then (r.seq, true, some at', (r.revision + 1) % 256)
        else (r.seq, r.closed, r.close, r.revision)) ∧
    (∀ k, k < 12 → (slotAt k s).state = .empty → (∀ m, m < k → (slotAt m s).state ≠ .empty) →
      let tag := (s.nt.tagCounter + 1) % 256
      t.nt.tagCounter = tag ∧ slotAt k t = { Slot.clear with
        state := .waiting, kind := .quakeSummary, cls := .routine, origin := .detector, event := some seq
        preemptible := true, tag := tag, queued := s.tb.now } ∧
      t.ev.records.map (fun r => (r.seq, r.summaryOutcome, r.pins)) = s.ev.records.map fun r =>
        if r.seq = seq then (r.seq, .pending, r.pins + 1) else (r.seq, r.summaryOutcome, r.pins)) ∧
    ((∀ m, m < 12 → (slotAt m s).state ≠ .empty) →
      t.nt = { s.nt with unqueued := min 65535 (s.nt.unqueued + 1) } ∧
      t.ev.records.map (fun r => (r.seq, r.summaryOutcome, r.pins)) = s.ev.records.map fun r =>
        if r.seq = seq then (r.seq, .notQueued, r.pins) else (r.seq, r.summaryOutcome, r.pins)) := by
  intro t
  have asks : t = (requestNotice (summaryAsk seq) (closing seq at' n s)).1 := closeIfDone_opened opened done
  clear_value t
  subst asks
  have kept := requestNotice_episodePart (summaryAsk seq) (closing seq at' n s)
  have obtains : obtainSlot .routine (closing seq at' n s) = (closing seq at' n s, emptySlotNumber s) :=
    obtainSlot_routine _
  refine ⟨congrArg Prod.fst kept, fun q => ?notified, ?closed, fun k inside empty lowest => ?waits,
    fun full => ?refused⟩
  case notified =>
    rw [notices_of_episodePart kept (by decide)]
    have bit : ((closing seq at' n s).ports.get q).notices = (s.ports.get q).notices ||| 2#16 := by cases q <;> rfl
    rw [bit, BitVec.getLsbD_or, show (2#16).getLsbD 1 = true from rfl, Bool.or_true]
  case closed =>
    cases found : emptySlotNumber s with
    | some k => exact map_map_own (closing_summary_pins (obtains.trans (by rw [found]))) fun _ _ => rfl
    | none => exact map_map_own (closing_summary_notQueued (obtains.trans (by rw [found]))) fun _ _ => rfl
  case waits =>
    rw [emptySlotNumber_of inside empty lowest] at obtains
    obtain ⟨counter, slot⟩ := requestNotice_slot (a := summaryAsk seq) (s := closing seq at' n s) rfl obtains
      (show k < s.nt.slots.length by omega)
    exact ⟨counter, slot, map_map_own (closing_summary_pins obtains) fun _ _ => rfl⟩
  case refused =>
    rw [emptySlotNumber_none full] at obtains
    exact ⟨congrArg State.nt (requestNotice_refused (a := summaryAsk seq) rfl obtains),
      map_map_own (closing_summary_notQueued obtains) fun _ _ => rfl⟩

/-! ### The statement -/

theorem voteAndUpdate_declares {first : Nat} (idle : s.det.episode = .none) (earliest : EarliestCounted s.det first)
    (reached : s.det.cfg.threshold ≤ voteSum s.det) (frame : Frame) (joiners : List Nat) :
    voteAndUpdate frame joiners s = declareEvent frame first s := by
  simp only [voteAndUpdate, idle, earliestCounted_of earliest, if_pos reached]

/-- The recorder wake after a request for a notice expires as it would before it (R93, R169). -/
theorem requestNotice_wake (a : NoticeAsk) (s : State) : recorderWake (requestNotice a s).1 =
    (requestNotice a s).1.onLoad .recorder fun r =>
      { r with asks := { r.asks with detector := .until (s.pace.seconds + s.pw.act.eventWake) } } := by
  have fixed := requestNotice_fixed a s
  have seconds : (requestNotice a s).1.pace.seconds = s.pace.seconds := congrArg (fun x => x.pace.seconds) fixed
  have settings : (requestNotice a s).1.pw.act = s.pw.act := congrArg (fun x => x.pw.act) fixed
  rw [recorderWake_eq, seconds, settings]

/-- The participants of a declaration, in the order of their trigger frames (R88). -/
theorem declaredParticipants_eq (d : Detector) (onset : Nat) : ∃ chs : List Nat,
    chs.Perm ([1, 2, 3, 4, 5, 6].filter fun ch =>
      (d.channels.get ch).state == .triggered && decide (framesAfter d onset ch < 2 ^ 31)) ∧
    chs.Pairwise (TriggersBefore (framesAfter d onset)) ∧
    declaredParticipants d onset = chs.map (newParticipant d onset) :=
  ⟨_, byTriggerFrame_perm d onset _, byTriggerFrame_ordered d onset (List.Pairwise.filter _ (by decide)), rfl⟩

/-- Settles O28: the state of a declaration in the Event Table's three cases, its record and its notice, then the
close. -/
theorem eventsAreDeclaredAndClosed : Obligations.EventsAreDeclaredAndClosed := by
  refine ⟨fun frame first joiners s idle earliest reached slots => ?declares,
    fun at' n seq s opened slots => ⟨closeIfDone_still, fun done => ?closes⟩,
    fun at' n s lost => ⟨closeIfDone_still, closeIfDone_lost lost⟩⟩
  case closes =>
    intro t
    obtain ⟨det, shown⟩ := closeIfDone_closes opened slots done at' n
    exact ⟨congrArg Detector.episode det, congrArg Detector.participants det, by rw [det]; rfl, shown⟩
  case declares =>
    intro t
    have declared : t = declareEvent frame first s := voteAndUpdate_declares idle earliest reached frame joiners
    clear_value t
    subst declared
    obtain ⟨episode, det⟩ := declareEvent_det frame first s
    have cls : (declareEvent frame first s).det.cls = (declaredDetector frame first s.det).cls := by rw [det]
    have participants : (declareEvent frame first s).det.participants =
      (declaredDetector frame first s.det).participants := by rw [det]
    rw [cls, participants]
    intro onset noticeCls tag
    refine ⟨declareEvent_nextSeq .., congrArg Detector.onsetTime det, congrArg Detector.onsetFrame det,
      by rw [det]; rfl, congrArg Detector.votePeak det, congrArg Detector.clippedFlag det,
      congrArg Detector.gapFlag det, declaredParticipants_eq s.det onset.2, ?cls, ?table, fun room => ?room,
      fun full none => ?lost⟩
    case cls => rw [det]; rfl
    case table =>
      intro made wake lostEpisode next placed given
      have places {left : List Record} (room : roomForRecord s = some left) : placed left := by
        have woken : recorderWake (requestNotice (declareAsk frame first s) (placedIn left frame first s)).1 =
            wake (requestNotice (declareAsk frame first s) (placedIn left frame first s)).1 := requestNotice_wake ..
        exact (declareEvent_placed room).trans (if_congr Iff.rfl (by rw [woken]; rfl) rfl)
      exact ⟨fun room => places (roomForRecord_room room),
        fun out member full isGiven least => places (roomForRecord_gives full member isGiven least),
        fun full none => declareEvent_lost (roomForRecord_none full none)⟩
    case room =>
      have placed := roomForRecord_room room
      have kept := declareEvent_episodePart (frame := frame) (first := first) placed
      have table := declareEvent_kept (frame := frame) (first := first) placed
      have lost := congrArg EventTable.lost table
      obtain ⟨r, member, core, notice⟩ := declareEvent_record (frame := frame) (first := first) placed slots
      refine ⟨congrArg (fun p => p.1.episode) kept, congrArg EventTable.lostPending table, lost,
        fun q => ?_, r, member, congrArg Record.seq core, congrArg Record.closed core, congrArg Record.onset core,
        congrArg Record.declared core, congrArg Record.timeState core, congrArg Record.uncertainty core,
        congrArg Record.lostBefore core, congrArg Record.cls core, congrArg Record.votePeak core,
        congrArg Record.participants core, notice⟩
      rw [notices_of_episodePart kept (by decide)]
      have bit : ((placedIn s.ev.records frame first s).ports.get q).notices = (s.ports.get q).notices ||| 1#16 := by
        cases q <;> rfl
      rw [bit, BitVec.getLsbD_or, show (1#16).getLsbD 0 = true from rfl, Bool.or_true]
    case lost =>
      have kept (r : Record) (mem : r ∈ s.ev.records) : ¬Replaceable s r := by
        rintro ⟨closed, unpinned, read⟩
        rcases none r mem with opened | pinned | ⟨unread, q, -, drains, above⟩
        · exact Bool.false_ne_true (opened.symm.trans closed)
        · omega
        · exact Nat.not_lt.2 (read unread q drains) above
      rw [declareEvent_lost (roomForRecord_none full kept)]
      split <;> exact ⟨rfl, rfl, rfl, rfl, rfl⟩

end Sys2Proof.Machine
end

section
/-! The commands of the Event Table (R107, R110, R112, R113): the record that GET_EVENT sends, the limit of an
acknowledgement, and unread protection. -/

namespace Sys2Proof.Machine

variable {s : State}

/-! ### GET_EVENT (R112, section 6.7) -/

theorem participantBytes_eq : participantBytes = fun x => be 1 x.channel ++ be 2 x.offset ++ be 4 x.peakD ++
    be 2 x.peakRatio ++ be 1 (reasonCode x.reason) ++ be 1 (if x.suspect then 1 else 0) := by
  funext x
  rw [participantBytes, boolByte_eq]

theorem runGetEvent_none {seq : Nat} (fits : seq < 2 ^ 32) (absent : recordOf seq s = none) :
    runGetEvent (be 4 seq) s = refuse .notFound s := by
  rw [runGetEvent, if_pos (be_length ..), natOf_be_of_lt fits, absent]

theorem runGetEvent_some {seq : Nat} (fits : seq < 2 ^ 32) {r : Record} (found : recordOf seq s = some r) :
    runGetEvent (be 4 seq) s = taken (recordBytes r) s := by
  rw [runGetEvent, if_pos (be_length ..), natOf_be_of_lt fits, found]

/-! ### ACK_EVENTS (R110) -/

/-- An acknowledgement may reach a record that is CLOSED and below the OPEN one (R110). -/
def acknowledgeable (s : State) (r : Record) : Bool := r.closed && (openRecord s).all fun o => r.seq < o.seq

theorem acknowledgeable_iff {r : Record} : acknowledgeable s r = true ↔
    r.closed = true ∧ ∀ o, openRecord s = some o → r.seq < o.seq := by
  simp [acknowledgeable, Option.all_eq_true]

theorem ackLimit_eq (s : State) :
    ackLimit s = (s.ev.records.filter (acknowledgeable s)).foldl (fun acc r => max acc r.seq) 0 := by
  rw [List.foldl_filter]
  unfold ackLimit acknowledgeable
  cases openRecord s <;> rfl

/-- The limit is 0 or the highest sequence that an acknowledgement may reach. -/
theorem le_ackLimit {n : Nat} :
    n ≤ ackLimit s ↔ n ≤ 0 ∨ ∃ r ∈ s.ev.records, acknowledgeable s r = true ∧ n ≤ r.seq := by
  simp only [ackLimit_eq, le_foldl_max, List.mem_filter, and_assoc]

theorem seq_le_ackLimit {r : Record} (member : r ∈ s.ev.records) (allowed : acknowledgeable s r = true) :
    r.seq ≤ ackLimit s := le_ackLimit.2 (.inr ⟨r, member, allowed, le_rfl⟩)

theorem ackLimit_reached (s : State) :
    ackLimit s = 0 ∨ ∃ r ∈ s.ev.records, acknowledgeable s r = true ∧ r.seq = ackLimit s :=
  (le_ackLimit.1 le_rfl).imp Nat.le_zero.1 fun ⟨r, member, allowed, high⟩ =>
    ⟨r, member, allowed, (seq_le_ackLimit member allowed).antisymm high⟩

theorem runAckEvents_arg {arg : Nat} (fits : arg < 2 ^ 32) (p : Port) (s : State) :
    let new := max (s.ev.cursors.get p) (min arg (ackLimit s))
    runAckEvents p (be 4 arg) s =
      taken (be 4 new) (s.onEv fun ev => { ev with cursors := ev.cursors.update p fun _ => new }) := by
  rw [runAckEvents, if_pos (be_length ..), natOf_be_of_lt fits]

/-! ### SET_EVENT_TABLE (R107, R113) -/

/-- SET_EVENT_TABLE by its one byte. -/
theorem runSetEventTable_single (b : Byte) (s : State) : runSetEventTable [b] s =
    if b.toNat ≤ 1 then taken [] (s.onEv fun ev => { ev with unreadProtection := b == 1 })
    else refuse .outOfRange s := by
  simp only [runSetEventTable, natOf_single, List.length_singleton, true_and, toNat_beq_one]

/-! ### The statement -/

/-- Settles O30: the three commands by the values of their arguments. -/
theorem eventTableCommands : Obligations.EventTableCommands := by
  refine ⟨fun p tag seq s adm fits => ⟨fun absent => ?absent, fun r found => ?found⟩,
    fun p tag arg s adm fits => ?ack, fun p tag b s adm => ⟨fun low => ?low, fun high => ?high⟩⟩
  case absent =>
    have missing : recordOf seq s = none := List.find?_eq_none.2 fun r mem => by simpa using absent r mem
    exact request_answers adm (runGetEvent_none fits missing)
  case found =>
    have sent : exec (.getEvent p tag (be 4 seq)) s = .next (s.answered p tag .ok (recordBytes r)) :=
      request_answers adm (runGetEvent_some fits found)
    rw [sent]
    -- `rw [recordBytes]` would look for its equation through every append of the layout.
    delta recordBytes
    rw [participantBytes_eq, boolByte_eq]
    rfl
  case ack =>
    intro allowed
    have reach (r : Record) : acknowledgeable s r = true ↔ allowed r := acknowledgeable_iff
    refine ⟨ackLimit s, _, request_leaves adm (runAckEvents_arg fits p _), rfl,
      fun r mem ok => seq_le_ackLimit mem ((reach r).2 ok), (ackLimit_reached s).imp_right ?_⟩
    exact fun ⟨r, mem, ok, top⟩ => ⟨r, mem, (reach r).1 ok, top⟩
  case low => exact request_leaves adm ((runSetEventTable_single b _).trans (if_pos low))
  case high => exact request_answers adm ((runSetEventTable_single b _).trans (if_neg (Nat.not_le.2 high)))

end Sys2Proof.Machine
end

section
/-! The end of a step (R115, R138, R165, R167, R170): `settle` in its four rounds. -/

namespace Sys2Proof.Machine

/-- One round of forming, operation by operation, with the loads in the order of their codes. -/
theorem settleRound_eq (s : State) : settleRound s =
    formLoad .aux (formLoad .radio (formLoad .telemetry (formLoad .recorder (formLoad .gnss (formLoad .sensor
      (formRadioRequest (endGasp s))))))) := rfl

/-- Settles O3: what `settle` leaves is what each of its operations leaves, and its rounds are spelled. -/
theorem settleChangesOnly : Obligations.SettleChangesOnly := fun s =>
  have ⟨kept, replies⟩ := settle_reply s
  ⟨kept, replies, by simp only [settle, settleRound_eq]⟩

end Sys2Proof.Machine
end

section
/-! Events of the line, the transmitter and the slots that are due: the warm-up, the key-up lead and the end of air (R115,
R117, R121, R130, R140, R145), and the expiries of the link and of a backoff (R125, R128, R130, R138, R142). -/

namespace Sys2Proof.Machine

variable {s : State}

/-! ### The line and the transmitter -/

theorem exec_radioWarm (released : s.pace.held = false) (on : s.pw.loads.radio.on = true) (cold : s.link.warm = false)
    (past : s.link.warmAt ≤ s.pace.cycles) :
    exec .radioWarm s = .next (settle (s.onLink fun l => { l with warm := true })) := by
  show execRadioWarm s = _
  rw [execRadioWarm, takeEvent_due released (by simp [warmDue, on, cold, past])]

theorem exec_keyUpLeadEnd {frame : List Byte} {o : AirOrigin} {leadEnd rate : Nat} (released : s.pace.held = false)
    (keying : s.link.tx = .keying frame o leadEnd rate) (past : leadEnd ≤ s.pace.cycles) :
    exec .keyUpLeadEnd s = .next (s.onLink fun l => { l with tx := .onAir frame o s.pace.cycles rate }) := by
  have ended : leadOver s = some (frame, o, rate) := by simp only [leadOver, keying, if_pos past]
  show execKeyUpLeadEnd s = _
  rw [execKeyUpLeadEnd, takeEvent_due released (by rw [ended]; rfl), ended]

theorem exec_endOfAir {frame : List Byte} {o : AirOrigin} {start rate : Nat} (released : s.pace.held = false)
    (onAir : s.link.tx = .onAir frame o start rate)
    (past : start * rate + frame.length * 10 * perSecond ≤ s.pace.cycles * rate) :
    exec .endOfAir s = .next (settle (endOfAir o s)) := by
  have ended : airOver s = some o := by simp only [airOver, onAir, if_pos past]
  show execEndOfAir s = _
  rw [execEndOfAir, takeEvent_due released (by rw [ended]; rfl), ended]

/-- The ack window that opens at the end of air (R121). -/
theorem openWindow_eq (o : AirOrigin) (tag index : Nat) (s : State) : openWindow o tag index s =
    { s with link := { s.link with window := some {
      finish := s.tb.now + s.link.cfg.ackWindow * 10000000, tag := tag, index := index, origin := o,
      undecided := false } } } := rfl

/-- Settles O31: each of the three events is due, and an end of air acts by what went. -/
theorem transmissionsRunToTheEndOfAir : Obligations.TransmissionsRunToTheEndOfAir := by
  refine ⟨fun s => exec_radioWarm, fun frame o leadEnd rate s => exec_keyUpLeadEnd,
    fun frame o start rate s released onAir past => ?_⟩
  intro idle window
  rw [exec_endOfAir released onAir past]
  refine congrArg (fun x => Host.Outcome.next (settle x)) ?_
  cases o with
  | segment n =>
    show (if (slotAt n s).abortPending then abortSlot n idle
      else openWindow (.segment n) (slotAt n s).tag (slotAt n s).nextSegment
        (onSlot n (fun sl => { sl with state := .awaitAck }) idle)) = _
    rw [openWindow_eq]
    rfl
  | probe => exact openWindow_eq ..
  | reply r => rfl

/-! ### Expiries -/

theorem exec_restExpiry {e : Nat} (released : s.pace.held = false) (silent : s.link.health = .silent)
    (free : s.link.probeDue = false) (rests : s.link.restExpiry = some e) (past : e ≤ s.pace.seconds) :
    exec .restExpiry s = .next (settle (s.onLink fun l => { l with probeDue := true, probeAlarm := false })) := by
  show execRestExpiry s = _
  rw [execRestExpiry, takeEvent_due released (by simp [restDue, silent, free, rests, past])]

theorem exec_pauseExpiry {e : Nat} (released : s.pace.held = false) (paused : s.link.pause = some e)
    (past : e ≤ s.pace.cycles) : exec .pauseExpiry s = .next (settle (s.onLink fun l => { l with pause := none })) := by
  show execPauseExpiry s = _
  rw [execPauseExpiry, takeEvent_due released (by simp [pauseOver, paused, past])]

theorem exec_quietExpiry {e : Nat} (released : s.pace.held = false) (quiet : s.link.quiet = some e)
    (past : e ≤ s.pace.seconds) : exec .quietExpiry s = .next (settle (s.onLink fun l => { l with quiet := none })) := by
  show execQuietExpiry s = _
  rw [execQuietExpiry, takeEvent_due released (by simp [quietOver, quiet, past])]

theorem exec_replyExpiry {r : QueuedReply} (released : s.pace.held = false) (queued : r ∈ s.link.replies)
    (old : r.taken + 60 ≤ s.pace.seconds) : exec .replyExpiry s = .next (settle (dropOldReplies s)) := by
  show execReplyExpiry s = _
  rw [execReplyExpiry, takeEvent_due released (List.any_eq_true.2 ⟨r, queued, decide_eq_true old⟩)]

theorem exec_backoffExpiry {n : Nat} (released : s.pace.held = false) (backs : (slotAt n s).state = .backoff)
    (past : (slotAt n s).backoff ≤ s.pace.cycles) : exec (.backoffExpiry n) s = .next (settle (waitAgain n s)) := by
  show execBackoffExpiry n s = _
  rw [execBackoffExpiry, takeEvent_due released (by simp [backoffDue, backs, past])]

/-- The early probe that an ALARM notice uses when it becomes WAITING in SILENT (R125, R138). -/
def earlyProbe (s : State) : State :=
  s.onLink fun l => { l with probeDue := true, probeAlarm := true, earlyUsed := true }

/-- A slot that becomes WAITING again, with the early probe where it is an ALARM notice in SILENT (R138). -/
theorem waitAgain_eq (n : Nat) (s : State) : waitAgain n s =
    let waiting := onSlot n (fun sl => { sl with state := .waiting, view := .notWaiting }) s
    if (slotAt n s).cls = .alarm ∧ s.link.health = .silent ∧ s.link.earlyUsed = false then earlyProbe waiting
    else waiting := by
  unfold waitAgain alarmWaiting
  rw [ite_and]
  rfl

/-- Settles O38: each expiry is due and acts. -/
theorem linkExpiriesAct : Obligations.LinkExpiriesAct := by
  refine fun s released => ⟨fun e => exec_restExpiry released, fun e => exec_pauseExpiry released,
    fun e => exec_quietExpiry released, fun r => exec_replyExpiry released, fun n backs past => ?_⟩
  rw [exec_backoffExpiry released backs past, waitAgain_eq]
  rfl

end Sys2Proof.Machine
end

section
/-! Slots, open notices, candidates and the preemption stack (R128, R138, R139, R144, R146, R150, R171). -/

namespace Sys2Proof.Machine

variable {s : State}

/-! ### Slots -/

/-- A slot beyond the table reads as EMPTY. -/
theorem slotAt_beyond {n : Nat} (beyond : s.nt.slots.length ≤ n) : slotAt n s = .clear :=
  List.getD_eq_default _ _ beyond

theorem slot_inside {n : Nat} (used : (slotAt n s).state ≠ .empty) : n < s.nt.slots.length := by
  by_contra beyond
  exact used (by rw [slotAt_beyond (Nat.le_of_not_lt beyond)]; rfl)

/-- Two changes of a slot that agree on it are one. -/
theorem onSlot_congr {n : Nat} {f g : Slot → Slot} (same : f (slotAt n s) = g (slotAt n s)) :
    onSlot n f s = onSlot n g s := by
  have slots : s.nt.slots.modify n f = s.nt.slots.modify n g := by
    refine List.ext_getElem? fun i => ?_
    rw [List.getElem?_modify, List.getElem?_modify]
    split
    next here =>
      subst here
      cases found : s.nt.slots[n]? with
      | none => rfl
      | some sl =>
        rw [slotAt, List.getD_eq_getElem?_getD, found] at same
        exact congrArg some same
    next => rfl
  simp only [onSlot, State.onNt, slots]

theorem onSlot_onSlot (n : Nat) (f g : Slot → Slot) (s : State) :
    onSlot n g (onSlot n f s) = onSlot n (fun sl => g (f sl)) s := by
  have slots : (s.nt.slots.modify n f).modify n g = s.nt.slots.modify n fun sl => g (f sl) := by
    refine List.ext_getElem? fun i => ?_
    simp only [List.getElem?_modify]
    cases s.nt.slots[i]? with
    | none => rfl
    | some sl => by_cases here : n = i <;> simp [here]
  simp only [onSlot, State.onNt, slots]

/-- A slot of the table changed: its record is replaced. -/
theorem onSlot_eq_set {n : Nat} (inside : n < s.nt.slots.length) (f : Slot → Slot) :
    onSlot n f s = s.onNt fun nt => { nt with slots := nt.slots.set n (f (slotAt n s)) } := by
  have slots : s.nt.slots.modify n f = s.nt.slots.set n (f (slotAt n s)) := by
    rw [List.modify_eq_set_get f inside, slotAt, List.getD_eq_getElem _ _ inside]
    rfl
  simp only [onSlot, State.onNt, slots]

/-! ### The first of the best -/

/-- The first number of highest rank in a list. -/
def firstBest (rank : Nat → Int) (l : List Nat) : Option Nat :=
  l.foldl (fun acc n =>
    match acc with
    | none => some n
    | some m => if rank m < rank n then some n else some m) none

/-- A member of a list that no other outranks, nor a lower number of its rank. -/
def IsBest (rank : Nat → Int) (l : List Nat) (n : Nat) : Prop :=
  n ∈ l ∧ ∀ m ∈ l, rank m < rank n ∨ (rank m = rank n ∧ n ≤ m)

theorem IsBest.unique {rank : Nat → Int} {l : List Nat} {n m : Nat} (h : IsBest rank l n) (k : IsBest rank l m) :
    n = m := by
  have := h.2 m k.1
  have := k.2 n h.1
  omega

/-- The first member keeps its place before one that does not outrank it. -/
theorem IsBest.keep {rank : Nat → Int} {l : List Nat} {a k n : Nat} (low : rank a ≤ rank k) (before : k < a)
    (best : IsBest rank (k :: l) n) : IsBest rank (k :: a :: l) n := by
  obtain ⟨member, high⟩ := best
  have first := high k List.mem_cons_self
  refine ⟨List.mem_cons.2 ((List.mem_cons.1 member).imp_right (List.mem_cons_of_mem a)), fun m mem => ?_⟩
  rcases List.mem_cons.1 mem with rfl | mem
  · exact first
  · rcases List.mem_cons.1 mem with rfl | mem
    · omega
    · exact high m (List.mem_cons_of_mem k mem)

/-- It gives way to one that outranks it. -/
theorem IsBest.yield {rank : Nat → Int} {l : List Nat} {a k n : Nat} (low : rank k < rank a)
    (best : IsBest rank (a :: l) n) : IsBest rank (k :: a :: l) n := by
  obtain ⟨member, high⟩ := best
  have first := high a List.mem_cons_self
  refine ⟨List.mem_cons_of_mem k member, fun m mem => ?_⟩
  rcases List.mem_cons.1 mem with rfl | mem
  · omega
  · exact high m mem

theorem firstBest_cons (rank : Nat → Int) {l : List Nat} {k : Nat} (sorted : (k :: l).Pairwise (· < ·)) :
    ∃ n, firstBest rank (k :: l) = some n ∧ IsBest rank (k :: l) n := by
  induction l generalizing k with
  | nil => exact ⟨k, rfl, List.mem_cons_self, fun m mem => .inr (by simp_all)⟩
  | cons a l ih =>
    obtain ⟨first, rest⟩ := List.pairwise_cons.1 sorted
    have before := first a List.mem_cons_self
    by_cases low : rank k < rank a
    · obtain ⟨n, found, best⟩ := ih rest
      refine ⟨n, ?_, best.yield low⟩
      rw [← found]
      exact congrArg (fun acc => l.foldl _ acc) (if_pos low)
    · obtain ⟨n, found, best⟩ := ih (List.pairwise_cons.2 ⟨fun m mem => first m (List.mem_cons_of_mem a mem),
        (List.pairwise_cons.1 rest).2⟩)
      refine ⟨n, ?_, best.keep (by omega) before⟩
      rw [← found]
      exact congrArg (fun acc => l.foldl _ acc) (if_neg low)

/-- Of an ascending list the first of highest rank is the one that is best. -/
theorem firstBest_eq_some {rank : Nat → Int} {l : List Nat} (sorted : l.Pairwise (· < ·)) {n : Nat} :
    firstBest rank l = some n ↔ IsBest rank l n := by
  cases l with
  | nil => simp [firstBest, IsBest]
  | cons k l =>
    obtain ⟨m, found, best⟩ := firstBest_cons rank sorted
    rw [found, Option.some_inj]
    exact ⟨fun e => e ▸ best, fun other => best.unique other⟩

theorem firstBest_eq_none {rank : Nat → Int} {l : List Nat} (sorted : l.Pairwise (· < ·)) :
    firstBest rank l = none ↔ ∀ n, n ∉ l := by
  cases l with
  | nil => simp [firstBest]
  | cons k l =>
    obtain ⟨m, found, best⟩ := firstBest_cons rank sorted
    simp only [found, reduceCtorEq, false_iff, not_forall, not_not]
    exact ⟨m, best.1⟩

/-- Some of the slot numbers, in order. -/
theorem slotNumbers_sorted (p : Nat → Bool) : (slotNumbers.filter p).Pairwise (· < ·) :=
  List.pairwise_lt_range.filter p

/-- The rank of a slot by its class. -/
def classRank (s : State) (n : Nat) : Int := (slotAt n s).cls.code

theorem bestOf_eq (s : State) (l : List Nat) : bestOf s l = firstBest (classRank s) l := by
  simp only [bestOf, firstBest, classRank, NoticeClass.above, decide_eq_true_iff, Int.ofNat_lt] <;> rfl

theorem NoticeClass.code_inj {a b : NoticeClass} : a.code = b.code ↔ a = b := by
  cases a <;> cases b <;> simp [NoticeClass.code]

/-! ### Open notices (R139) -/

theorem Slot.isOpen_iff (sl : Slot) : sl.isOpen = true ↔ 0 < sl.nextSegment ∧
    (sl.state = .waiting ∨ sl.state = .sending ∨ sl.state = .awaitAck ∨ sl.state = .backoff) := by
  unfold Slot.isOpen
  cases sl.state <;> simp

theorem mem_openSlots {n : Nat} : n ∈ slotNumbers.filter (fun n => (slotAt n s).isOpen) ↔ NoticeOpen n s := by
  rw [List.mem_filter, Slot.isOpen_iff, slotNumbers, List.mem_range, NoticeOpen]

/-- The open notice is the first one of lowest class. -/
theorem openNotice_eq (s : State) : openNotice s =
    firstBest (fun n => -classRank s n) (slotNumbers.filter fun n => (slotAt n s).isOpen) := by
  simp only [openNotice, firstBest, classRank, NoticeClass.above, decide_eq_true_iff, Int.neg_lt_neg_iff,
    Int.ofNat_lt] <;> rfl

theorem openNotice_eq_none : openNotice s = none ↔ ∀ n, ¬NoticeOpen n s := by
  rw [openNotice_eq, firstBest_eq_none (slotNumbers_sorted _)]
  simp only [mem_openSlots]

theorem openNotice_some {o : Nat} (found : openNotice s = some o) : NoticeOpen o s ∧
    ∀ n, NoticeOpen n s → (slotAt o s).cls.code < (slotAt n s).cls.code ∨ ((slotAt o s).cls = (slotAt n s).cls ∧ o ≤ n) := by
  rw [openNotice_eq, firstBest_eq_some (slotNumbers_sorted _)] at found
  obtain ⟨member, best⟩ := found
  refine ⟨mem_openSlots.1 member, fun n isOpen => ?_⟩
  have rank := best n (mem_openSlots.2 isOpen)
  rw [← NoticeClass.code_inj]
  simp only [classRank] at rank
  omega

/-! ### Candidates (R128, R138, R139, R144, R171) -/

theorem floorRefuses_eq_false (c : NoticeClass) (s : State) : floorRefuses c s = false ↔ energyFloor c s ≤ s.pw.soc := by
  rw [floorRefuses, decide_eq_false_iff_not, Nat.not_lt]

theorem startAllowed_iff (n : Nat) (s : State) : startAllowed n s = true ↔ StartAllowed n s := by
  unfold startAllowed StartAllowed
  cases (slotAt n s).cls <;> simp [permitted, floorRefuses_eq_false, energyFloor, and_assoc]

theorem aboveTop_iff (c : NoticeClass) (s : State) : aboveTop c s = true ↔ AboveStack c s := by
  unfold aboveTop topClass AboveStack
  cases s.nt.stack.getLast? <;> simp [NoticeClass.above]

theorem mem_candidates {n : Nat} : n ∈ slotNumbers.filter (candidate s) ↔ MayStart n s := by
  simp only [List.mem_filter, slotNumbers, List.mem_range, candidate, Bool.and_eq_true, beq_iff_eq, startAllowed_iff,
    aboveTop_iff, MayStart, and_assoc]

/-- Without an open notice the best candidate is selected (R139, item 2). -/
theorem selectNotice_closed (closed : ∀ n, ¬NoticeOpen n s) :
    selectNotice s = (firstBest (classRank s) (slotNumbers.filter (candidate s))).map fun n => (n, none) := by
  simp only [selectNotice, openNotice_eq_none.2 closed, bestOf_eq]

theorem selectNotice_closed_none (closed : ∀ n, ¬NoticeOpen n s) : selectNotice s = none ↔ ∀ n, ¬MayStart n s := by
  rw [selectNotice_closed closed, Option.map_eq_none_iff, firstBest_eq_none (slotNumbers_sorted _)]
  simp only [mem_candidates]

theorem selectNotice_closed_some (closed : ∀ n, ¬NoticeOpen n s) {n : Nat} {pushed : Option Nat}
    (selected : selectNotice s = some (n, pushed)) : pushed = none ∧ MayStart n s ∧
      ∀ m, MayStart m s → (slotAt m s).cls.code < (slotAt n s).cls.code ∨
        ((slotAt m s).cls.code = (slotAt n s).cls.code ∧ n ≤ m) := by
  rw [selectNotice_closed closed, Option.map_eq_some_iff] at selected
  obtain ⟨k, found, pair⟩ := selected
  obtain ⟨rfl, rfl⟩ := Prod.mk.inj pair
  obtain ⟨member, best⟩ := (firstBest_eq_some (slotNumbers_sorted _)).1 found
  refine ⟨rfl, mem_candidates.1 member, fun m may => ?_⟩
  simpa only [classRank, Int.ofNat_lt, Int.natCast_inj] using best m (mem_candidates.2 may)

/-! ### Selection with an open notice (R139, R144) -/

/-- A candidate of a higher class than the open notice. -/
def Higher (o : Nat) (s : State) (n : Nat) : Prop := MayStart n s ∧ (slotAt o s).cls.code < (slotAt n s).cls.code

/-- The open notice waits and may start. -/
def GoesOn (o : Nat) (s : State) : Prop := (slotAt o s).state = .waiting ∧ StartAllowed o s

/-- The open notice may be pushed (R139, R144). -/
def MayPush (o : Nat) (s : State) : Prop :=
  AboveStack (slotAt o s).cls s ∧ ((slotAt o s).state = .waiting ∨ (slotAt o s).state = .backoff) ∧
    ((slotAt o s).preemptible = true ∨ ((slotAt o s).state = .waiting ∧ ¬StartAllowed o s))

/-- The candidates of a higher class than the open notice, in order. -/
def higherSlots (o : Nat) (s : State) : List Nat :=
  (slotNumbers.filter (candidate s)).filter fun n => (slotAt n s).cls.above (slotAt o s).cls

theorem higherSlots_sorted (o : Nat) (s : State) : (higherSlots o s).Pairwise (· < ·) := (slotNumbers_sorted _).filter _

theorem mem_higherSlots {o n : Nat} : n ∈ higherSlots o s ↔ Higher o s n := by
  rw [higherSlots, List.mem_filter, mem_candidates, NoticeClass.above, decide_eq_true_iff, Higher]

open Classical in
theorem selectNotice_open {o : Nat} (opened : openNotice s = some o) : selectNotice s =
    match firstBest (classRank s) (higherSlots o s) with
    | some n => if MayPush o s then some (n, some o) else if GoesOn o s then some (o, none) else none
    | none => if GoesOn o s then some (o, none) else none := by
  have goesOn : ((slotAt o s).state == .waiting && startAllowed o s) = decide (GoesOn o s) := by
    rw [Bool.eq_iff_iff, decide_eq_true_iff]
    simp [GoesOn, startAllowed_iff]
  have mayPush : (aboveTop (slotAt o s).cls s && ((slotAt o s).state == .waiting || (slotAt o s).state == .backoff) &&
      ((slotAt o s).preemptible || ((slotAt o s).state == .waiting && !startAllowed o s))) = decide (MayPush o s) := by
    rw [Bool.eq_iff_iff, decide_eq_true_iff]
    simp [MayPush, aboveTop_iff, ← startAllowed_iff, and_assoc]
  simp only [selectNotice, opened, bestOf_eq, goesOn, mayPush, decide_eq_true_iff, higherSlots] <;> rfl

/-- The best of the higher candidates pushes the open notice. -/
theorem selectNotice_pushes {o n : Nat} (opened : openNotice s = some o) (may : MayPush o s) (higher : Higher o s n)
    (best : ∀ m, Higher o s m → (slotAt m s).cls.code < (slotAt n s).cls.code ∨
      ((slotAt m s).cls = (slotAt n s).cls ∧ n ≤ m)) : selectNotice s = some (n, some o) := by
  have found : firstBest (classRank s) (higherSlots o s) = some n := by
    refine (firstBest_eq_some (higherSlots_sorted o s)).2 ⟨mem_higherSlots.2 higher, fun m mem => ?_⟩
    simpa only [classRank, Int.ofNat_lt, Int.natCast_inj, NoticeClass.code_inj] using best m (mem_higherSlots.1 mem)
  rw [selectNotice_open opened, found]
  exact if_pos may

open Classical in
/-- Where nothing pushes it, the open notice goes on or nothing is selected. -/
theorem selectNotice_stays {o : Nat} (opened : openNotice s = some o) (quiet : MayPush o s → ∀ n, ¬Higher o s n) :
    selectNotice s = if GoesOn o s then some (o, none) else none := by
  rw [selectNotice_open opened]
  cases found : firstBest (classRank s) (higherSlots o s) with
  | none => rfl
  | some n =>
    have higher := mem_higherSlots.1 ((firstBest_eq_some (higherSlots_sorted o s)).1 found).1
    exact if_neg fun may => quiet may n higher

/-! ### The preemption stack (R144) -/

/-- The open notice pushed: it is PREEMPTED without its backoff, and on top of the stack. -/
theorem pushNotice_eq {o : Nat} (inside : o < s.nt.slots.length) (n : Nat) : pushNotice o n s =
    s.onNt fun nt => { nt with
      slots := nt.slots.set o { slotAt o s with state := .preempted, backoff := 0 }
      stack := nt.stack ++ [{ slot := o, nextSegment := (slotAt o s).nextSegment, cls := (slotAt o s).cls, by' := n }] } :=
  onSlot_eq_set (s := s.onNt _) inside _

/-- The stack replaced. -/
def withStack (st : List StackEntry) (s : State) : State := s.onNt fun nt => { nt with stack := st }

theorem endEntry_other {n i : Nat} (other : ∀ e, s.nt.stack[i]? = some e → e.by' ≠ n) : endEntry n i s = s := by
  unfold endEntry
  cases found : s.nt.stack[i]? with
  | none => rfl
  | some e => exact if_neg (other e found)

/-- An entry below another takes the slot of that entry as its preempting slot. -/
theorem endEntry_below {n i : Nat} {e above : StackEntry} (found : s.nt.stack[i]? = some e) (ends : e.by' = n)
    (next : s.nt.stack[i + 1]? = some above) :
    endEntry n i s = withStack (s.nt.stack.modify i fun e => { e with by' := above.slot }) s := by
  simp only [endEntry, found, next, if_pos ends]
  rfl

/-- The top entry takes another open notice as its preempting slot. -/
theorem endEntry_takes {n i o : Nat} {e : StackEntry} (opened : openNotice s = some o)
    (found : s.nt.stack[i]? = some e) (ends : e.by' = n) (top : s.nt.stack[i + 1]? = none) :
    endEntry n i s = withStack (s.nt.stack.modify i fun e => { e with by' := o }) s := by
  simp only [endEntry, found, top, opened, if_pos ends]
  rfl

/-- Without another open notice the top entry is popped. -/
theorem endEntry_pops {n i : Nat} {e : StackEntry} (closed : openNotice s = none)
    (found : s.nt.stack[i]? = some e) (ends : e.by' = n) (top : s.nt.stack[i + 1]? = none) :
    endEntry n i s = waitAgain e.slot (withStack (s.nt.stack.eraseIdx i) s) := by
  simp only [endEntry, found, top, closed, if_pos ends]
  rfl

/-- The only entry of a stack, when the notice that preempted it ends. -/
theorem endEntry_bottom {n : Nat} {b : StackEntry} (stack : s.nt.stack = [b]) (ends : b.by' = n) : endEntry n 0 s =
    match openNotice s with
    | some o => withStack [{ b with by' := o }] s
    | none => waitAgain b.slot (withStack [] s) := by
  have found : s.nt.stack[0]? = some b := by rw [stack]; rfl
  have top : s.nt.stack[0 + 1]? = none := by rw [stack]; rfl
  cases opened : openNotice s with
  | some o => rw [endEntry_takes opened found ends top, stack]; rfl
  | none => rw [endEntry_pops opened found ends top, stack]; rfl

/-- The upper of two entries, when the notice that preempted it ends. -/
theorem endEntry_upper {n : Nat} {b e : StackEntry} (stack : s.nt.stack = [b, e]) (ends : e.by' = n) : endEntry n 1 s =
    match openNotice s with
    | some o => withStack [b, { e with by' := o }] s
    | none => waitAgain e.slot (withStack [b] s) := by
  have found : s.nt.stack[1]? = some e := by rw [stack]; rfl
  have top : s.nt.stack[1 + 1]? = none := by rw [stack]; rfl
  cases opened : openNotice s with
  | some o => rw [endEntry_takes opened found ends top, stack]; rfl
  | none => rw [endEntry_pops opened found ends top, stack]; rfl

theorem waitAgain_stack (n : Nat) (s : State) : (waitAgain n s).nt.stack = s.nt.stack :=
  by rw [waitAgain_nt]; rfl

theorem endPreempting_other {n : Nat} (other : ∀ e ∈ s.nt.stack, e.by' ≠ n) : endPreempting n s = s := by
  have entry (i : Nat) : endEntry n i s = s := endEntry_other fun e found => other e (List.mem_of_getElem? found)
  unfold endPreempting
  induction (List.range s.nt.stack.length).reverse with
  | nil => rfl
  | cons i l ih => rw [List.foldl_cons, entry, ih]

theorem endPreempting_one {e : StackEntry} (stack : s.nt.stack = [e]) (n : Nat) :
    endPreempting n s = endEntry n 0 s := by rw [endPreempting, stack]; rfl

theorem endPreempting_two {b e : StackEntry} (stack : s.nt.stack = [b, e]) (n : Nat) :
    endPreempting n s = endEntry n 0 (endEntry n 1 s) := by rw [endPreempting, stack]; rfl

/-- The notice that preempted the top entry, and no other, ends. -/
theorem endPreempting_top {n : Nat} {below : List StackEntry} {e : StackEntry} (stack : s.nt.stack = below ++ [e])
    (few : below.length ≤ 1) (ends : e.by' = n) (others : ∀ b ∈ below, b.by' ≠ n) : endPreempting n s =
      match openNotice s with
      | some o => withStack (below ++ [{ e with by' := o }]) s
      | none => waitAgain e.slot (withStack below s) := by
  match below with
  | [] => rw [endPreempting_one stack]; exact endEntry_bottom stack ends
  | [b] =>
    have other := others b List.mem_cons_self
    have still (x : State) (first : x.nt.stack[0]? = some b) : endEntry n 0 x = x :=
      endEntry_other fun e found => by rw [first] at found; exact Option.some_inj.1 found ▸ other
    rw [endPreempting_two stack, endEntry_upper stack ends]
    cases openNotice s with
    | some o => exact still _ rfl
    | none => exact still _ (by rw [waitAgain_stack]; rfl)

/-- The notice that preempted the lower of two entries ends. -/
theorem endPreempting_lower {n : Nat} {b e : StackEntry} (stack : s.nt.stack = [b, e]) (ends : b.by' = n)
    (other : e.by' ≠ n) : endPreempting n s = withStack [{ b with by' := e.slot }, e] s := by
  have upper : endEntry n 1 s = s :=
    endEntry_other fun x found => by rw [stack] at found; exact Option.some_inj.1 found ▸ other
  rw [endPreempting_two stack, upper, endEntry_below (by rw [stack]; rfl) ends (by rw [stack]; rfl), stack]
  rfl

/-- The notice that preempted both of two entries ends. -/
theorem endPreempting_both {n : Nat} {b e : StackEntry} (stack : s.nt.stack = [b, e]) (lower : b.by' = n)
    (upper : e.by' = n) : endPreempting n s =
      match openNotice s with
      | some o => withStack [{ b with by' := e.slot }, { e with by' := o }] s
      | none =>
        let popped := waitAgain e.slot (withStack [b] s)
        match openNotice popped with
        | some o => withStack [{ b with by' := o }] popped
        | none => waitAgain b.slot (withStack [] popped) := by
  rw [endPreempting_two stack, endEntry_upper stack upper]
  cases openNotice s with
  | some o => exact endEntry_below (s := withStack [b, { e with by' := o }] s) (above := { e with by' := o }) rfl lower rfl
  | none => exact endEntry_bottom (waitAgain_stack ..) lower

/-! ### The end of a notice (R146, R150) -/

theorem endNotice_oneShot {n : Nat} (oneShot : (slotAt n s).responder = false) (delivered : Bool) :
    endNotice n delivered s = finishSlot n (if delivered then .delivered else .failed)
      (if delivered then .delivered else .failed) s := by
  simp only [endNotice, oneShot, Bool.false_eq_true, if_false]

theorem endNotice_responder {n : Nat} (responder : (slotAt n s).responder = true) (inside : n < s.nt.slots.length)
    (delivered : Bool) : endNotice n delivered s = endPreempting n
      { s with
        nt := { s.nt with slots := s.nt.slots.set n { slotAt n s with
          state := .armed, outcome := if delivered then .delivered else .failed, completed := s.tb.now, tag := 0
          nextSegment := 0, attempts := 0, segments := 0, abortPending := false
          payload := if (slotAt n s).kind = .status then none else (slotAt n s).payload } }
        ports := match (slotAt n s).origin with
          | .port p => s.ports.update p fun r => { r with notices := r.notices ||| 0x20 }
          | _ => s.ports } := by
  simp only [endNotice, responder, if_true, completeResponder, onSlot_eq_set inside]
  cases (slotAt n s).origin <;> rfl

/-- Settles O41: the open notice, the selection beside it, the push, the stack at the end of a notice, and that end. -/
theorem thePreemptionStackMoves : Obligations.ThePreemptionStackMoves := by
  unfold Obligations.ThePreemptionStackMoves
  intro again stacked
  have waits : again = waitAgain := funext fun n => funext fun x => (waitAgain_eq n x).symm
  rw [waits]
  refine ⟨fun s => ⟨openNotice_eq_none, fun o => openNotice_some, fun o opened => ?selects⟩,
    fun o n s inside => pushNotice_eq inside n,
    fun n s => ⟨endPreempting_other, fun below e => endPreempting_top, fun b e => endPreempting_lower,
      fun b e => endPreempting_both⟩,
    fun n delivered s inside => ⟨fun oneShot => endNotice_oneShot oneShot delivered,
      fun responder => endNotice_responder responder inside delivered⟩⟩
  case selects =>
    intro sl higher goesOn mayPush
    refine ⟨fun n => selectNotice_pushes opened, fun quiet goes => ?_, fun quiet stops => ?_⟩
    · exact (selectNotice_stays opened quiet).trans (if_pos goes)
    · exact (selectNotice_stays opened quiet).trans (if_neg stops)

end Sys2Proof.Machine
end

section
/-! The payload of every notice kind and the escalation of an event (R125, R133, R137, R140, R151). -/

namespace Sys2Proof.Machine

variable {s : State}

/-! ### Payloads (R137) -/

theorem optTimeBytes_eq (t : Option Time) : optTimeBytes t = match t with | none => zeros 8 | some c => timeBytes c := by
  cases t <;> rfl

theorem levelCode_cases (l : Option Level) : levelCode l = match l with
    | none => 255 | some .full => 0 | some .reduced => 1 | some .survival => 2 | some .critical => 3 | some .dormant => 4 := by
  rcases l with _ | _ | _ | _ | _ | _ <;> rfl

theorem PowerReason.code_eq (r : PowerReason) : PowerReason.code r =
    match r with | .levelEntry => 0 | .lastGasp => 1 | .coldHold => 2 := by cases r <;> rfl

theorem LinkState.code_eq (l : LinkState) : LinkState.code l =
    match l with | .off => 0 | .clear => 1 | .strained => 2 | .silent => 3 := by cases l <;> rfl

/-- The first record of a sequence is the one that is found. -/
theorem recordOf_first {e : Nat} {before after : List Record} {r : Record} (records : s.ev.records = before ++ r :: after)
    (seq : r.seq = e) (first : ∀ x ∈ before, x.seq ≠ e) : recordOf e s = some r := by
  rw [recordOf, records, List.find?_append, List.find?_eq_none.2 (by simpa using first), List.find?_cons_of_pos (by simpa using seq)]
  rfl

/-- The payload of a quake notice whose record is found. -/
theorem buildPayload_quake {sl : Slot} {e : Nat} {r : Record} (about : sl.event = some e) (found : recordOf e s = some r)
    (kind : sl.kind = .quakeDeclared ∨ sl.kind = .quakeUpdate ∨ sl.kind = .quakeSummary) :
    buildPayload sl s = quakePayload sl.kind r := by
  have bound : (sl.event.bind fun e => recordOf e s) = some r := by rw [about]; exact found
  unfold buildPayload
  rw [bound]
  rcases kind with kind | kind | kind <;> rw [kind]

/-! ### Escalation (R151) -/

/-- A slot that holds the event's QUAKE_DECLARED notice. -/
def Declares (event n : Nat) (s : State) : Prop :=
  (slotAt n s).kind = .quakeDeclared ∧ (slotAt n s).event = some event ∧ (slotAt n s).state ≠ .empty

theorem declaredSlot_none {event : Nat} (absent : ∀ n, n < 12 → ¬Declares event n s) : declaredSlot event s = none := by
  simp only [declaredSlot, slotNumbers, List.find?_eq_none, List.mem_range, Bool.and_eq_true, beq_iff_eq, bne_iff_ne,
    and_assoc]
  exact absent

theorem declaredSlot_first {event n : Nat} (inside : n < 12) (names : Declares event n s)
    (first : ∀ m, m < n → ¬Declares event m s) : declaredSlot event s = some n := by
  simp only [declaredSlot, slotNumbers, List.find?_range_eq_some, List.mem_range, Bool.and_eq_true, beq_iff_eq,
    bne_iff_ne, Bool.not_eq_true', ← Bool.not_eq_true, and_assoc]
  exact ⟨names.1, names.2.1, names.2.2, inside, first⟩

/-- Without its QUAKE_DECLARED notice an event asks for a QUAKE_UPDATE at ALARM. -/
theorem escalate_unnamed {event : Nat} (absent : declaredSlot event s = none) :
    escalate event s = quakeNotice .quakeUpdate .alarm event s := by simp only [escalate, absent]

/-- So it does where the notice neither waits nor backs off. -/
theorem escalate_gone {event n : Nat} (found : declaredSlot event s = some n) (waits : (slotAt n s).state ≠ .waiting)
    (backs : (slotAt n s).state ≠ .backoff) : escalate event s = quakeNotice .quakeUpdate .alarm event s := by
  simp only [escalate, found]
  cases state : (slotAt n s).state <;> first | rfl | exact absurd state waits | exact absurd state backs

/-- A notice that waits or backs off is raised to ALARM and waits, to be rebuilt. -/
theorem escalate_raises {event n : Nat} (found : declaredSlot event s = some n)
    (ready : (slotAt n s).state = .waiting ∨ (slotAt n s).state = .backoff) :
    escalate event s = waitAgain n (onSlot n (fun sl => { sl with cls := .alarm, rebuild := true, backoff := 0 }) s) := by
  simp only [escalate, found]
  rcases ready with state | state <;> rw [state]

/-- The slot raised to ALARM waits, with the early probe in SILENT (R125, R138). -/
theorem waitAgain_raised {n : Nat} (inside : n < s.nt.slots.length) :
    waitAgain n (onSlot n (fun sl => { sl with cls := .alarm, rebuild := true, backoff := 0 }) s) =
      let raised := onSlot n (fun sl => { sl with
        cls := .alarm, rebuild := true, backoff := 0, state := .waiting, view := .notWaiting }) s
      if s.link.health = .silent ∧ s.link.earlyUsed = false then earlyProbe raised else raised := by
  have alarm : (slotAt n (onSlot n (fun sl => { sl with cls := .alarm, rebuild := true, backoff := 0 }) s)).cls = .alarm :=
    congrArg Slot.cls (slotAt_onSlot inside _)
  simp only [waitAgain_eq, alarm, onSlot_onSlot, true_and]
  rfl

/-- Settles O42: each payload by its kind, and the escalation by the slot of the QUAKE_DECLARED notice. -/
theorem payloadsAreBuiltAndEscalated : Obligations.PayloadsAreBuiltAndEscalated := by
  refine ⟨fun sl s => ?payload, fun event s => ?escalates⟩
  case payload =>
    intro level quake
    have shown : levelCode s.pw.level = level := levelCode_cases s.pw.level
    refine ⟨fun e before r after about records seq first => ?_, fun kind => ?_, fun kind => ?_, fun kind => ?_,
      fun bytes kind given => ?_⟩
    · have found := recordOf_first records seq first
      refine ⟨fun kind => ?_, fun kind => ?_, fun kind => ?_⟩ <;>
        rw [buildPayload_quake about found (by simp [kind]), kind, quakePayload, optTimeBytes_eq] <;> rfl
    · simp only [buildPayload, kind, shown, PowerReason.code_eq] <;> rfl
    · simp only [buildPayload, kind]
    · simp only [buildPayload, kind, shown, LinkState.code_eq, lastConsumed] <;> rfl
    · simp only [buildPayload, kind, given, Option.getD_some]
  case escalates =>
    intro names asked
    refine ⟨fun absent => ?_, fun n named first => ?_⟩
    · exact escalate_unnamed (declaredSlot_none fun n inside declares => absent n ⟨inside, declares⟩)
    · obtain ⟨inside, declares⟩ := named
      have found : declaredSlot event s = some n :=
        declaredSlot_first inside declares fun m below other => first m below ⟨Nat.lt_trans below inside, other⟩
      refine ⟨fun waits backs => escalate_gone found waits backs, fun ready => ?_⟩
      exact (escalate_raises found ready).trans (waitAgain_raised (slot_inside declares.2.2))

end Sys2Proof.Machine
end

section
/-! What a transmit opportunity sends (R116, R117, R118, R137, R140, R144). -/

namespace Sys2Proof.Machine

variable {s : State}

/-! ### Frames and key-up (R117, R118) -/

theorem airFrame_eq (address kind index count tag : Nat) (payload : List Byte) :
    airFrame address kind index count tag payload = outboundFrame address kind index count tag payload := rfl

theorem lineRate_eq (code : Nat) : lineRate code = bitRateOf code := by
  unfold lineRate bitRateOf
  split <;> rfl

theorem keyUp_eq (o : AirOrigin) (frame : List Byte) (s : State) : keyUp o frame s = keyed o frame s := by
  simp only [keyUp, lineRate_eq]
  rfl

/-! ### The selected segment (R140, R144) -/

theorem selectNotice_inside {n : Nat} {pushed : Option Nat} (selected : selectNotice s = some (n, pushed)) :
    (slotAt n s).state = .waiting ∧ ∀ o, pushed = some o → o ≠ n := by
  cases opened : openNotice s with
  | none =>
    obtain ⟨rfl, may, -⟩ := selectNotice_closed_some (openNotice_eq_none.1 opened) selected
    exact ⟨may.2.1, by simp⟩
  | some o =>
    classical
    have stays (goes : (if GoesOn o s then some (o, (none : Option Nat)) else none) = some (n, pushed)) :
        (slotAt n s).state = .waiting ∧ ∀ o, pushed = some o → o ≠ n := by
      split at goes
      next going =>
        obtain ⟨rfl, rfl⟩ := Prod.mk.inj (Option.some_inj.1 goes)
        exact ⟨going.1, by simp⟩
      next => simp at goes
    rw [selectNotice_open opened] at selected
    split at selected
    next k found =>
      have higher := mem_higherSlots.1 ((firstBest_eq_some (higherSlots_sorted o s)).1 found).1
      split at selected
      next =>
        obtain ⟨rfl, rfl⟩ := Prod.mk.inj (Option.some_inj.1 selected)
        refine ⟨higher.1.2.1, fun p same => ?_⟩
        obtain rfl := Option.some_inj.1 same
        rintro rfl
        exact Nat.lt_irrefl _ higher.2
      next => exact stays selected
    next => exact stays selected

theorem slotAt_onSlot_ne {n m : Nat} (other : m ≠ n) (f : Slot → Slot) (s : State) :
    slotAt n (onSlot m f s) = slotAt n s := by
  simp [slotAt, onSlot, List.getD_eq_getElem?_getD, other]

/-- The selected slot as it goes, given the payload that is built now and the next tag (R137, R140). -/
def Slot.sent (built : List Byte) (fresh : Nat) (sl : Slot) : Slot :=
  let build := sl.payload = none ∨ sl.rebuild = true
  let payload := if build then built else sl.payload.getD []
  let afresh := sl.rebuild = true ∧ 0 < sl.nextSegment
  { sl with
    state := .sending, payload := some payload, rebuild := false
    segments := if build ∨ sl.segments = 0 then max 1 ((payload.length + 31) / 32) else sl.segments
    tag := if afresh then fresh else sl.tag
    nextSegment := if afresh then 0 else sl.nextSegment
    attempts := if afresh then 0 else sl.attempts }

/-- The slot as it goes, field by field. -/
theorem onSlot_sent (built : List Byte) (fresh n : Nat) (s : State) :
    let sl := (slotAt n s).sent built fresh
    onSlot n (Slot.sent built fresh) s = onSlot n (fun x => { x with
      state := .sending, payload := sl.payload, segments := sl.segments, rebuild := false, tag := sl.tag
      nextSegment := sl.nextSegment, attempts := sl.attempts }) s := onSlot_congr rfl

/-- A slot that is rebuilt while it is open begins again under a fresh tag (R140). -/
theorem startSlot_eq (n : Nat) (s : State) : startSlot n s =
    let sl := slotAt n s
    let fresh := (s.nt.tagCounter + 1) % 256
    onSlot n (Slot.sent (buildPayload sl s) fresh) (s.onNt fun nt => { nt with
      tagCounter := if sl.rebuild = true ∧ 0 < sl.nextSegment then fresh else nt.tagCounter }) := by
  have counted : (if (slotAt n s).rebuild = true ∧ 0 < (slotAt n s).nextSegment then
      s.onNt fun nt => { nt with tagCounter := rollInc 256 s.nt.tagCounter } else s) = s.onNt fun nt => { nt with
        tagCounter := if (slotAt n s).rebuild = true ∧ 0 < (slotAt n s).nextSegment then (s.nt.tagCounter + 1) % 256
          else nt.tagCounter } := by
    split <;> rfl
  simp only [startSlot, Bool.or_eq_true, Bool.and_eq_true, decide_eq_true_iff, Option.isNone_iff_eq_none]
  rw [counted]
  exact onSlot_congr rfl

/-- The state before the selected slot starts: the open notice is pushed where it is to be (R144). -/
def pushedFor (n : Nat) (pushed : Option Nat) (s : State) : State :=
  match pushed with
  | none => s
  | some o => pushNotice o n s

theorem pushedFor_slot {n : Nat} {pushed : Option Nat} (other : ∀ o, pushed = some o → o ≠ n) (s : State) :
    slotAt n (pushedFor n pushed s) = slotAt n s := by
  cases pushed with
  | none => rfl
  | some o => exact slotAt_onSlot_ne (other o rfl) ..

theorem pushedFor_length (n : Nat) (pushed : Option Nat) (s : State) :
    (pushedFor n pushed s).nt.slots.length = s.nt.slots.length := by
  cases pushed with
  | none => rfl
  | some o => exact List.length_modify ..

theorem pushedFor_rest (n : Nat) (pushed : Option Nat) (s : State) : ∃ slots stack,
    pushedFor n pushed s = { s with nt := { s.nt with slots := slots, stack := stack } } := by
  cases pushed with
  | none => exact ⟨s.nt.slots, s.nt.stack, rfl⟩
  | some o => exact ⟨_, _, rfl⟩

/-- The selected slot starts beside the pushed notice as it would without. -/
theorem startSlot_pushedFor {n : Nat} {pushed : Option Nat} (other : ∀ o, pushed = some o → o ≠ n) (s : State) :
    startSlot n (pushedFor n pushed s) =
      let sl := slotAt n s
      let fresh := (s.nt.tagCounter + 1) % 256
      onSlot n (Slot.sent (buildPayload sl s) fresh) ((pushedFor n pushed s).onNt fun nt => { nt with
        tagCounter := if sl.rebuild = true ∧ 0 < sl.nextSegment then fresh else s.nt.tagCounter }) := by
  obtain ⟨slots, stack, rest⟩ := pushedFor_rest n pushed s
  have counter : (pushedFor n pushed s).nt.tagCounter = s.nt.tagCounter := by rw [rest]
  have built (sl : Slot) : buildPayload sl (pushedFor n pushed s) = buildPayload sl s := by rw [rest]; rfl
  simp only [startSlot_eq, State.onNt, counter, built, pushedFor_slot other]

/-- The segment that goes: the slot starts, and the frame carries its next segment. -/
theorem sendSegment_eq {n : Nat} {pushed : Option Nat} (inside : n < s.nt.slots.length)
    (other : ∀ o, pushed = some o → o ≠ n) : sendSegment n pushed s =
      let sl := (slotAt n s).sent (buildPayload (slotAt n s) s) ((s.nt.tagCounter + 1) % 256)
      keyed (.segment n)
        (outboundFrame s.link.cfg.address 0x01 sl.nextSegment sl.segments sl.tag
          (((sl.payload.getD []).drop (32 * sl.nextSegment)).take 32))
        (startSlot n (pushedFor n pushed s)) := by
  have started : slotAt n (startSlot n (pushedFor n pushed s)) =
      (slotAt n s).sent (buildPayload (slotAt n s) s) ((s.nt.tagCounter + 1) % 256) := by
    rw [startSlot_pushedFor other, slotAt_onSlot (by rwa [State.onNt_nt, pushedFor_length])]
    exact congrArg _ (pushedFor_slot other s)
  have link : (startSlot n (pushedFor n pushed s)).link = s.link := by
    obtain ⟨slots, stack, rest⟩ := pushedFor_rest n pushed s
    rw [startSlot_pushedFor other, rest]
    rfl
  have sends : sendSegment n pushed s =
    let x := startSlot n (pushedFor n pushed s)
    keyUp (.segment n) (airFrame x.link.cfg.address 0x01 (slotAt n x).nextSegment (slotAt n x).segments (slotAt n x).tag
      (segmentBytes ((slotAt n x).payload.getD []) (slotAt n x).nextSegment)) x := rfl
  rw [sends]
  simp only [keyUp_eq, airFrame_eq, link, started]
  rfl

/-! ### The opportunity (R116) -/

theorem exec_transmitOpportunity (released : s.pace.held = false) (up : s.link.state ≠ .off)
    (on : s.pw.loads.radio.on = true) (warm : s.link.warm = true) (idle : s.link.tx = .idle)
    (closed : s.link.window = none) (quiet : s.link.reception = none) :
    exec .transmitOpportunity s = .next (settle (takeOpportunity s)) := by
  show execTransmitOpportunity s = _
  rw [execTransmitOpportunity, takeEvent_due released (by simp [opportunity, up, on, warm, idle, closed, quiet])]

theorem sendProbe_eq (s : State) : sendProbe s =
    let tag := (s.link.probeTag + 1) % 256
    keyed .probe (outboundFrame s.link.cfg.address 0x02 0 1 tag []) (s.onLink fun l => { l with probeTag := tag }) := by
  rw [sendProbe, keyUp_eq, airFrame_eq]
  rfl

theorem takeOpportunity_silent (silent : s.link.state = .silent) :
    takeOpportunity s = if s.link.probeDue then sendProbe s else s := if_pos silent

theorem takeOpportunity_reply {r : QueuedReply} {rest : List QueuedReply} (heard : s.link.state ≠ .silent)
    (replies : s.link.replies = r :: rest) : takeOpportunity s =
      keyed (.reply r) (outboundFrame s.link.cfg.address 0x03 0 1 r.tag (be 1 r.code ++ be 1 r.result)) s := by
  simp only [takeOpportunity, if_neg heard, replies, sendReply, keyUp_eq, airFrame_eq]

theorem takeOpportunity_selects (heard : s.link.state ≠ .silent) (replies : s.link.replies = []) : takeOpportunity s =
    match selectNotice s with
    | none => s
    | some (n, pushed) => sendSegment n pushed s := by
  simp only [takeOpportunity, if_neg heard, replies] <;> rfl

/-- Settles O32: the work of an opportunity in the order of R116, then the selection without an open notice. -/
theorem opportunitiesSendTheBestNotice : Obligations.OpportunitiesSendTheBestNotice := by
  refine ⟨fun s released up on warm idle closed quiet => ?_,
    fun s closed => ⟨selectNotice_closed_none closed, fun n pushed => selectNotice_closed_some closed⟩⟩
  intro address
  rw [exec_transmitOpportunity released up on warm idle closed quiet]
  refine ⟨fun silent notDue => ?_, fun silent due => ?_, fun r rest heard replies => ?_,
    fun heard replies nothing => ?_, fun n pushed heard replies selected => ?_⟩
  · rw [takeOpportunity_silent silent, notDue]; rfl
  · rw [takeOpportunity_silent silent, due, if_pos rfl, sendProbe_eq]
  · rw [takeOpportunity_reply heard replies]
  · rw [takeOpportunity_selects heard replies, nothing]
  · obtain ⟨waits, other⟩ := selectNotice_inside selected
    have inside : n < s.nt.slots.length := slot_inside (by rw [waits]; decide)
    intro base sl build payload count afresh tag segment
    have pushes : pushedFor n pushed s = base := by cases pushed <;> rfl
    have same (counter : Nat) : slotAt n (base.onNt fun nt => { nt with tagCounter := counter }) = slotAt n s :=
      pushes ▸ pushedFor_slot other s
    have counts : (if afresh then tag else s.nt.tagCounter) =
        if afresh then (s.nt.tagCounter + 1) % 256 else s.nt.tagCounter := by
      by_cases begins : afresh
      · simp only [tag, if_pos begins]
      · simp only [if_neg begins]
    have starts : startSlot n base = { base with nt := { base.nt with
        tagCounter := if afresh then tag else s.nt.tagCounter
        slots := base.nt.slots.modify n fun x => { x with
          state := .sending, payload := some payload, segments := count, rebuild := false, tag := tag
          nextSegment := segment, attempts := if afresh then 0 else sl.attempts } } } := by
      rw [← pushes, startSlot_pushedFor other, pushes]
      refine (onSlot_sent ..).trans ?_
      rw [same, counts]
      rfl
    rw [takeOpportunity_selects heard replies, selected]
    refine congrArg (fun x => Host.Outcome.next (settle x)) ?_
    refine (sendSegment_eq inside other).trans ?_
    rw [pushes, starts]
    rfl

end Sys2Proof.Machine
end

section
/-! The health of the link and its state (R123 to R126): the counts of trouble, what the health becomes, and what each port is
told of a change. -/

namespace Sys2Proof.Machine

variable {s t : State}

/-! ### The link state as it is shown (R124, R126) -/

theorem linkStateFor_eq (level : Option Level) (health : LinkState) : linkStateFor level health = match level with
    | none => .off | some .dormant => .off
    | some .full => health | some .reduced => health | some .survival => health | some .critical => health := by
  rcases level with _ | _ | _ | _ | _ | _ <;> rfl

theorem LinkState.severity_eq (l : LinkState) : l.severity =
    match l with | .clear => 0 | .strained => 1 | .silent => 2 | .off => 3 := by cases l <;> rfl

/-- The link state has become `new` and the ports have been told of a change (R126). -/
structure Shown (new : LinkState) (s t : State) : Prop where
  state : t.link.state = new
  worst : ∀ p, t.link.worst.get p =
    if new = s.link.state ∨ new.severity ≤ (s.link.worst.get p).severity then s.link.worst.get p else new
  ports : t.ports = if new = s.link.state then s.ports else s.ports.map fun r => { r with notices := r.notices ||| 0x80 }

theorem setLinkState_shown (new : LinkState) (s : State) : Shown new s (setLinkState new s) := by
  unfold setLinkState
  by_cases same : s.link.state = new
  · rw [if_pos same]
    exact ⟨same, fun p => (if_pos (.inl same.symm)).symm, (if_pos same.symm).symm⟩
  · rw [if_neg same]
    refine ⟨rfl, fun p => ?_, (if_neg (Ne.symm same)).symm⟩
    have each : ((notifyAll .linkState (s.onLink fun l =>
        { l with state := new, worst := l.worst.map fun w => w.worse new })).link.worst.get p) =
          (s.link.worst.get p).worse new := by cases p <;> rfl
    have other : ¬new = s.link.state := Ne.symm same
    rw [each, LinkState.worse]
    simp only [other, false_or]
    by_cases less : (s.link.worst.get p).severity < new.severity
    · rw [if_pos less, if_neg (Nat.not_le_of_lt less)]
    · rw [if_neg less, if_pos (Nat.le_of_not_lt less)]

theorem setLinkState_only (new : LinkState) (s : State) : setLinkState new s = { s with
    link := { s.link with state := new, worst := (setLinkState new s).link.worst }
    ports := (setLinkState new s).ports } := by
  obtain ⟨ports, worst, e⟩ := setLinkState_eq new s
  rw [e]

/-- What is shown is seen of the state's link, its worst states and its ports only. -/
theorem Shown.congr {new : LinkState} {x u : State} (shown : Shown new x u) (state : s.link.state = x.link.state)
    (worst : s.link.worst = x.link.worst) (ports : s.ports = x.ports) (state' : t.link.state = u.link.state)
    (worst' : t.link.worst = u.link.worst) (ports' : t.ports = u.ports) : Shown new s t :=
  ⟨by rw [state', shown.state], by rw [state, worst, worst']; exact shown.worst, by rw [state, ports, ports']; exact shown.ports⟩

/-- Nothing is shown where the link state is as it was. -/
theorem Shown.refl {new : LinkState} (same : s.link.state = new) : Shown new s s :=
  ⟨same, fun _ => (if_pos (.inl same.symm)).symm, (if_pos same.symm).symm⟩

theorem listenLevel_state (level : Option Level) (s : State) : (listenLevel level s).link.state = s.link.state ∧
    (listenLevel level s).link.worst = s.link.worst ∧ (listenLevel level s).ports = s.ports := by
  obtain ⟨ch7, e⟩ := listenLevel_eq level s
  rw [e]
  exact ⟨rfl, rfl, rfl⟩

theorem linkLevel_shown (s : State) : Shown (linkStateFor s.pw.level s.link.health) s (linkLevel s) :=
  have ⟨state, worst, ports⟩ := listenLevel_state s.pw.level (formLinkState s)
  (setLinkState_shown _ s).congr rfl rfl rfl state worst ports

/-! ### A change of health (R124, R125) -/

/-- The state in which a change of health forms the link state. -/
def healthSet (h : LinkState) (s : State) : State :=
  let x := s.onLink fun l => { l with health := h }
  if h = .silent then enterSilent x else x

theorem setHealth_eq (h : LinkState) (s : State) :
    setHealth h s = if s.link.health = h then s else formLinkState (healthSet h s) := rfl

/-- The link as a change of health leaves it, but for what is shown. -/
theorem healthSet_link (h : LinkState) (s : State) : (healthSet h s).link = if h = .silent then
    { s.link with
      health := h, restExpiry := some (s.pace.seconds + s.link.restPeriod), earlyUsed := false, probeDue := false
      probeAlarm := false, replies := [], repliesDropped := min 65535 (s.link.repliesDropped + s.link.replies.length) }
    else { s.link with health := h } := by
  unfold healthSet
  by_cases silent : h = .silent
  · simp only [if_pos silent]; rfl
  · simp only [if_neg silent]; rfl

theorem healthSet_rest (h : LinkState) (s : State) : healthSet h s = { s with link := (healthSet h s).link } := by
  unfold healthSet
  dsimp only
  split <;> rfl

/-- The link but for its state and the worst states. -/
def Link.unshown (l : Link) : Link := { l with state := .off, worst := ⟨.off, .off, .off⟩ }

theorem setLinkState_unshown (new : LinkState) (s : State) : (setLinkState new s).link.unshown = s.link.unshown := by
  obtain ⟨ports, worst, e⟩ := setLinkState_eq new s
  rw [e]
  rfl

/-- A change of health: the link but for what is shown. -/
theorem setHealth_unshown (h : LinkState) (s : State) : (setHealth h s).link.unshown =
    if s.link.health = h then s.link.unshown else (healthSet h s).link.unshown := by
  rw [setHealth_eq]
  split
  · rfl
  · exact setLinkState_unshown ..

theorem setHealth_health (h : LinkState) (s : State) : (setHealth h s).link.health = h := by
  have health := congrArg Link.health (setHealth_unshown h s)
  refine health.trans ?_
  split
  next same => exact same
  next => rw [healthSet_link]; split <;> rfl

/-- A change of health shows the link state that it calls for. -/
theorem setHealth_shown {h : LinkState} (formed : s.link.state = linkStateFor s.pw.level s.link.health) :
    Shown (linkStateFor s.pw.level h) s (setHealth h s) := by
  rw [setHealth_eq]
  split
  next same => exact .refl (by rw [formed, same])
  next =>
    have shown := setLinkState_shown (linkStateFor s.pw.level h) (healthSet h s)
    have pw : (healthSet h s).pw = s.pw := by rw [healthSet_rest]
    have ports : (healthSet h s).ports = s.ports := by rw [healthSet_rest]
    have link : (healthSet h s).link.state = s.link.state ∧ (healthSet h s).link.worst = s.link.worst ∧
        (healthSet h s).link.health = h := by rw [healthSet_link]; split <;> exact ⟨rfl, rfl, rfl⟩
    obtain ⟨state, worst, health⟩ := link
    rw [formLinkState, pw, health]
    exact shown.congr state.symm worst.symm ports.symm rfl rfl rfl

/-! ### The evaluation of the counts (R123, R124) -/

/-- The health that the counts call for; SILENT is left by a probe only. -/
def healthFor (health : LinkState) (sec rec' : Nat) : LinkState :=
  if health = .silent ∨ 192 ≤ sec then .silent else if 96 ≤ sec ∨ 96 ≤ rec' then .strained else .clear

theorem evaluateHealth_eq (s : State) :
    evaluateHealth s = setHealth (healthFor s.link.health s.link.sendErr s.link.recvErr) s := by
  unfold evaluateHealth healthFor
  by_cases silent : s.link.health = .silent
  · rw [if_pos silent, if_pos (.inl silent), setHealth, if_pos silent]
  · simp only [silent, if_false, false_or]
    split
    · rfl
    · split <;> rfl

/-- The counts of trouble that a change of health leaves. -/
theorem setHealth_counts (h : LinkState) (s : State) : (setHealth h s).link.sendErr = s.link.sendErr ∧
    (setHealth h s).link.recvErr = s.link.recvErr ∧ (setHealth h s).link.frameErrors = s.link.frameErrors := by
  have left : ∃ l : Link, (setHealth h s).link.unshown = l.unshown ∧ l.sendErr = s.link.sendErr ∧
      l.recvErr = s.link.recvErr ∧ l.frameErrors = s.link.frameErrors := by
    rw [setHealth_unshown]
    split
    next => exact ⟨s.link, rfl, rfl, rfl, rfl⟩
    next => refine ⟨_, rfl, ?_⟩; rw [healthSet_link]; split <;> exact ⟨rfl, rfl, rfl⟩
  obtain ⟨l, same, sec, rec', errors⟩ := left
  exact ⟨(congrArg Link.sendErr same).trans sec, (congrArg Link.recvErr same).trans rec',
    (congrArg Link.frameErrors same).trans errors⟩

/-- The counts moved in a link, with the health that they call for. -/
theorem evaluateHealth_counted {f : Link → Link} (health : (f s.link).health = s.link.health) :
    let t := evaluateHealth (s.onLink f)
    t.link.sendErr = (f s.link).sendErr ∧ t.link.recvErr = (f s.link).recvErr ∧
      t.link.frameErrors = (f s.link).frameErrors ∧
      t.link.health = healthFor s.link.health (f s.link).sendErr (f s.link).recvErr := by
  intro t
  have evaluated : t = setHealth (healthFor s.link.health (f s.link).sendErr (f s.link).recvErr) (s.onLink f) := by
    rw [← health]; exact evaluateHealth_eq _
  rw [evaluated]
  obtain ⟨sec, rec', errors⟩ :=
    setHealth_counts (healthFor s.link.health (f s.link).sendErr (f s.link).recvErr) (s.onLink f)
  exact ⟨sec, rec', errors, setHealth_health ..⟩

/-- A change of health beside another change of the link shows the state that it calls for. -/
theorem setHealth_onLink_shown {f : Link → Link} (formed : s.link.state = linkStateFor s.pw.level s.link.health)
    (shows : (f s.link).state = s.link.state ∧ (f s.link).worst = s.link.worst ∧ (f s.link).health = s.link.health)
    (h : LinkState) :
    Shown (linkStateFor s.pw.level (setHealth h (s.onLink f)).link.health) s (setHealth h (s.onLink f)) := by
  obtain ⟨state, worst, health⟩ := shows
  rw [setHealth_health]
  refine (setHealth_shown (s := s.onLink f) ?_).congr state.symm worst.symm rfl rfl rfl rfl
  rw [State.onLink_link, State.onLink_pw, state, health, formed]

theorem evaluateHealth_shown {f : Link → Link} (formed : s.link.state = linkStateFor s.pw.level s.link.health)
    (shows : (f s.link).state = s.link.state ∧ (f s.link).worst = s.link.worst ∧ (f s.link).health = s.link.health) :
    Shown (linkStateFor s.pw.level (evaluateHealth (s.onLink f)).link.health) s (evaluateHealth (s.onLink f)) := by
  rw [evaluateHealth_eq]
  exact setHealth_onLink_shown formed shows _

/-- A failed attempt that makes the link SILENT drops the replies, and a rest begins (R125). -/
theorem countSendFailure_silent (heard : s.link.health ≠ .silent) (high : 192 ≤ s.link.sendErr + 8) :
    let t := countSendFailure s
    t.link.replies = [] ∧ t.link.probeDue = false ∧ t.link.earlyUsed = false ∧
      t.link.restExpiry = some (s.pace.seconds + s.link.restPeriod) ∧
      t.link.repliesDropped = min 65535 (s.link.repliesDropped + s.link.replies.length) := by
  intro t
  generalize counted : (s.onLink fun l => { l with sendErr := min 255 (l.sendErr + 8) }) = x
  have silent : healthFor x.link.health x.link.sendErr x.link.recvErr = .silent := by
    subst counted
    exact if_pos (.inr (show 192 ≤ min 255 (s.link.sendErr + 8) by omega))
  have link : t.link.unshown = (healthSet .silent x).link.unshown := by
    have evaluated : t = setHealth .silent x := by
      rw [← silent, ← evaluateHealth_eq, ← counted]; rfl
    rw [evaluated, setHealth_unshown, if_neg (by rw [← counted]; exact heard)]
  rw [healthSet_link, if_pos rfl, ← counted] at link
  exact ⟨congrArg Link.replies link, congrArg Link.probeDue link, congrArg Link.earlyUsed link,
    congrArg Link.restExpiry link, congrArg Link.repliesDropped link⟩

/-- An acknowledged probe makes the link CLEAR (R125). -/
theorem probeAcked_link (s : State) : (probeAcked s).link.unshown = Link.unshown { s.link with
    sendErr := 0, recvErr := 0, restPeriod := s.link.cfg.rest, restExpiry := none, probeDue := false
    probeAlarm := false, earlyUsed := false, health := .clear } := by
  rw [probeAcked, setHealth_unshown]
  split
  next clear => rw [← clear]; rfl
  next => rw [healthSet_link, if_neg (by decide)]; rfl

/-- Settles O34: what is shown of a link state, and each count with the health that it calls for. -/
theorem linkHealthFollowsItsCounts : Obligations.LinkHealthFollowsItsCounts := by
  intro s stateOf rank shown
  have states : stateOf = linkStateFor s.pw.level := funext fun h => (linkStateFor_eq ..).symm
  have ranks : rank = LinkState.severity := funext fun l => l.severity_eq.symm
  have shows {new : LinkState} {t : State} (told : Shown new s t) : shown new t := by
    obtain ⟨state, worst, ports⟩ := told
    exact ⟨state, ranks ▸ worst, ports⟩
  rw [states]
  refine ⟨fun new => ⟨shows (setLinkState_shown new s), setLinkState_only new s⟩, rfl, shows (linkLevel_shown s),
    fun formed => ?told, ?bad, ?good, ?failed, ?sent, ?acked, rfl⟩
  case told =>
    intro t mem
    simp only [List.mem_cons, List.not_mem_nil, or_false] at mem
    rcases mem with rfl | rfl | rfl | rfl | rfl
    · exact shows (evaluateHealth_shown formed ⟨rfl, rfl, rfl⟩)
    · exact shows (evaluateHealth_shown formed ⟨rfl, rfl, rfl⟩)
    · exact shows (evaluateHealth_shown formed ⟨rfl, rfl, rfl⟩)
    · exact shows (evaluateHealth_shown formed ⟨rfl, rfl, rfl⟩)
    · exact shows (setHealth_onLink_shown formed ⟨rfl, rfl, rfl⟩ _)
  case bad =>
    obtain ⟨sec, rec', errors, health⟩ := evaluateHealth_counted (s := s) (f := fun l =>
      { l with recvErr := satInc 255 l.recvErr, frameErrors := rollInc 65536 l.frameErrors }) rfl
    have more : satInc 255 s.link.recvErr = min 255 (s.link.recvErr + 1) := satInc_eq ..
    exact ⟨rec'.trans more, sec, errors, health.trans (congrArg (healthFor _ _) more)⟩
  case good =>
    obtain ⟨sec, rec', errors, health⟩ :=
      evaluateHealth_counted (s := s) (f := fun l => { l with recvErr := l.recvErr - 1 }) rfl
    exact ⟨rec', sec, errors, health⟩
  case failed =>
    obtain ⟨sec, rec', -, health⟩ :=
      evaluateHealth_counted (s := s) (f := fun l => { l with sendErr := min 255 (l.sendErr + 8) }) rfl
    exact ⟨sec, rec', health, countSendFailure_silent⟩
  case sent =>
    obtain ⟨sec, rec', -, health⟩ :=
      evaluateHealth_counted (s := s) (f := fun l => { l with sendErr := l.sendErr - 1 }) rfl
    exact ⟨sec, rec', health⟩
  case acked =>
    have link := probeAcked_link s
    exact ⟨congrArg Link.sendErr link, congrArg Link.recvErr link, congrArg Link.health link,
      congrArg Link.restPeriod link, congrArg Link.restExpiry link, congrArg Link.probeDue link,
      congrArg Link.earlyUsed link⟩

end Sys2Proof.Machine
end

section
/-! LINK's request for RADIO with its ALARM mark (R115), the listen test (R127) and the energy holds (R138). -/

namespace Sys2Proof.Machine

variable {s : State}

/-! ### The request for RADIO (R115) -/

theorem radioWanted_iff (s : State) : radioWanted s = true ↔
    s.link.listenAsk = true ∨ s.link.replies ≠ [] ∨ s.link.probeDue = true ∨ selectNotice s ≠ none ∨
      s.link.tx ≠ .idle ∨ s.link.window ≠ none ∨ s.link.reception ≠ none := by
  simp only [radioWanted, startReport, Bool.or_eq_true, Bool.not_eq_true', List.isEmpty_eq_false_iff, Option.isSome_map,
    Option.isSome_iff_ne_none, bne_iff_ne, or_assoc]

/-- The attempt that a transmission carries; a REPLY is none (R115). -/
def carriedAttempt (o : AirOrigin) : Option AirOrigin :=
  match o with
  | .segment n => some (.segment n)
  | .probe => some .probe
  | .reply _ => none

theorem attemptInFlight_eq (s : State) : attemptInFlight s = match s.link.tx with
    | .idle => s.link.window.map fun w => w.origin
    | .keying _ o _ _ => carriedAttempt o
    | .onAir _ o _ _ => carriedAttempt o := by
  unfold attemptInFlight
  cases s.link.tx with
  | idle => rfl
  | keying _ o _ _ => cases o <;> rfl
  | onAir _ o _ _ => cases o <;> rfl

/-- The mark is that of the attempt in flight, and without one that of what would go. -/
theorem radioMark_iff (s : State) : radioMark s = true ↔
    (∃ n, attemptInFlight s = some (.segment n) ∧ (slotAt n s).cls = .alarm) ∨
    (attemptInFlight s = some .probe ∧ s.link.probeAlarm = true) ∨
    (attemptInFlight s = none ∧ ((∃ n pushed, selectNotice s = some (n, pushed) ∧ (slotAt n s).cls = .alarm) ∨
      (s.link.probeDue = true ∧ s.link.probeAlarm = true))) := by
  unfold radioMark
  match attemptInFlight s with
  | some (.segment n) => simp [originAlarm]
  | some .probe => simp [originAlarm]
  | some (.reply r) => simp [originAlarm]
  | none => simp [startReport]

theorem formRadioRequest_eq (s : State) : formRadioRequest s =
    (s.onLoad .radio fun x => { x with asks := { x.asks with
      link := if radioWanted s then .standing else .absent } }).onPw fun pw =>
        { pw with linkAlarm := radioWanted s && radioMark s } := rfl

/-! ### The listen test (R127) -/

/-- A point of the listen schedule: the end of a window, or the start of the warm-up before one. -/
def ListenEdge (interval length warmup point : Nat) : Prop :=
  ∃ k, point = k * interval + length ∨ point + warmup = k * interval

theorem mul_step {k m interval : Nat} (less : k < m) : k * interval + interval ≤ m * interval := by
  rw [← Nat.succ_mul]
  exact Nat.mul_le_mul_right interval less

section
variable {interval length warmup now : Nat}

/-- The window whose warm-up has begun last. -/
theorem window_bounds (fits : length + warmup < interval) :
    (now + warmup) / interval * interval ≤ now + warmup ∧ now + warmup < (now + warmup) / interval * interval + interval := by
  have positive : 0 < interval := by omega
  refine ⟨Nat.div_mul_le_self .., ?_⟩
  have := Nat.lt_div_mul_add (a := now + warmup) positive
  omega

/-- Some window is open exactly when that one is. -/
theorem inWindow_iff (fits : length + warmup < interval) : now < (now + warmup) / interval * interval + length ↔
    ∃ k, k * interval ≤ now + warmup ∧ now < k * interval + length := by
  obtain ⟨low, -⟩ := window_bounds (now := now) fits
  refine ⟨fun inside => ⟨_, low, inside⟩, fun ⟨k, begun, inside⟩ => ?_⟩
  have before : k ≤ (now + warmup) / interval := (Nat.le_div_iff_mul_le (by omega)).2 begun
  have := Nat.mul_le_mul_right interval before
  omega

/-- The next point is the end of the open window, or else the warm-up of the next one. -/
theorem nextEdge (fits : length + warmup < interval) {next : Nat}
    (is : next = if now < (now + warmup) / interval * interval + length then (now + warmup) / interval * interval + length
      else ((now + warmup) / interval + 1) * interval - warmup) :
    now < next ∧ ListenEdge interval length warmup next ∧
      ∀ point, now < point → ListenEdge interval length warmup point → next ≤ point := by
  obtain ⟨low, high⟩ := window_bounds (now := now) fits
  rw [Nat.succ_mul] at is
  generalize window : (now + warmup) / interval = k at low high is
  refine ⟨by split at is <;> omega, ?_, fun point later edge => ?_⟩
  · split at is
    next => exact ⟨k, .inl is⟩
    next => exact ⟨k + 1, .inr (by rw [Nat.succ_mul]; omega)⟩
  · obtain ⟨m, edge⟩ := edge
    rcases Nat.lt_trichotomy m k with below | rfl | above
    · have := mul_step (interval := interval) below
      rcases edge with edge | edge <;> split at is <;> omega
    · rcases edge with edge | edge <;> split at is <;> omega
    · have := mul_step (interval := interval) above
      rcases edge with edge | edge <;> split at is <;> omega

end

theorem firstMatch_one (t : Nat) : firstMatch 1 0 t = t := firstMatch_of_dvd (Nat.one_dvd t)

/-- Channel 7 armed for one later point. -/
theorem start_oneShot {point now : Time} (later : now < point) (c : Compare) : c.start .oneShot 1 0 point now =
    { c with mode := .oneShot, period := 1, phase := 0, next := point, waiting := none } := by
  rw [Compare.start, if_pos (by decide), if_pos later, firstMatch_one]

/-- Where the point of channel 7 lies, by the windows of the schedule. -/
theorem nextPoint_eq (c : LinkCfg) (now : Time) : c.nextPoint now =
    if now < (now + c.warmup * 1000000) / (c.listenInterval * 10000000) * (c.listenInterval * 10000000) +
        c.listenLength * 10000000 then
      (now + c.warmup * 1000000) / (c.listenInterval * 10000000) * (c.listenInterval * 10000000) + c.listenLength * 10000000
    else ((now + c.warmup * 1000000) / (c.listenInterval * 10000000) + 1) * (c.listenInterval * 10000000) -
      c.warmup * 1000000 := by
  have opens : c.listensAt now = true ↔ now < c.windowFinish now := decide_eq_true_iff
  simp only [LinkCfg.nextPoint, opens, LinkCfg.windowFinish, LinkCfg.windowIndex, LinkCfg.warmupTicks, perSecond]

theorem listenAsk_at (now : Time) : (s.onLink fun l => { l with listenAsk := l.cfg.listensAt now }) =
    { s with link := { s.link with listenAsk := s.link.cfg.listensAt now } } := rfl

theorem listenPoint_at (now : Time) : (s.onLink fun l => { l with listenAsk := l.cfg.listensAt now }).onCcu (fun c =>
    { c with ch7 := c.ch7.start .oneShot 1 0 (s.link.cfg.nextPoint now) now }) = { s with
      link := { s.link with listenAsk := s.link.cfg.listensAt now }
      ccu := { s.ccu with ch7 := s.ccu.ch7.start .oneShot 1 0 (s.link.cfg.nextPoint now) now } } := by
  rw [listenAsk_at]
  rfl

/-- The listen test arms channel 7 for the one later point. -/
theorem listenPoint_eq (later : s.tb.now < s.link.cfg.nextPoint s.tb.now) : listenPoint s = { s with
    link := { s.link with listenAsk := s.link.cfg.listensAt s.tb.now }
    ccu := { s.ccu with ch7 := { s.ccu.ch7 with
      mode := .oneShot, period := 1, phase := 0, next := s.link.cfg.nextPoint s.tb.now, waiting := none } } } := by
  rw [← start_oneShot later]
  exact listenPoint_at s.tb.now

/-! ### The energy holds (R138) -/

/-- The start of a slot that waits is refused by its energy floor. -/
def heldByFloor (s : State) (sl : Slot) : Bool := sl.state == .waiting && floorRefuses sl.cls s

/-- The refusal is new, so it counts as an energy hold. -/
def newlyHeld (s : State) (sl : Slot) : Bool := heldByFloor s sl && (sl.view == .notWaiting || sl.view == .allowed)

theorem viewNow_idle {n : Nat} (idle : (slotAt n s).state ≠ .waiting) : viewNow n s = (.notWaiting, false) := by
  simp [viewNow, idle]

theorem viewNow_held {n : Nat} (held : heldByFloor s (slotAt n s) = true) : viewNow n s =
    (if (slotAt n s).view = .otherwiseRefused then .otherwiseRefused else .floorHeld,
      (slotAt n s).view == .notWaiting || (slotAt n s).view == .allowed) := by
  obtain ⟨waits, refused⟩ : (slotAt n s).state = .waiting ∧ floorRefuses (slotAt n s).cls s = true := by
    simpa [heldByFloor] using held
  unfold viewNow
  simp only [waits, refused, bne_self_eq_false, Bool.false_eq_true, if_false, if_true]
  cases (slotAt n s).view <;> rfl

theorem viewNow_free {n : Nat} (waits : (slotAt n s).state = .waiting) (free : heldByFloor s (slotAt n s) = false) :
    viewNow n s = (if startAllowed n s then .allowed else .otherwiseRefused, false) := by
  have passes : floorRefuses (slotAt n s).cls s = false := by simpa [heldByFloor, waits] using free
  unfold viewNow
  simp only [waits, passes, bne_self_eq_false, Bool.false_eq_true, if_false]
  cases startAllowed n s <;> rfl

theorem viewNow_counts (n : Nat) (s : State) : (viewNow n s).2 = newlyHeld s (slotAt n s) := by
  unfold newlyHeld
  cases held : heldByFloor s (slotAt n s) with
  | true => rw [viewNow_held held, Bool.true_and]
  | false =>
    by_cases waits : (slotAt n s).state = .waiting
    · rw [viewNow_free waits held, Bool.false_and]
    · rw [viewNow_idle waits, Bool.false_and]

/-- How a slot's start stands is seen of that slot, the link and the power only. -/
theorem viewNow_congr {n : Nat} {x : State} (slot : slotAt n x = slotAt n s) (link : x.link = s.link) (pw : x.pw = s.pw) :
    viewNow n x = viewNow n s := by
  have floors (c : NoticeClass) : floorRefuses c x = floorRefuses c s := by
    unfold floorRefuses energyFloor
    rw [pw]
  have allowed : startAllowed n x = startAllowed n s := by
    unfold startAllowed permitted
    simp only [slot, link, pw, floors]
  unfold viewNow
  simp only [slot, floors, allowed]

/-- One slot looked at. -/
def lookAt (x : State) (n : Nat) : State :=
  (onSlot n (fun sl => { sl with view := (viewNow n x).1 }) x).onNt fun nt =>
    { nt with energyHolds := if (viewNow n x).2 then satInc 65535 nt.energyHolds else nt.energyHolds }

theorem countEnergyHolds_eq (s : State) : countEnergyHolds s = (List.range 12).foldl lookAt s := rfl

/-- The energy holds that the first `k` slots add. -/
def holdsAdded (k : Nat) (s : State) : Nat := ((s.nt.slots.take k).filter (newlyHeld s)).length

theorem holdsAdded_succ {k : Nat} (inside : k < s.nt.slots.length) :
    holdsAdded (k + 1) s = holdsAdded k s + if newlyHeld s (slotAt k s) then 1 else 0 := by
  have slot : s.nt.slots[k] = slotAt k s := (List.getD_eq_getElem _ _ inside).symm
  rw [holdsAdded, List.take_succ_eq_append_getElem inside, List.filter_append, List.length_append, slot]
  cases new : newlyHeld s (slotAt k s) <;> simp [new, holdsAdded]

/-- The first `k` slots have been looked at. -/
structure LookedAt (k : Nat) (s x : State) : Prop where
  rest : ∃ slots, x = { s with nt := { s.nt with
    slots := slots, energyHolds := min 65535 (s.nt.energyHolds + holdsAdded k s) } }
  length : x.nt.slots.length = s.nt.slots.length
  seen : ∀ n, n < k → slotAt n x = { slotAt n s with view := (viewNow n s).1 }
  left : ∀ n, k ≤ n → slotAt n x = slotAt n s

theorem LookedAt.next {k : Nat} {x : State} (inside : k < s.nt.slots.length) (looked : LookedAt k s x) :
    LookedAt (k + 1) s (lookAt x k) := by
  obtain ⟨⟨slots, rest⟩, length, seen, left⟩ := looked
  have view : viewNow k x = viewNow k s :=
    viewNow_congr (left k le_rfl) (by rw [rest]) (by rw [rest])
  have looks : lookAt x k = (onSlot k (fun sl => { sl with view := (viewNow k s).1 }) x).onNt fun nt =>
      { nt with energyHolds := if (viewNow k s).2 then satInc 65535 nt.energyHolds else nt.energyHolds } := by
    rw [← view]; rfl
  have slot (n : Nat) : slotAt n (lookAt x k) = slotAt n (onSlot k (fun sl => { sl with view := (viewNow k s).1 }) x) := by
    rw [looks]; rfl
  refine ⟨⟨slots.modify k fun sl => { sl with view := (viewNow k s).1 }, ?_⟩, (List.length_modify ..).trans length,
    fun n below => ?_, fun n above => ?_⟩
  · have holds : (if (viewNow k s).2 then satInc 65535 (min 65535 (s.nt.energyHolds + holdsAdded k s))
        else min 65535 (s.nt.energyHolds + holdsAdded k s)) = min 65535 (s.nt.energyHolds + holdsAdded (k + 1) s) := by
      rw [viewNow_counts, satInc_eq, holdsAdded_succ inside]
      split <;> omega
    rw [looks, ← holds, rest]
    rfl
  · rw [slot]
    rcases Nat.lt_succ_iff_lt_or_eq.1 below with earlier | rfl
    · rw [slotAt_onSlot_ne (by omega), seen n earlier]
    · rw [slotAt_onSlot (length ▸ inside), left n le_rfl]
  · rw [slot, slotAt_onSlot_ne (by omega), left n (by omega)]

theorem lookedAt (counted : s.nt.energyHolds ≤ 65535) {k : Nat} (inside : k ≤ s.nt.slots.length) :
    LookedAt k s ((List.range k).foldl lookAt s) := by
  induction k with
  | zero =>
    have nothing : min 65535 (s.nt.energyHolds + holdsAdded 0 s) = s.nt.energyHolds := Nat.min_eq_right counted
    exact ⟨⟨s.nt.slots, by rw [nothing]; rfl⟩, rfl, fun n below => absurd below (Nat.not_lt_zero n), fun n _ => rfl⟩
  | succ k ih =>
    rw [List.range_succ, List.foldl_append]
    exact (ih (Nat.le_of_succ_le inside)).next inside

/-- Settles O33: the request and its mark, the listen test by the arithmetic of its windows, and the energy holds slot by
slot. -/
theorem radioIsAskedForAndListenedTo : Obligations.RadioIsAskedForAndListenedTo := by
  refine ⟨fun s => ?request, fun s => ?listens, fun s size counted => ?holds⟩
  case request =>
    intro l wanted carried attempt mark
    have wants : radioWanted s = true ↔ wanted := radioWanted_iff s
    have attempts : attemptInFlight s = attempt := attemptInFlight_eq s
    have marks : radioMark s = true ↔ mark := by
      rw [radioMark_iff, attempts]
    refine ⟨radioWanted s && radioMark s, by rw [Bool.and_eq_true, wants, marks],
      if radioWanted s then .standing else .absent, fun yes => if_pos (wants.2 yes), fun no => if_neg (mt wants.1 no),
      formRadioRequest_eq s⟩
  case listens =>
    intro interval length warmup fits point
    obtain ⟨later, edge, least⟩ := nextEdge fits (nextPoint_eq s.link.cfg s.tb.now)
    refine ⟨s.link.cfg.listensAt s.tb.now, s.link.cfg.nextPoint s.tb.now, ?_, ?_, later, edge, least⟩
    · exact listenPoint_eq later
    · exact decide_eq_true_iff.trans (inWindow_iff fits)
  case holds =>
    intro floor refused newly t
    obtain ⟨⟨slots, rest⟩, length, seen, -⟩ := lookedAt counted (k := 12) (by omega)
    rw [← countEnergyHolds_eq] at rest length seen
    have floors (c : NoticeClass) : floor c = energyFloor c s := by cases c <;> rfl
    have refuses : refused = heldByFloor s := funext fun sl => congrArg (fun f => _ && decide (s.pw.soc < f)) (floors sl.cls)
    have new : newly = newlyHeld s := funext fun sl => congrArg (fun held : Slot → Bool => held sl && _) refuses
    have total : t.nt.slots.length = 12 := by rw [← size, ← length]
    refine ⟨?_, total, fun n below => ⟨(viewNow n s).1, seen n below, fun idle => ?_, fun held => ?_,
      fun waits free allowed => ?_, fun waits free barred => ?_⟩⟩
    · have added : holdsAdded 12 s = (s.nt.slots.filter newly).length := by
        rw [holdsAdded, List.take_of_length_le size.le, new]
      rw [← added, show t = countEnergyHolds s from rfl, rest]
    · rw [viewNow_idle idle]
    · rw [viewNow_held (refuses ▸ held)]
    · rw [viewNow_free waits (refuses ▸ free), if_pos ((startAllowed_iff n s).2 allowed)]
    · rw [viewNow_free waits (refuses ▸ free), if_neg (mt (startAllowed_iff n s).1 barred)]

end Sys2Proof.Machine
end

section
/-! The bytes of a reception (R117 to R119): what the bytes of a frame are heard as, and when a reception goes on, ends bad or
ends with a good frame. -/

namespace Sys2Proof.Machine

variable {s : State}

/-! ### Bytes read -/

/-- One byte of a field, 0 beyond the end. -/
theorem natAt_one (bs : List Byte) (k : Nat) : natAt bs k 1 = (bs.getD k 0).toNat := by
  unfold natAt fieldAt
  by_cases inside : k < bs.length
  · rw [List.drop_eq_getElem_cons inside, List.getD_eq_getElem _ _ inside]
    exact natOf_single _
  · rw [List.drop_eq_nil_of_le (Nat.le_of_not_lt inside), List.getD_eq_default _ _ (Nat.le_of_not_lt inside)]
    rfl

/-- Two bytes are those of the number that they spell. -/
theorem be_two_natOf {bs : List Byte} (two : bs.length = 2) : be 2 (natOf bs) = bs := by
  obtain ⟨high, low, rfl⟩ := List.length_eq_two.1 two
  have value : natOf [high, low] = high.toNat * 256 + low.toNat := by simp [natOf]
  rw [value]
  have top := high.isLt
  have bottom := low.isLt
  have upper : BitVec.ofNat 8 ((high.toNat * 256 + low.toNat) / 256) = high := by
    apply BitVec.eq_of_toNat_eq
    rw [BitVec.toNat_ofNat]
    omega
  have lower : BitVec.ofNat 8 (high.toNat * 256 + low.toNat) = low := by
    apply BitVec.eq_of_toNat_eq
    rw [BitVec.toNat_ofNat]
    omega
  simp only [be, Nat.pow_one, Nat.pow_zero, Nat.div_one, upper, lower]

/-! ### What bytes are heard as (R119) -/

/-- The bytes do not end the reception yet. -/
def StillFrame (bytes : List Byte) : Prop :=
  bytes.length < 2 ∨ (bytes.take 2 = [0x7E, 0xC3] ∧ (bytes.length < 8 ∨
    ((bytes.getD 7 0).toNat ≤ 32 ∧ bytes.length < 10 + (bytes.getD 7 0).toNat)))

theorem hear_more {bytes : List Byte} (still : StillFrame bytes) : hear bytes = .more := by
  unfold hear
  simp only [natAt_one bytes 7]
  rcases still with short | ⟨sync, short | ⟨small, short⟩⟩
  · rw [if_pos short]
  · rw [if_neg (not_not.2 sync), if_pos short, ite_self]
  · rw [if_neg (not_not.2 sync), if_neg (Nat.not_lt.2 small), if_pos short, ite_self, ite_self]

theorem hear_wrongSync {bytes : List Byte} (two : 2 ≤ bytes.length) (wrong : bytes.take 2 ≠ [0x7E, 0xC3]) :
    hear bytes = .bad := (if_neg (Nat.not_lt.2 two)).trans (if_pos wrong)

theorem hear_tooLong {bytes : List Byte} (eight : 8 ≤ bytes.length) (sync : bytes.take 2 = [0x7E, 0xC3])
    (long : 32 < (bytes.getD 7 0).toNat) : hear bytes = .bad := by
  rw [← natAt_one] at long
  exact (if_neg (by omega)).trans ((if_neg (not_not.2 sync)).trans ((if_neg (by omega)).trans (if_pos long)))

/-- All the bytes of a frame have come: the check decides. -/
theorem hear_whole {covered check : List Byte} {bytes : List Byte} (whole : bytes = [0x7E, 0xC3] ++ covered ++ check)
    (long : covered.length = 6 + (bytes.getD 7 0).toNat) (small : (bytes.getD 7 0).toNat ≤ 32) (two : check.length = 2) :
    hear bytes = if (checkOf covered).toNat = natOf check then
      .good { address := natAt bytes 2 2, group := decide (128 ≤ natAt bytes 5 1), index := natAt bytes 5 1 / 16 % 8,
              kind := natAt bytes 4 1, tag := natAt bytes 6 1, payload := fieldAt bytes 8 (bytes.getD 7 0).toNat }
      else .bad := by
  have size : bytes.length = 10 + (bytes.getD 7 0).toNat := by
    rw [whole, List.length_append, List.length_append, two, long, ← whole]
    simp only [List.length_cons, List.length_nil]
    omega
  have sync : bytes.take 2 = [0x7E, 0xC3] := by rw [whole]; rfl
  have middle : fieldAt bytes 2 (6 + (bytes.getD 7 0).toNat) = covered := by
    rw [← long, whole, List.append_assoc]
    exact (fieldAt_tail (bs := [0x7E, 0xC3]) le_rfl).trans (fieldAt_head rfl)
  have last : natAt bytes (8 + (bytes.getD 7 0).toNat) 2 = natOf check := by
    have before : ([0x7E, 0xC3] ++ covered).length = 8 + (bytes.getD 7 0).toNat := by
      rw [List.length_append, long]; simp only [List.length_cons, List.length_nil]; omega
    rw [← before, whole, natAt_beyond le_rfl, Nat.sub_self, natAt, fieldAt, List.drop_zero, List.take_of_length_le two.le]
  unfold hear
  simp only [natAt_one bytes 7, middle, last]
  rw [if_neg (by omega), if_neg (not_not.2 sync), if_neg (by omega), if_neg (by omega), if_neg (by omega)]

theorem hear_wrongCheck {covered check bytes : List Byte} (whole : bytes = [0x7E, 0xC3] ++ covered ++ check)
    (long : covered.length = 6 + (bytes.getD 7 0).toNat) (small : (bytes.getD 7 0).toNat ≤ 32) (two : check.length = 2)
    (wrong : check ≠ be 2 (checkOf covered).toNat) : hear bytes = .bad := by
  rw [hear_whole whole long small two, if_neg]
  intro same
  exact wrong (by rw [same, be_two_natOf two])

/-! ### The bytes of a frame (R117) -/

/-- The fields of a frame fit their bytes. -/
structure HeardFrame.Fits (f : HeardFrame) : Prop where
  address : f.address < 2 ^ 16
  index : f.index < 8
  kind : f.kind < 256
  tag : f.tag < 256
  payload : f.payload.length ≤ 32

/-- The flags byte of an inbound frame whose low bits are 0. -/
def HeardFrame.flags (f : HeardFrame) : Nat := (if f.group then 128 else 0) + f.index * 16

/-- The bytes that the check of a frame covers. -/
def HeardFrame.covered (f : HeardFrame) : List Byte :=
  be 2 f.address ++ be 1 f.kind ++ be 1 f.flags ++ be 1 f.tag ++ be 1 f.payload.length ++ f.payload

theorem inboundFrame_eq (f : HeardFrame) :
    inboundFrame f = [0x7E, 0xC3] ++ f.covered ++ be 2 (checkOf f.covered).toNat := rfl

/-- A field of a frame, by the bytes before it. -/
theorem natAt_field {bytes before rest : List Byte} {len v : Nat} (spells : bytes = before ++ (be len v ++ rest))
    (fits : v < 2 ^ (8 * len)) : natAt bytes before.length len = v := by
  rw [spells, natAt_beyond le_rfl, Nat.sub_self, natAt_be fits]

theorem inboundFrame_spelled (f : HeardFrame) : inboundFrame f = [0x7E, 0xC3] ++ (be 2 f.address ++ (be 1 f.kind ++
    (be 1 f.flags ++ (be 1 f.tag ++ (be 1 f.payload.length ++ (f.payload ++ be 2 (checkOf f.covered).toNat)))))) := by
  rw [inboundFrame_eq]
  nth_rw 1 [HeardFrame.covered]
  simp only [List.append_assoc]

theorem HeardFrame.Fits.flags {f : HeardFrame} (fits : f.Fits) : f.flags < 256 ∧ decide (128 ≤ f.flags) = f.group ∧
    f.flags / 16 % 8 = f.index := by
  have index := fits.index
  unfold HeardFrame.flags
  cases f.group
  · simp; omega
  · simp; omega

/-- A frame whose fields fit is heard as itself. -/
theorem hear_inboundFrame {f : HeardFrame} (fits : f.Fits) : hear (inboundFrame f) = .good f := by
  have spelled := inboundFrame_spelled f
  obtain ⟨flagsFit, group, index⟩ := fits.flags
  have small := fits.payload
  have address : natAt (inboundFrame f) 2 2 = f.address := natAt_field (before := [0x7E, 0xC3]) spelled fits.address
  have kind : natAt (inboundFrame f) 4 1 = f.kind :=
    natAt_field (before := [0x7E, 0xC3] ++ be 2 f.address) (by rw [spelled]; simp only [List.append_assoc]; rfl) fits.kind
  have flags : natAt (inboundFrame f) 5 1 = f.flags :=
    natAt_field (before := [0x7E, 0xC3] ++ be 2 f.address ++ be 1 f.kind)
      (by rw [spelled]; simp only [List.append_assoc]; rfl) flagsFit
  have tag : natAt (inboundFrame f) 6 1 = f.tag :=
    natAt_field (before := [0x7E, 0xC3] ++ be 2 f.address ++ be 1 f.kind ++ be 1 f.flags)
      (by rw [spelled]; simp only [List.append_assoc]; rfl) fits.tag
  have length : natAt (inboundFrame f) 7 1 = f.payload.length :=
    natAt_field (before := [0x7E, 0xC3] ++ be 2 f.address ++ be 1 f.kind ++ be 1 f.flags ++ be 1 f.tag)
      (by rw [spelled]; simp only [List.append_assoc]; rfl) (by omega)
  rw [natAt_one] at length
  have payload : fieldAt (inboundFrame f) 8 f.payload.length = f.payload := by
    have split : inboundFrame f = ([0x7E, 0xC3] ++ be 2 f.address ++ be 1 f.kind ++ be 1 f.flags ++ be 1 f.tag ++
        be 1 f.payload.length) ++ (f.payload ++ be 2 (checkOf f.covered).toNat) := by
      rw [spelled]; simp only [List.append_assoc]
    rw [split]
    exact (fieldAt_tail le_rfl).trans (fieldAt_head rfl)
  have long : f.covered.length = 6 + f.payload.length := by
    simp only [HeardFrame.covered, List.length_append, be_length]
  have check : (checkOf f.covered).toNat = natOf (be 2 (checkOf f.covered).toNat) :=
    (natOf_be_of_lt (checkOf f.covered).isLt).symm
  rw [hear_whole (inboundFrame_eq f) (by rw [length, long]) (by rw [length]; exact small) (be_length ..), if_pos check,
    address, kind, flags, tag, length, payload, group, index]

/-! ### The frames that are accepted (R120) -/

theorem acceptedFrame_iff (l : Link) (f : HeardFrame) : acceptedFrame l f = true ↔ ForStation l f := by
  unfold acceptedFrame ForStation
  split
  · exact Iff.rfl
  · exact beq_iff_eq

theorem wellFormedFrame_iff (f : HeardFrame) : wellFormedFrame f = true ↔
    (f.kind = 0x11 ∧ f.payload = []) ∨ (f.kind = 0x12 ∧ f.payload = []) ∨ (f.kind = 0x13 ∧ f.payload.length = 2) ∨
      (f.kind = 0x14 ∧ f.payload.length = 2) ∨ (f.kind = 0x15 ∧ f.payload ≠ []) := by
  unfold wellFormedFrame
  split
  next short => rcases short with kind | kind <;> simp [kind]
  next =>
    split
    next two => rcases two with kind | kind <;> simp [kind]
    next => simp_all

/-- An accepted frame fits its bytes, is for the station and has the form of its kind. -/
theorem Accepted.parts {l : Link} {f : HeardFrame} (accepted : Accepted l f) :
    f.Fits ∧ acceptedFrame l f = true ∧ wellFormedFrame f = true := by
  obtain ⟨address, index, tag, payload, station, form⟩ := accepted
  exact ⟨⟨address, index, by omega, tag, payload⟩, (acceptedFrame_iff l f).2 station, (wellFormedFrame_iff f).2 form⟩

/-! ### The rows of a reception -/

theorem goesOn_iff {r : Reception} (reception : s.link.reception = some r) (bytes : List Byte) :
    goesOn bytes s = true ↔ r.bytes <+: bytes := by
  simp only [goesOn, reception, List.isPrefixOf_iff_prefix]

theorem heardGood_more {bytes : List Byte} (more : hear bytes = .more) : heardGood bytes s = none := by
  simp only [heardGood, more, ite_self]

section
variable {r : Reception} {f : HeardFrame} {bytes : List Byte}

theorem heardGood_inboundFrame (reception : s.link.reception = some r) (begins : r.bytes <+: inboundFrame f)
    (fits : f.Fits) : heardGood (inboundFrame f) s = some f := by
  simp only [heardGood, (goesOn_iff reception _).2 begins, hear_inboundFrame fits, if_true]

theorem heardKind_inboundFrame (reception : s.link.reception = some r) (begins : r.bytes <+: inboundFrame f)
    (accepted : Accepted s.link f) : heardKind f.kind (inboundFrame f) s = some f := by
  obtain ⟨fits, station, form⟩ := accepted.parts
  rw [heardKind, heardGood_inboundFrame reception begins fits]
  exact if_pos ⟨rfl, station, form⟩

/-- A row that finds its frame acts on it. -/
theorem frameEvent_found {found : State → Option HeardFrame} {effect : HeardFrame → State → State}
    (released : s.pace.held = false) (finds : found s = some f) :
    frameEvent bytes found effect s = .next (settle (settleWindow (effect f (countGoodFrame (closeReception s))))) := by
  rw [frameEvent, takeEvent_due released (by simp [finds])]
  simp only [finds]
  rfl

theorem stillComing_of (reception : s.link.reception = some r) (begins : r.bytes <+: bytes)
    (longer : r.bytes.length < bytes.length) (more : hear bytes = .more) : stillComing bytes s = true := by
  simp [stillComing, (goesOn_iff reception _).2 begins, more, reception, longer]

theorem collectBytes_eq (reception : s.link.reception = some r) : collectBytes bytes s = s.onLink fun l =>
    { l with reception := some { r with bytes := bytes, lastByte := s.pace.cycles } } := by
  simp only [collectBytes, State.onLink, reception, Option.map_some]

/-- A row whose bytes do not end the reception yet collects them. -/
theorem frameEvent_collects {found : State → Option HeardFrame} {effect : HeardFrame → State → State}
    (released : s.pace.held = false) (nothing : found s = none) (coming : stillComing bytes s = true) :
    frameEvent bytes found effect s = .next (collectBytes bytes s) := by
  rw [frameEvent, takeEvent_due released (by simp [coming])]
  simp only [nothing]

end

end Sys2Proof.Machine
end

section
/-! Ack windows and receptions (R119 to R123, R128): what decides a window, what begins and ends a reception, and what the
frames do that are heard. -/

namespace Sys2Proof.Machine

variable {s : State}

/-! ### Windows -/

theorem decideWindow_eq (w : AckWindow) (acked : Bool) (s : State) : decideWindow w acked s = windowDecided w acked s := by
  unfold decideWindow windowDecided
  cases w.origin <;> rfl

theorem settleWindow_eq (s : State) : settleWindow s = match s.link.window with
    | none => s
    | some w => if w.undecided then windowDecided w false s else s := by
  unfold settleWindow
  cases s.link.window with
  | none => rfl
  | some w => simp only [decideWindow_eq]

theorem windowEnds_eq (w : AckWindow) (s : State) : windowEnds w s =
    if (s.link.reception.map fun r => r.inWindow) = some true then
      s.onLink fun l => { l with window := some { w with undecided := true } }
    else windowDecided w false s := by
  unfold windowEnds
  cases s.link.reception with
  | none => exact decideWindow_eq ..
  | some r => simp only [decideWindow_eq, Option.map_some, Option.some.injEq]

theorem exec_ackWindowEnd {w : AckWindow} (released : s.pace.held = false) (opened : s.link.window = some w)
    (undecided : w.undecided = false) (reached : w.finish ≤ s.tb.now) :
    exec .ackWindowEnd s = .next (settle (windowEnds w s)) := by
  have due : windowDueNow s = some w := by simp [windowDueNow, opened, undecided, reached]
  show execAckWindowEnd s = _
  rw [execAckWindowEnd, takeEvent_due released (by simp [due])]
  simp only [due]

/-! ### What a good frame leaves (R123) -/

/-- A change of health leaves the settings, the groups and the pace. -/
theorem setHealth_settings (h : LinkState) (s : State) : (setHealth h s).link.cfg = s.link.cfg ∧
    (setHealth h s).link.groups = s.link.groups ∧ (setHealth h s).pace = s.pace := by
  have left : ∃ l : Link, (setHealth h s).link.unshown = l.unshown ∧ l.cfg = s.link.cfg ∧ l.groups = s.link.groups := by
    rw [setHealth_unshown]
    split
    next => exact ⟨s.link, rfl, rfl, rfl⟩
    next => refine ⟨_, rfl, ?_⟩; rw [healthSet_link]; split <;> exact ⟨rfl, rfl⟩
  obtain ⟨l, same, cfg, groups⟩ := left
  refine ⟨(congrArg Link.cfg same).trans cfg, (congrArg Link.groups same).trans groups, ?_⟩
  rw [setHealth_eq]
  split
  next => rfl
  next =>
    rw [formLinkState, setLinkState_only, healthSet_rest]

/-- The count of a good frame leaves the settings, the groups and the pace. -/
theorem heard_settings (s : State) :
    let heard := countGoodFrame (closeReception s)
    heard.link.cfg = s.link.cfg ∧ heard.link.groups = s.link.groups ∧ heard.pace = s.pace := by
  intro heard
  have counted : heard = setHealth _ ((closeReception s).onLink fun l => { l with recvErr := l.recvErr - 1 }) :=
    evaluateHealth_eq _
  rw [counted]
  exact setHealth_settings ..

/-! ### ACK and NACK (R121, R122) -/

section
variable {f : HeardFrame} {r : Reception} {w : AckWindow}

/-- The answer decides the window. -/
def Answers (f : HeardFrame) (inWindow : Bool) (w : AckWindow) : Prop := inWindow = true ∧ w.tag = f.tag ∧ w.index = f.index

theorem answerFrame_decides {inWindow : Bool} (opened : s.link.window = some w) (answers : Answers f inWindow w)
    (acked : Bool) : answerFrame f inWindow acked s = windowDecided w acked s := by
  obtain ⟨inside, tag, index⟩ := answers
  simp [answerFrame, opened, inside, tag, index, decideWindow_eq]

theorem answerFrame_stale {inWindow : Bool} (differs : ∀ w, s.link.window = some w → ¬Answers f inWindow w) (acked : Bool) :
    answerFrame f inWindow acked s = s.onLink fun l => { l with stale := min 65535 (l.stale + 1) } := by
  unfold answerFrame
  simp only [satInc_eq]
  cases opened : s.link.window with
  | none => rfl
  | some w =>
    refine if_neg ?_
    have other := differs w opened
    simpa [Answers, and_assoc] using other

/-- An accepted ACK or NACK is an answer to the window, judged with its capture. -/
theorem exec_answer {acked : Bool} (released : s.pace.held = false) (reception : s.link.reception = some r)
    (begins : r.bytes <+: inboundFrame f) (accepted : Accepted s.link f)
    (kind : f.kind = if acked then 0x11 else 0x12) :
    exec ((if acked then Instr.ackReceived else .nackReceived) (inboundFrame f)) s = .next (settle (settleWindow
      (answerFrame f r.inWindow acked (countGoodFrame (closeReception s))))) := by
  have finds := heardKind_inboundFrame reception begins accepted
  have captured : capturedInWindow s = r.inWindow := by simp only [capturedInWindow, reception]
  cases acked with
  | true =>
    show execAckReceived _ s = _
    rw [if_pos rfl] at kind
    rw [execAckReceived, captured]
    exact frameEvent_found released (kind ▸ finds)
  | false =>
    show execNackReceived _ s = _
    rw [if_neg Bool.false_ne_true] at kind
    rw [execNackReceived, captured]
    exact frameEvent_found released (kind ▸ finds)

end

/-! ### The start and the end of a reception (R119) -/

theorem listening_iff (s : State) : listening s = true ↔ s.pw.loads.radio.on = true ∧ s.link.warm = true ∧ s.link.tx = .idle ∧
    (s.link.listenAsk = true ∨ s.link.window ≠ none) := by
  simp [listening, and_assoc, Option.isSome_iff_ne_none]

/-- The capture of channel 2 has been read at once (R18, R20). -/
def captureRead (s : State) : State :=
  s.onCcu fun c => { c with ch2 := { last := some s.tb.now, unread := false, overwrites := 0 } }

/-- A reception begins at this capture. -/
def receptionBegun (s x : State) : State := x.onLink fun l => { l with reception := some {
  capture := s.tb.now, lastByte := s.pace.cycles, bytes := []
  inWindow := match s.link.window with
    | none => false
    | some w => !w.undecided && decide (s.tb.now ≤ w.finish) } }

theorem startOfFrame_eq (s : State) : startOfFrame s = if listening s then
    receptionBegun s (if s.link.reception.isSome then badFrame (captureRead s) else captureRead s)
    else captureRead s := rfl

theorem exec_startOfFrameCapture (released : s.pace.held = false) :
    exec .startOfFrameCapture s = .next (settle (startOfFrame s)) := by
  show execStartOfFrameCapture s = _
  rw [execStartOfFrameCapture, takeEvent_due released rfl]

section
variable {r : Reception} {bytes : List Byte}

theorem exec_receptionTimeout (released : s.pace.held = false) (late : receptionLate s = true) :
    exec .receptionTimeout s = .next (settle (badFrame s)) := by
  show execReceptionTimeout s = _
  rw [execReceptionTimeout, takeEvent_due released late]

theorem exec_receptionTimeout_idle (early : receptionLate s = false) : exec .receptionTimeout s = .next s := by
  show execReceptionTimeout s = _
  rw [execReceptionTimeout, takeEvent_idle (.inr early)]

theorem exec_badFrame (released : s.pace.held = false) (reception : s.link.reception = some r)
    (begins : r.bytes <+: bytes) (bad : hear bytes = .bad) : exec (.badFrame bytes) s = .next (settle (badFrame s)) := by
  have ends : heardBad bytes s = true := by simp [heardBad, (goesOn_iff reception bytes).2 begins, bad]
  show execBadFrame bytes s = _
  rw [execBadFrame, takeEvent_due released (by simp [ends])]
  simp only [ends, if_true]

/-- The rows that the bytes of a reception can stand for. -/
def receptionRows : List (List Byte → Instr) :=
  [.badFrame, .frameNotAccepted, .ackReceived, .nackReceived, .pollReceived, .pauseReceived, .remoteStatus,
    .remoteCeiling, .remoteWake, .remoteQuiet, .remoteBadCommand]

theorem heardKind_more (more : hear bytes = .more) (kind : Nat) : heardKind kind bytes s = none := by
  simp only [heardKind, heardGood_more more]

theorem heardRemote_more (more : hear bytes = .more) (c : RemoteCase) : heardRemote c bytes s = none := by
  simp only [heardRemote, heardKind_more more]

theorem heardDropped_more (more : hear bytes = .more) : heardDropped bytes s = none := by
  simp only [heardDropped, heardGood_more more]

/-- Every such row collects bytes that do not end the reception. -/
theorem exec_collects (released : s.pace.held = false) (more : hear bytes = .more) (coming : stillComing bytes s = true) :
    ∀ row ∈ receptionRows, exec (row bytes) s = .next (collectBytes bytes s) := by
  have kinds (kind : Nat) (effect : HeardFrame → State → State) := frameEvent_collects (effect := effect) released
    (heardKind_more more kind) coming
  have remotes (c : RemoteCase) (effect : HeardFrame → State → State) := frameEvent_collects (effect := effect) released
    (heardRemote_more more c) coming
  have bad : exec (.badFrame bytes) s = .next (collectBytes bytes s) := by
    have notBad : heardBad bytes s = false := by simp [heardBad, more]
    show execBadFrame bytes s = _
    rw [execBadFrame, takeEvent_due released (by simp [coming])]
    simp [notBad]
  simp only [receptionRows, List.forall_mem_cons]
  exact ⟨bad, frameEvent_collects released (heardDropped_more more) coming, kinds .., kinds .., kinds .., kinds .., remotes ..,
    remotes .., remotes .., remotes .., remotes .., fun _ mem => absurd mem List.not_mem_nil⟩

end

/-! ### Frames dropped, POLL and PAUSE (R120, R128, R149) -/

section
variable {f : HeardFrame} {r : Reception}

/-- A frame that is not accepted, or not of good form, is dropped. -/
theorem exec_frameNotAccepted (released : s.pace.held = false) (reception : s.link.reception = some r)
    (begins : r.bytes <+: inboundFrame f) (fits : f.Fits)
    (dropped : ¬(acceptedFrame s.link f = true ∧ wellFormedFrame f = true)) :
    exec (.frameNotAccepted (inboundFrame f)) s =
      .next (settle (settleWindow (dropFrame f (countGoodFrame (closeReception s))))) := by
  have finds : heardDropped (inboundFrame f) s = some f := by
    simp only [heardDropped, heardGood_inboundFrame reception begins fits, Bool.and_eq_true, if_neg dropped]
  exact frameEvent_found released finds

/-- Acceptance is judged alike before and after the frame is counted. -/
theorem acceptedFrame_heard (f : HeardFrame) (s : State) :
    acceptedFrame (countGoodFrame (closeReception s)).link f = acceptedFrame s.link f := by
  obtain ⟨cfg, groups, -⟩ := heard_settings s
  rw [acceptedFrame, cfg, groups]
  rfl

theorem dropFrame_eq (f : HeardFrame) (s : State) : dropFrame f s = if acceptedFrame s.link f then
    s.onLink fun l => { l with malformed := min 65535 (l.malformed + 1) }
    else s.onLink fun l => { l with unaccepted := min 65535 (l.unaccepted + 1) } := by
  simp only [dropFrame, State.onLink, satInc_eq]
  split <;> rfl

theorem exec_pollReceived (released : s.pace.held = false) (reception : s.link.reception = some r)
    (begins : r.bytes <+: inboundFrame f) (accepted : Accepted s.link f) (kind : f.kind = 0x13) :
    exec (.pollReceived (inboundFrame f)) s =
      .next (settle (settleWindow (pollSlots (natOf f.payload) (countGoodFrame (closeReception s))))) :=
  frameEvent_found released (kind ▸ heardKind_inboundFrame reception begins accepted)

theorem exec_pauseReceived (released : s.pace.held = false) (reception : s.link.reception = some r)
    (begins : r.bytes <+: inboundFrame f) (accepted : Accepted s.link f) (kind : f.kind = 0x14) :
    exec (.pauseReceived (inboundFrame f)) s =
      .next (settle (settleWindow (setPause (natOf f.payload) (countGoodFrame (closeReception s))))) :=
  frameEvent_found released (kind ▸ heardKind_inboundFrame reception begins accepted)

/-- The ways in which a frame is not of good form. -/
theorem malformed_of {f : HeardFrame} (wrong : f.kind ∉ [0x11, 0x12, 0x13, 0x14, 0x15] ∨ (f.kind = 0x11 ∧ f.payload ≠ []) ∨
    (f.kind = 0x12 ∧ f.payload ≠ []) ∨ (f.kind = 0x13 ∧ f.payload.length ≠ 2) ∨
    (f.kind = 0x14 ∧ f.payload.length ≠ 2) ∨ (f.kind = 0x15 ∧ f.payload = [])) : ¬wellFormedFrame f = true := by
  rw [wellFormedFrame_iff]
  rcases wrong with other | ⟨kind, form⟩ | ⟨kind, form⟩ | ⟨kind, form⟩ | ⟨kind, form⟩ | ⟨kind, form⟩
  · simp only [List.mem_cons, List.not_mem_nil, or_false, not_or] at other
    simp [other]
  all_goals simp [kind, form]

end

/-- Settles O35: windows by their decision, receptions by what their bytes are heard as. -/
theorem receptionsAndAckWindows : Obligations.ReceptionsAndAckWindows := by
  refine ⟨⟨fun w s released opened undecided reached => ?_, settleWindow_eq, ?answers⟩,
    fun s released => ?starts, fun r s released reception => ⟨fun late => ?_, fun early => ?_, ?collects, ?bad, ?frames⟩⟩
  · rw [exec_ackWindowEnd released opened undecided reached, windowEnds_eq]
  case answers =>
    intro acked f r s released reception begins _ accepted kind c heard matches'
    have answered : exec (c (inboundFrame f)) s = .next (settle (settleWindow (answerFrame f r.inWindow acked heard))) :=
      exec_answer released reception begins accepted kind
    refine ⟨fun w opened answers => ?_, fun stale => ?_⟩
    · rw [answered, answerFrame_decides opened answers]
    · rw [answered, answerFrame_stale stale]
  case starts =>
    intro captured began
    have started := exec_startOfFrameCapture released
    rw [startOfFrame_eq] at started
    refine ⟨listening_iff s, fun deaf => ?_, fun listens free => ?_, fun listens busy => ?_⟩
    · rw [started, deaf]; rfl
    · rw [started, listens, free]; rfl
    · rw [started, listens, Option.isSome_iff_ne_none.2 busy]; rfl
  · exact exec_receptionTimeout released (by simp [receptionLate, reception, late])
  · exact exec_receptionTimeout_idle (by simp [receptionLate, reception, early])
  case collects =>
    intro bytes begins longer still row mem
    have more : hear bytes = .more := hear_more still
    rw [exec_collects released more (stillComing_of reception begins longer more) row mem, collectBytes_eq reception]
  case bad =>
    intro bytes begins bad
    refine exec_badFrame released reception begins ?_
    rcases bad with ⟨two, wrong⟩ | ⟨eight, sync, long⟩ | ⟨covered, check, whole, long, small, two, wrong⟩
    · exact hear_wrongSync two wrong
    · exact hear_tooLong eight sync long
    · exact hear_wrongCheck whole long small two wrong
  case frames =>
    intro f begins address index kind tag payload heard
    have fits : f.Fits := ⟨address, index, kind, tag, payload⟩
    have station := acceptedFrame_iff s.link f
    refine ⟨fun other => ?_, fun mine wrong => ?_, fun mine poll two => ?_, fun mine pause two => ?_⟩
    · have refused : ¬acceptedFrame s.link f = true := mt station.1 other
      rw [exec_frameNotAccepted released reception begins fits fun both => refused both.1, dropFrame_eq, acceptedFrame_heard,
        if_neg refused]
    · rw [exec_frameNotAccepted released reception begins fits fun both => malformed_of wrong both.2, dropFrame_eq,
        acceptedFrame_heard, if_pos (station.2 mine)]
    · exact exec_pollReceived released reception begins
        ⟨address, index, tag, payload, mine, .inr (.inr (.inl ⟨poll, two⟩))⟩ poll
    · have pace : heard.pace = s.pace := (heard_settings s).2.2
      rw [exec_pauseReceived released reception begins
        ⟨address, index, tag, payload, mine, .inr (.inr (.inr (.inl ⟨pause, two⟩)))⟩ pause, setPause, ← pace]

end Sys2Proof.Machine
end

section
/-! Remote commands (R128 to R130, R163): the case that a payload is, what each command does, and its REPLY. -/

namespace Sys2Proof.Machine

variable {s : State} {f : HeardFrame} {c : LinkCfg}

/-! ### The case of a payload (R129) -/

theorem remoteCase_one (c : LinkCfg) (args : List Byte) : remoteCase c (1 :: args) =
    if !c.enableStatus || args.isEmpty then .status else .bad := rfl

theorem remoteCase_two (c : LinkCfg) (args : List Byte) : remoteCase c (2 :: args) =
    if !c.enableCeiling || (args.length == 1 && decide (natAt args 0 1 ≤ 3)) then .ceiling else .bad := rfl

theorem remoteCase_three (c : LinkCfg) (args : List Byte) : remoteCase c (3 :: args) =
    if !c.enableWake || (args.length == 2 && (natAt args 0 1 == 2 || natAt args 0 1 == 3) && decide (0 < natAt args 1 1)) then
      .wake else .bad := rfl

theorem remoteCase_four (c : LinkCfg) (args : List Byte) : remoteCase c (4 :: args) =
    if !c.enableQuiet || args.length == 1 then .quiet else .bad := rfl

theorem remoteCase_other {code : Byte} (one : code ≠ 1) (two : code ≠ 2) (three : code ≠ 3) (four : code ≠ 4)
    (args : List Byte) : remoteCase c (code :: args) = .bad := by
  have named (k : Byte) (differs : code ≠ k) : code.toNat ≠ k.toNat := mt BitVec.eq_of_toNat_eq differs
  have byte : natAt (code :: args) 0 1 = code.toNat := natAt_one ..
  unfold remoteCase
  rw [byte]
  split
  next e => exact absurd e (named 1 one)
  next e => exact absurd e (named 2 two)
  next e => exact absurd e (named 3 three)
  next e => exact absurd e (named 4 four)
  next => rfl

/-- A ceiling command is bad where its level is none. -/
theorem remoteCase_badCeiling {args : List Byte} (on : c.enableCeiling = true) (bad : ∀ l : Byte, args = [l] → 3 < l.toNat) :
    remoteCase c (2 :: args) = .bad := by
  rw [remoteCase_two, on, if_neg]
  simp only [Bool.not_true, Bool.false_or, Bool.and_eq_true, beq_iff_eq, decide_eq_true_iff]
  rintro ⟨single, level⟩
  obtain ⟨l, rfl⟩ := List.length_eq_one_iff.1 single
  rw [natAt_last] at level
  exact absurd (bad l rfl) (Nat.not_lt.2 level)

/-- A wake command is bad where its load is not one to wake, or for no time. -/
theorem remoteCase_badWake {args : List Byte} (on : c.enableWake = true)
    (bad : ∀ l m : Byte, args = [l, m] → (l ≠ 2 ∧ l ≠ 3) ∨ m = 0) : remoteCase c (3 :: args) = .bad := by
  rw [remoteCase_three, on, if_neg]
  simp only [Bool.not_true, Bool.false_or, Bool.and_eq_true, Bool.or_eq_true, beq_iff_eq, decide_eq_true_iff, natAt_one]
  rintro ⟨⟨two, load⟩, minutes⟩
  obtain ⟨l, m, rfl⟩ := List.length_eq_two.1 two
  rcases bad l m rfl with ⟨not2, not3⟩ | rfl
  · rcases load with load | load
    · exact not2 (BitVec.eq_of_toNat_eq load)
    · exact not3 (BitVec.eq_of_toNat_eq load)
  · exact absurd minutes (lt_irrefl 0)

/-- The content is bad: no command's number, or arguments that do not fit an enabled command. -/
def BadContent (c : LinkCfg) (payload : List Byte) : Prop :=
  ∀ code args, payload = code :: args →
    (code = 1 → c.enableStatus = true ∧ args ≠ []) ∧
    (code = 2 → c.enableCeiling = true ∧ ∀ l : Byte, args = [l] → 3 < l.toNat) ∧
    (code = 3 → c.enableWake = true ∧ ∀ l m : Byte, args = [l, m] → (l ≠ 2 ∧ l ≠ 3) ∨ m = 0) ∧
    (code = 4 → c.enableQuiet = true ∧ args.length ≠ 1)

theorem remoteCase_bad {payload : List Byte} (content : payload ≠ []) (bad : BadContent c payload) :
    remoteCase c payload = .bad := by
  obtain ⟨code, args, rfl⟩ := List.exists_cons_of_ne_nil content
  obtain ⟨status, ceiling, wake, quiet⟩ := bad code args rfl
  by_cases one : code = 1
  · obtain ⟨on, more⟩ := status one
    rw [one, remoteCase_one]
    simp [on, more]
  by_cases two : code = 2
  · obtain ⟨on, level⟩ := ceiling two
    rw [two, remoteCase_badCeiling on level]
  by_cases three : code = 3
  · obtain ⟨on, load⟩ := wake three
    rw [three, remoteCase_badWake on load]
  by_cases four : code = 4
  · obtain ⟨on, length⟩ := quiet four
    rw [four, remoteCase_four]
    simp [on, length]
  exact remoteCase_other one two three four args

/-! ### The REPLY (R129, R130) -/

/-- The REPLY to a command heard at this second joins the queue of four, or is dropped and counted. -/
def commandAnswered (f : HeardFrame) (seconds result : Nat) (x : State) : State :=
  if f.group then x
  else if x.link.replies.length < 4 then x.onLink fun l =>
    { l with replies := l.replies ++ [{ tag := f.tag, code := (f.payload.getD 0 0).toNat, result := result,
                                        taken := seconds }] }
  else x.onLink fun l => { l with repliesDropped := min 65535 (l.repliesDropped + 1) }

theorem queueReply_eq {x : State} (pace : x.pace.seconds = s.pace.seconds) (f : HeardFrame) (result : Nat) :
    queueReply f result x = commandAnswered f s.pace.seconds result x := by
  unfold queueReply commandAnswered
  rw [pace, natAt_one]
  rfl

theorem disabledCommand_eq {x : State} (pace : x.pace.seconds = s.pace.seconds) (f : HeardFrame) :
    disabledCommand f x = commandAnswered f s.pace.seconds 1
      (x.onLink fun l => { l with disabled := min 65535 (l.disabled + 1) }) := by
  unfold disabledCommand
  simp only [satInc_eq]
  refine queueReply_eq ?_ f 1
  exact pace

/-- What leaves `fixed` alone leaves the accounting second alone. -/
theorem seconds_of_fixed {x y : State} (same : x.fixed = y.fixed) : x.pace.seconds = y.pace.seconds := by
  have seconds : x.fixed.pace.seconds = y.fixed.pace.seconds := by rw [same]
  exact seconds

theorem setCeilingTo_seconds (l : Level) (x : State) : (setCeilingTo l x).pace.seconds = x.pace.seconds := by
  rw [setCeilingTo_eq]
  split
  next => rfl
  next =>
    split
    · exact (seconds_of_fixed (changeLevel_fixed ..)).trans rfl
    · rfl

/-! ### The commands (R128, R129, R163) -/

section
variable {x : State}

theorem remoteStatusEffect_on (on : x.link.cfg.enableStatus = true) (pace : x.pace.seconds = s.pace.seconds) :
    let asked := requestNotice { kind := .status, cls := .routine, origin := .link, event := none, reason := .levelEntry } x
    remoteStatusEffect f x = commandAnswered f s.pace.seconds (if asked.2.isSome then 0 else 2) asked.1 := by
  intro asked
  have acts : remoteStatusEffect f x = queueReply f (if asked.2.isSome then 0 else 2) asked.1 := by
    unfold remoteStatusEffect
    rw [on]
    rfl
  rw [acts, queueReply_eq ((seconds_of_fixed (requestNotice_fixed ..)).trans pace)]

/-- The ceiling that a code up to 3 names. -/
theorem ofCeilingCode_eq {code : Byte} (small : code.toNat ≤ 3) : Level.ofCeilingCode code.toNat =
    some (if code = 0 then .full else if code = 1 then .reduced else if code = 2 then .survival else .critical) := by
  have named : code = 0 ∨ code = 1 ∨ code = 2 ∨ code = 3 := by bv_omega
  rcases named with rfl | rfl | rfl | rfl <;> rfl

theorem remoteCeilingEffect_on {code : Byte} (payload : f.payload = [2, code]) (on : x.link.cfg.enableCeiling = true)
    (small : code.toNat ≤ 3) (pace : x.pace.seconds = s.pace.seconds) :
    remoteCeilingEffect f x = commandAnswered f s.pace.seconds 0 (setCeilingTo
      (if code = 0 then .full else if code = 1 then .reduced else if code = 2 then .survival else .critical) x) := by
  have level : natAt f.payload 1 1 = code.toNat := by rw [payload, natAt_one]; rfl
  unfold remoteCeilingEffect
  rw [on, level, ofCeilingCode_eq small]
  exact queueReply_eq ((setCeilingTo_seconds ..).trans pace) f 0

theorem remoteWakeEffect_on {load minutes : Byte} (payload : f.payload = [3, load, minutes])
    (on : x.link.cfg.enableWake = true) (named : load = 2 ∨ load = 3) (pace : x.pace.seconds = s.pace.seconds) :
    remoteWakeEffect f x = commandAnswered f s.pace.seconds 0 (x.onLoad (if load = 2 then .recorder else .telemetry)
      fun l => { l with asks := { l.asks with remote := .until (s.pace.seconds + minutes.toNat * 60) } }) := by
  have code : natAt f.payload 1 1 = load.toNat := by rw [payload, natAt_one]; rfl
  have time : natAt f.payload 2 1 = minutes.toNat := by rw [payload, natAt_one]; rfl
  have woken : Load.ofCode load.toNat = some (if load = 2 then .recorder else .telemetry) := by
    rcases named with rfl | rfl <;> rfl
  unfold remoteWakeEffect
  rw [if_neg (by simp [on]), code, woken, time, askFor, pace]
  refine queueReply_eq ?_ f 0
  exact pace

theorem remoteQuietEffect_on {minutes : Byte} (payload : f.payload = [4, minutes]) (on : x.link.cfg.enableQuiet = true)
    (pace : x.pace.seconds = s.pace.seconds) :
    remoteQuietEffect f x = commandAnswered f s.pace.seconds 0 (x.onLink fun l =>
      { l with quiet := if minutes = 0 then none else some (s.pace.seconds + minutes.toNat * 60) }) := by
  have time : natAt f.payload 1 1 = minutes.toNat := by rw [payload, natAt_one]; rfl
  have zero : minutes.toNat = 0 ↔ minutes = 0 := by bv_omega
  unfold remoteQuietEffect
  rw [if_neg (by simp [on])]
  simp only [time, setQuiet, pace, zero]
  refine queueReply_eq ?_ f 0
  exact pace

end

/-- The row of a command's case acts on the command. -/
theorem frameEvent_remote {r : Reception} {which : RemoteCase} {effect : HeardFrame → State → State}
    (released : s.pace.held = false) (reception : s.link.reception = some r) (begins : r.bytes <+: inboundFrame f)
    (accepted : Accepted s.link f) (kind : f.kind = 0x15) (is : remoteCase s.link.cfg f.payload = which) :
    frameEvent (inboundFrame f) (heardRemote which (inboundFrame f)) effect s =
      .next (settle (settleWindow (effect f (countGoodFrame (closeReception s))))) := by
  have finds : heardRemote which (inboundFrame f) s = some f := by
    have heard := heardKind_inboundFrame reception begins accepted
    rw [kind] at heard
    rw [heardRemote, heard]
    exact if_pos is
  exact frameEvent_found released finds

/-- Settles O37: each command by the case of its payload and its effect. -/
theorem remoteCommandsActAndReply : Obligations.RemoteCommandsActAndReply := by
  intro f r s released reception begins accepted kind heard reply disabled ends c
  obtain ⟨cfg, -, pace⟩ : heard.link.cfg = c ∧ _ ∧ heard.pace = s.pace := heard_settings s
  have seconds : heard.pace.seconds = s.pace.seconds := congrArg Pace.seconds pace
  have acts {which : RemoteCase} {effect : HeardFrame → State → State} {x : State}
      (is : remoteCase c f.payload = which) (does : effect f heard = x) :
      frameEvent (inboundFrame f) (heardRemote which (inboundFrame f)) effect s = ends x := by
    rw [← does]
    exact frameEvent_remote released reception begins accepted kind is
  have off : disabledCommand f heard = disabled := disabledCommand_eq seconds f
  have content : f.payload ≠ [] := by
    obtain ⟨-, -, -, -, -, form⟩ := accepted
    rw [kind] at form
    simpa using form
  refine ⟨fun named barred => acts ?_ ?_, fun payload on => acts ?_ ?_, fun named barred => acts ?_ ?_,
    fun code payload on small => acts ?_ ?_, setCeilingTo_eq, fun named barred => acts ?_ ?_,
    fun load minutes payload on wakes lasts => acts ?_ ?_, fun named barred => acts ?_ ?_,
    fun minutes payload on => acts ?_ ?_, fun bad => acts (remoteCase_bad content bad) (queueReply_eq seconds f 2)⟩
  · obtain ⟨args, payload⟩ := List.head?_eq_some_iff.1 named
    rw [payload, remoteCase_one, barred]; rfl
  · rw [← off, remoteStatusEffect, cfg, barred]; rfl
  · rw [payload]
    exact if_pos (Bool.or_true _)
  · exact remoteStatusEffect_on (cfg ▸ on) seconds
  · obtain ⟨args, payload⟩ := List.head?_eq_some_iff.1 named
    rw [payload, remoteCase_two, barred]; rfl
  · rw [← off, remoteCeilingEffect, cfg, barred]; rfl
  · rw [payload, remoteCase_two, natAt_last]
    simp [small]
  · exact remoteCeilingEffect_on payload (cfg ▸ on) small seconds
  · obtain ⟨args, payload⟩ := List.head?_eq_some_iff.1 named
    rw [payload, remoteCase_three, barred]; rfl
  · rw [← off, remoteWakeEffect, cfg, barred]; rfl
  · have positive : 0 < minutes.toNat := by bv_omega
    rw [payload, remoteCase_three]
    rcases wakes with rfl | rfl <;> simp [natAt_one, positive]
  · exact remoteWakeEffect_on payload (cfg ▸ on) wakes seconds
  · obtain ⟨args, payload⟩ := List.head?_eq_some_iff.1 named
    rw [payload, remoteCase_four, barred]; rfl
  · rw [← off, remoteQuietEffect, cfg, barred]; rfl
  · rw [payload, remoteCase_four]
    exact if_pos (Bool.or_true _)
  · exact remoteQuietEffect_on payload (cfg ▸ on) seconds

end Sys2Proof.Machine
end

section
/-! The commands of the alert link (R119, R126, R127, R131): what GET_LINK reads, and what SET_LINK and SET_GROUPS write. -/

namespace Sys2Proof.Machine

variable {s : State}

/-! ### GET_LINK (R126) -/

theorem secondsLeft_eq (seconds : Nat) (expiry : Option Nat) : secondsLeft seconds expiry = match expiry with
    | none => 0
    | some x => x - seconds := rfl

theorem exec_getLink {p : Port} {tag : Byte} (adm : Admits p .read s) : exec (.getLink p tag []) s =
    .next ((s.onLink fun l => { l with worst := l.worst.update p fun _ => l.state }).answered p tag .ok (linkData p s)) :=
  request_leaves (run := withoutArgs [] fun x =>
    taken (linkData p x) (x.onLink fun l => { l with worst := l.worst.update p fun _ => l.state })) adm rfl

/-! ### SET_LINK (R131, R127) -/

/-- The settings as SET_LINK spells them, with the byte of the enables. -/
def LinkCfg.spelled (c : LinkCfg) (enables : Byte) : List Byte :=
  be 1 c.rateCode ++ be 2 c.keyLead ++ be 2 c.warmup ++ be 1 c.ackWindow ++ be 2 c.rest ++
    be 2 c.listenLength ++ be 2 c.listenInterval ++ be 2 c.address ++ [enables]

/-- The settings fit into the fields that spell them. -/
structure LinkCfg.Fits (c : LinkCfg) (enables : Byte) : Prop where
  rateCode : c.rateCode < 2 ^ 8
  keyLead : c.keyLead < 2 ^ 16
  warmup : c.warmup < 2 ^ 16
  ackWindow : c.ackWindow < 2 ^ 8
  rest : c.rest < 2 ^ 16
  listenLength : c.listenLength < 2 ^ 16
  listenInterval : c.listenInterval < 2 ^ 16
  address : c.address < 2 ^ 16
  bits : [c.enableStatus, c.enableCeiling, c.enableWake, c.enableQuiet] = (List.range 4).map enables.getLsbD

theorem LinkCfg.spelled_length (c : LinkCfg) (enables : Byte) : (c.spelled enables).length = 15 := by simp [spelled]

theorem natAt_spelled_enables (c : LinkCfg) (enables : Byte) : natAt (c.spelled enables) 14 1 = enables.toNat := by
  rw [LinkCfg.spelled]
  exact (natAt_beyond (by simp) [enables] 1).trans (by simp only [List.length_append, be_length]; exact natAt_last enables)

theorem linkCfgOf_spelled {c : LinkCfg} {enables : Byte} (fits : c.Fits enables) :
    linkCfgOf (c.spelled enables) = c := by
  obtain ⟨_, _, _, _, _, _, _, _, bits⟩ := fits
  obtain ⟨status, ceiling, wake, quiet⟩ : c.enableStatus = enables.toNat.testBit 0 ∧
      c.enableCeiling = enables.toNat.testBit 1 ∧ c.enableWake = enables.toNat.testBit 2 ∧
      c.enableQuiet = enables.toNat.testBit 3 := by
    injection bits with status bits
    injection bits with ceiling bits
    injection bits with wake bits
    injection bits with quiet bits
    exact ⟨status, ceiling, wake, quiet⟩
  unfold linkCfgOf
  simp only [natAt_spelled_enables, ← status, ← ceiling, ← wake, ← quiet]
  simp only [LinkCfg.spelled, List.append_assoc, natAt_beyond, be_length, Nat.reduceLeDiff, Nat.reduceSub]
  simp (disch := assumption) only [natAt_be]

theorem LinkCfg.ok_iff (c : LinkCfg) : c.ok = true ↔ c.rateCode ≤ 3 ∧ c.keyLead ≤ 500 ∧ c.warmup ≤ 300 ∧
    (1 ≤ c.ackWindow ∧ c.ackWindow ≤ 60) ∧ (60 ≤ c.rest ∧ c.rest ≤ 14400) ∧
    (1 ≤ c.listenLength ∧ c.listenLength ≤ 600) ∧ (30 ≤ c.listenInterval ∧ c.listenInterval ≤ 3600) ∧
    c.listenLength * 10 + c.warmup < c.listenInterval * 10 := by
  unfold LinkCfg.ok
  simp only [Bool.and_eq_true, decide_eq_true_iff, and_assoc]

/-- The state with new settings, a reception ended where its rate has changed (R131). -/
def linkWritten (c : LinkCfg) (s : State) : State :=
  let written := s.onLink fun l => { l with cfg := c }
  if c.rateCode ≠ s.link.cfg.rateCode ∧ s.link.reception ≠ none then settleWindow (closeReception written) else written

/-- SET_LINK with settings that are spelled (R131). -/
theorem runSetLink_spelled {c : LinkCfg} {enables : Byte} (fits : c.Fits enables) (s : State) :
    runSetLink (c.spelled enables) s = if enables.toNat < 16 ∧ c.ok = true then
      taken [] (settle (if (c.listenLength ≠ s.link.cfg.listenLength ∨ c.listenInterval ≠ s.link.cfg.listenInterval) ∧
        (linkWritten c s).pw.level = some .survival then listenPoint (linkWritten c s) else linkWritten c s))
      else refuse .outOfRange s := by
  unfold runSetLink
  simp only [LinkCfg.spelled_length, natAt_spelled_enables, linkCfgOf_spelled fits, true_and]
  have written : (if c.rateCode ≠ s.link.cfg.rateCode ∧ (s.onLink fun l => { l with cfg := c }).link.reception.isSome then
      settleWindow (closeReception (s.onLink fun l => { l with cfg := c })) else s.onLink fun l => { l with cfg := c }) =
      linkWritten c s := by
    simp only [Option.isSome_iff_ne_none]; rfl
  rw [written]
  refine if_congr Iff.rfl (congrArg (fun x => taken [] (settle x)) ?_) rfl
  rw [listenFired, ← ite_and]

/-! ### SET_GROUPS (R131) -/

theorem natOf_concat (bs : List Byte) (b : Byte) : natOf (bs ++ [b]) = 2 ^ 8 * natOf bs + b.toNat := by
  simp [natOf, Nat.mul_comm]

/-- Bytes sent lowest first: entry `e` is bit `e % 8` of byte `e / 8`. -/
theorem testBit_natOf_reverse (bs : List Byte) (e : Nat) :
    (natOf bs.reverse).testBit e = (bs.getD (e / 8) 0).getLsbD (e % 8) := by
  induction bs generalizing e with
  | nil => simp [natOf]
  | cons b bs ih =>
    rw [List.reverse_cons, natOf_concat, Nat.testBit_two_pow_mul_add _ b.isLt]
    by_cases first : e < 8
    · rw [if_pos first, Nat.div_eq_of_lt first, Nat.mod_eq_of_lt first]
      rfl
    · rw [if_neg first, ih, show e / 8 = (e - 8) / 8 + 1 by omega, show e % 8 = (e - 8) % 8 by omega]
      rfl

theorem exec_setGroups {p : Port} {tag : Byte} {args : List Byte} (adm : Admits p .configure s) (eight : args.length = 8) :
    exec (.setGroups p tag args) s =
      .next ((s.onLink fun l => { l with groups := BitVec.ofNat 64 (natOf args.reverse) }).answered p tag .ok []) :=
  request_leaves (run := runSetGroups args) adm (if_pos eight)

/-- Settles O39, command by command. -/
theorem linkCommands : Obligations.LinkCommands := by
  refine ⟨fun p tag s adm => ?_, fun p tag enables c s adm rateCode keyLead warmup ackWindow rest length interval address
    bits => ?_, fun p tag args s adm eight => ?_⟩
  · intro l left code
    refine ⟨listening_iff s, ?_⟩
    rw [exec_getLink adm]
    simp only [linkData, secondsLeft_eq, LinkState.code_eq] <;> rfl
  · intro args ok written heard newListen
    have fits : c.Fits enables := ⟨rateCode, keyLead, warmup, ackWindow, rest, length, interval, address, bits⟩
    have ranges : enables.toNat < 16 ∧ c.ok = true ↔ ok := by rw [LinkCfg.ok_iff]
    have runs := runSetLink_spelled fits (s.taking p tag)
    refine ⟨fun fine => ?_, fun wrong => ?_⟩
    · rw [if_pos (ranges.2 fine)] at runs
      exact request_takes adm runs
    · rw [if_neg (mt ranges.1 wrong)] at runs
      exact request_answers adm runs
  · refine ⟨BitVec.ofNat 64 (natOf args.reverse), exec_setGroups adm eight, fun e inside => ?_⟩
    rw [BitVec.getLsbD_ofNat, testBit_natOf_reverse, decide_eq_true inside, Bool.true_and]

end Sys2Proof.Machine
end

section
/-! The notices on air (R117, R121, R139, R140, R144): what the preemption stack, the transmitter and the ack window say of the
slots, and what each operation of the Notice Slot Table makes of it. -/

namespace Sys2Proof.Machine

/-! ### The view -/

/-- What a transmitter carries. -/
def Transmitter.carries : Transmitter → Option AirOrigin
  | .idle => none
  | .keying _ o _ _ => some o
  | .onAir _ o _ _ => some o

/-- The states of the slots, the slots and classes on the preemption stack from the bottom, and what is being sent and waited
for: all that StackOk speaks of. -/
structure Air where
  slots : List SlotState
  stack : List (Nat × NoticeClass)
  sent : Option AirOrigin
  awaited : Option AirOrigin

/-- The air of a state. -/
def State.air (s : State) : Air where
  slots := s.nt.slots.map fun sl => sl.state
  stack := s.nt.stack.map fun e => (e.slot, e.cls)
  sent := s.link.tx.carries
  awaited := s.link.window.map fun w => w.origin

namespace Air

/-- The state of slot `n`. -/
def state (n : Nat) (a : Air) : SlotState := a.slots.getD n .empty

/-- Slot `n` in another state. -/
def set (n : Nat) (st : SlotState) (a : Air) : Air := { a with slots := a.slots.set n st }

/-- The entry at a place of the stack removed. -/
def drop (i : Nat) (a : Air) : Air := { a with stack := a.stack.eraseIdx i }

/-- What StackOk asks of the air. -/
structure Ok (a : Air) : Prop where
  twelve : a.slots.length = 12
  rising : a.stack.Pairwise fun below above => below.2.code < above.2.code ∧ below.1 ≠ above.1
  noAlarm : ∀ e ∈ a.stack, e.2 ≠ .alarm
  preempted : ∀ n, a.state n = .preempted ↔ ∃ e ∈ a.stack, e.1 = n
  sending : ∀ n, a.sent = some (.segment n) → a.state n = .sending
  awaiting : ∀ n, a.awaited = some (.segment n) → a.state n = .awaitAck
  apart : a.sent ≠ none → a.awaited = none

/-- Neither the stack nor the link holds on to slot `n`. -/
structure Free (n : Nat) (a : Air) : Prop where
  state : a.state n ≠ .preempted
  sent : a.sent ≠ some (.segment n)
  awaited : a.awaited ≠ some (.segment n)

/-- Slot `n` is free in an air that is in order. -/
structure Loose (n : Nat) (a : Air) : Prop where
  ok : a.Ok
  free : a.Free n

variable {a : Air} {n m i : Nat} {st : SlotState} {c : NoticeClass}

theorem state_set : (a.set n st).state m = if n = m ∧ n < a.slots.length then st else a.state m := by
  simp only [state, set, List.getD_eq_getElem?_getD, List.getElem?_set]
  by_cases here : n = m
  · subst here
    by_cases inside : n < a.slots.length <;> simp [inside]
  · simp [here]

/-- A slot that has a state of its own is one of the table's. -/
theorem inside_of_state (used : a.state n ≠ .empty) : n < a.slots.length := by
  by_contra beyond
  exact used (List.getD_eq_default _ _ (Nat.le_of_not_lt beyond))

/-- A slot that is not PREEMPTED, SENDING or AWAIT_ACK is free. -/
theorem Ok.free (ok : a.Ok) (kept : a.state n ≠ .preempted) (unsent : a.state n ≠ .sending)
    (unawaited : a.state n ≠ .awaitAck) : a.Free n :=
  ⟨kept, fun sent => unsent (ok.sending n sent), fun awaited => unawaited (ok.awaiting n awaited)⟩

theorem Free.set (free : a.Free n) (quiet : st ≠ .preempted) : (a.set m st).Free n := by
  refine ⟨?_, free.sent, free.awaited⟩
  rw [state_set]
  split
  · exact quiet
  · exact free.state

/-- A free slot can take any state but PREEMPTED. -/
theorem Ok.set (ok : a.Ok) (free : a.Free n) (quiet : st ≠ .preempted) : (a.set n st).Ok where
  twelve := (List.length_set ..).trans ok.twelve
  rising := ok.rising
  noAlarm := ok.noAlarm
  preempted m := by
    have same : (a.set n st).state m = .preempted ↔ a.state m = .preempted := by
      rw [state_set]
      split
      next here => exact iff_of_false quiet (here.1 ▸ free.state)
      next => exact .rfl
    exact same.trans (ok.preempted m)
  sending m sent := by
    rw [state_set, if_neg (by rintro ⟨rfl, -⟩; exact free.sent sent)]
    exact ok.sending m sent
  awaiting m awaited := by
    rw [state_set, if_neg (by rintro ⟨rfl, -⟩; exact free.awaited awaited)]
    exact ok.awaiting m awaited
  apart := ok.apart

theorem Free.drop (free : a.Free n) : (a.drop i).Free n := ⟨free.state, free.sent, free.awaited⟩

theorem Loose.set (loose : a.Loose n) (quiet : st ≠ .preempted) : (a.set n st).Loose n :=
  ⟨loose.ok.set loose.free quiet, loose.free.set quiet⟩

/-- A slot on the stack is not on the link. -/
theorem Ok.preempted_free (ok : a.Ok) (stacked : a.state n = .preempted) :
    a.sent ≠ some (.segment n) ∧ a.awaited ≠ some (.segment n) :=
  ⟨fun sent => by simp [ok.sending n sent] at stacked, fun awaited => by simp [ok.awaiting n awaited] at stacked⟩

/-- An entry leaves the stack and its slot takes a state but PREEMPTED. -/
theorem Ok.pop (ok : a.Ok) (found : a.stack[i]? = some (n, c)) (quiet : st ≠ .preempted) :
    ((a.drop i).set n st).Loose n := by
  obtain ⟨inside, entry⟩ := List.getElem?_eq_some_iff.1 found
  have stacked : a.state n = .preempted := (ok.preempted n).2 ⟨_, List.mem_of_getElem? found, rfl⟩
  have used : n < a.slots.length := inside_of_state (by rw [stacked]; decide)
  obtain ⟨unsent, unawaited⟩ := ok.preempted_free stacked
  have others (m : Nat) : (∃ e ∈ a.stack.eraseIdx i, e.1 = m) ↔ m ≠ n ∧ ∃ e ∈ a.stack, e.1 = m := by
    have differ {j : Nat} (hj : j < a.stack.length) (other : j ≠ i) : a.stack[j].1 ≠ n := by
      have pairs := List.pairwise_iff_getElem.1 ok.rising
      rcases Nat.lt_or_gt_of_ne other with below | above
      · exact fun same => (pairs j i hj inside below).2 (by rw [entry]; exact same)
      · exact fun same => (pairs i j inside hj above).2 (by rw [entry]; exact same.symm)
    constructor
    · rintro ⟨e, mem, rfl⟩
      obtain ⟨j, hj, other, rfl⟩ := List.mem_eraseIdx_iff_getElem.1 mem
      exact ⟨differ hj other, _, List.getElem_mem hj, rfl⟩
    · rintro ⟨other, e, mem, rfl⟩
      obtain ⟨j, hj, rfl⟩ := List.getElem_of_mem mem
      refine ⟨_, List.mem_eraseIdx_iff_getElem.2 ⟨j, hj, ?_, rfl⟩, rfl⟩
      rintro rfl
      exact other (by rw [entry])
  have sub : (a.stack.eraseIdx i).Sublist a.stack := List.eraseIdx_sublist ..
  have state (m : Nat) : ((a.drop i).set n st).state m = if n = m then st else a.state m := by
    rw [state_set]; simp only [drop, used, and_true]; rfl
  refine ⟨⟨(List.length_set ..).trans ok.twelve, ok.rising.sublist sub,
    fun e mem => ok.noAlarm e (sub.mem mem), fun m => ?_, fun m sent => ?_, fun m awaited => ?_, ok.apart⟩,
    ⟨?_, unsent, unawaited⟩⟩
  · refine Iff.trans ?_ (others m).symm
    rw [state, ← ok.preempted m]
    split
    next here => exact iff_of_false quiet fun h => h.1 here.symm
    next other => exact ⟨fun h => ⟨Ne.symm other, h⟩, And.right⟩
  · rw [state, if_neg (by rintro rfl; exact unsent sent)]
    exact ok.sending m sent
  · rw [state, if_neg (by rintro rfl; exact unawaited awaited)]
    exact ok.awaiting m awaited
  · rw [state, if_pos rfl]; exact quiet

/-- A free slot goes on top of the stack, of a class above the top entry's and not ALARM. -/
theorem Ok.push (ok : a.Ok) (free : a.Free n) (inside : n < a.slots.length)
    (above : ∀ e, a.stack.getLast? = some e → e.2.code < c.code) (noAlarm : c ≠ .alarm) :
    ({ a.set n .preempted with stack := a.stack ++ [(n, c)] } : Air).Ok := by
  have below : ∀ e ∈ a.stack, e.2.code < c.code := by
    rcases List.eq_nil_or_concat a.stack with empty | ⟨l, top, stack⟩
    · simp [empty]
    · have rising := ok.rising
      rw [stack, List.concat_eq_append, List.pairwise_append] at rising
      have high := above top (by rw [stack, List.concat_eq_append, List.getLast?_concat])
      intro e mem
      rw [stack, List.concat_eq_append, List.mem_append, List.mem_singleton] at mem
      rcases mem with mem | rfl
      · exact (rising.2.2 e mem top List.mem_cons_self).1.trans high
      · exact high
  have rising : (a.stack ++ [(n, c)]).Pairwise fun b e => b.2.code < e.2.code ∧ b.1 ≠ e.1 := by
    refine List.pairwise_append.2 ⟨ok.rising, List.pairwise_singleton .., fun e mem top last => ?_⟩
    rw [List.mem_singleton.1 last]
    exact ⟨below e mem, fun same => free.state ((ok.preempted n).2 ⟨e, mem, same⟩)⟩
  have noAlarms : ∀ e ∈ a.stack ++ [(n, c)], e.2 ≠ .alarm := by
    simp only [List.mem_append, List.mem_singleton]
    rintro e (mem | rfl)
    · exact ok.noAlarm e mem
    · exact noAlarm
  have state (m : Nat) : ({ a.set n .preempted with stack := a.stack ++ [(n, c)] } : Air).state m =
      if n = m then .preempted else a.state m := by
    show (a.set n .preempted).state m = _
    rw [state_set]; simp only [inside, and_true]
  refine ⟨(List.length_set ..).trans ok.twelve, rising, noAlarms, fun m => ?_, fun m sent => ?_, fun m awaited => ?_,
    ok.apart⟩
  · rw [state]
    split
    next here => simp [here]
    next other => rw [ok.preempted m]; simp [other]
  · rw [state, if_neg (by rintro rfl; exact free.sent sent)]
    exact ok.sending m sent
  · rw [state, if_neg (by rintro rfl; exact free.awaited awaited)]
    exact ok.awaiting m awaited

/-- Rising classes below ALARM are at most two. -/
theorem Ok.two (ok : a.Ok) : a.stack.length ≤ 2 := by
  obtain ⟨-, rising, noAlarm, -⟩ := ok
  generalize a.stack = l at *
  match l with
  | [] => simp
  | [_] => simp
  | [_, _] => simp
  | x :: y :: z :: l =>
    simp only [List.pairwise_cons, List.mem_cons] at rising
    have low := (rising.1 y (.inl rfl)).1
    have high := (rising.2.1 z (.inl rfl)).1
    have top : z.2.code < 2 := by
      have := noAlarm z (by simp)
      revert this
      cases z.2 <;> simp [NoticeClass.code]
    omega

end Air

/-! ### The air of a state -/

variable {s : State}

theorem air_state (n : Nat) (s : State) : s.air.state n = (slotAt n s).state := by
  simp only [Air.state, State.air, slotAt, List.getD_eq_getElem?_getD, List.getElem?_map]
  cases s.nt.slots[n]? <;> rfl

/-- StackOk is about the air. -/
theorem stackOk_iff (s : State) : StackOk s ↔ s.air.Ok := by
  have stacked (n : Nat) : (∃ e ∈ s.air.stack, e.1 = n) ↔ ∃ e ∈ s.nt.stack, e.slot = n := by simp [State.air]
  have carried (o : AirOrigin) : s.link.tx.carries = some o ↔
      (∃ frame leadEnd rate, s.link.tx = .keying frame o leadEnd rate) ∨
      ∃ frame start rate, s.link.tx = .onAir frame o start rate := by
    cases s.link.tx <;> simp [Transmitter.carries]
  have busy : s.link.tx ≠ .idle ↔ s.link.tx.carries ≠ none := by cases s.link.tx <;> simp [Transmitter.carries]
  constructor
  · rintro ⟨twelve, -, rising, noAlarm, preempted, keying, onAir, awaiting, apart⟩
    refine ⟨by simpa [State.air] using twelve, List.pairwise_map.2 rising, by simpa [State.air] using noAlarm,
      fun n => ?_, fun n sent => ?_, fun n awaited => ?_, fun sent => ?_⟩
    · rw [air_state, stacked]; exact preempted n
    · rw [air_state]
      rcases (carried _).1 sent with ⟨frame, leadEnd, rate, tx⟩ | ⟨frame, start, rate, tx⟩
      · exact keying n frame leadEnd rate tx
      · exact onAir n frame start rate tx
    · rw [air_state]
      obtain ⟨w, window, origin⟩ := Option.map_eq_some_iff.1 awaited
      exact awaiting w n window origin
    · exact Option.map_eq_none_iff.2 (apart (busy.2 sent))
  · intro ok
    have two := ok.two
    obtain ⟨twelve, rising, noAlarm, preempted, sending, awaiting, apart⟩ := ok
    refine ⟨by simpa [State.air] using twelve, by simpa [State.air] using two, List.pairwise_map.1 rising,
      by simpa [State.air] using noAlarm, fun n => ?_, fun n frame leadEnd rate tx => ?_, fun n frame start rate tx => ?_,
      fun w n window origin => ?_, fun tx => ?_⟩
    · rw [← air_state, ← stacked]; exact preempted n
    · rw [← air_state]; exact sending n ((carried _).2 (.inl ⟨frame, leadEnd, rate, tx⟩))
    · rw [← air_state]; exact sending n ((carried _).2 (.inr ⟨frame, start, rate, tx⟩))
    · rw [← air_state]; exact awaiting n (Option.map_eq_some_iff.2 ⟨w, window, origin⟩)
    · exact Option.map_eq_none_iff.1 (apart (busy.1 tx))

/-! ### What the operations of the table make of it -/

theorem onSlot_air (n : Nat) (f : Slot → Slot) (s : State) :
    (onSlot n f s).air = s.air.set n (f (slotAt n s)).state := by
  have slots : (s.nt.slots.modify n f).map (fun sl => sl.state) =
      (s.nt.slots.map fun sl => sl.state).set n (f (slotAt n s)).state := by
    refine List.ext_getElem? fun i => ?_
    rw [List.getElem?_map, List.getElem?_modify, List.getElem?_set, List.length_map]
    by_cases here : n = i
    · subst here
      by_cases inside : n < s.nt.slots.length
      · simp [inside, slotAt]
      · simp [inside]
    · simp [here]
  simp only [State.air, Air.set, ← slots]
  rfl

/-- A change of one member that a view does not see. -/
theorem map_modify_same {α β : Type} {view : α → β} {f : α → α} (same : ∀ x, view (f x) = view x) (l : List α) (i : Nat) :
    (l.modify i f).map view = l.map view := by
  refine List.ext_getElem? fun k => ?_
  rw [List.getElem?_map, List.getElem?_map, List.getElem?_modify]
  by_cases here : i = k <;> cases l[k]? <;> simp [here, same]

/-- A change of a slot that leaves its state. -/
theorem onSlot_air_same {n : Nat} {f : Slot → Slot} (same : ∀ sl, (f sl).state = sl.state) (s : State) :
    (onSlot n f s).air = s.air := by
  simp only [onSlot, State.air, State.onNt_nt, State.onNt_link, map_modify_same same]

@[simp] theorem alarmWaiting_air (s : State) : (alarmWaiting s).air = s.air := by unfold alarmWaiting; split <;> rfl

@[simp] theorem waitAgain_air (n : Nat) (s : State) : (waitAgain n s).air = s.air.set n .waiting := by
  unfold waitAgain; dsimp only
  split
  · rw [alarmWaiting_air, onSlot_air]
  · rw [onSlot_air]

@[simp] theorem waitWithTag_air (n : Nat) (s : State) : (waitWithTag n s).air = s.air.set n .waiting := by
  rw [waitWithTag, waitAgain_air, onSlot_air_same (by intro; rfl)]
  rfl

@[simp] theorem dropEntry_air (i : Nat) (s : State) : (dropEntry i s).air = s.air.drop i := by
  simp [dropEntry, State.air, Air.drop, List.eraseIdx_map]

@[simp] theorem setPreempting_air (i m : Nat) (s : State) : (setPreempting i m s).air = s.air := by
  have same : ∀ e : StackEntry, ({ e with by' := m }.slot, { e with by' := m }.cls) = (e.slot, e.cls) := fun _ => rfl
  simp only [setPreempting, State.air, State.onNt_nt, State.onNt_link,
    map_modify_same (view := fun e : StackEntry => (e.slot, e.cls)) same]

end Sys2Proof.Machine
end

section
/-! The operations of the Notice Slot Table keep the air in order (R133, R134, R139 to R151): each of them works on slots that
are free, or takes the entry of a PREEMPTED slot off the stack with it. -/

namespace Sys2Proof.Machine

variable {s : State} {n m : Nat} {st : SlotState}

/-! ### Changes that the air does not see -/

@[simp] theorem State.onPace_air (f : Pace → Pace) : (s.onPace f).air = s.air := rfl
@[simp] theorem State.onTb_air (f : Timebase → Timebase) : (s.onTb f).air = s.air := rfl
@[simp] theorem State.onDisc_air (f : Discipline → Discipline) : (s.onDisc f).air = s.air := rfl
@[simp] theorem State.onDet_air (f : Detector → Detector) : (s.onDet f).air = s.air := rfl
@[simp] theorem State.onHt_air (f : HeaterUnit → HeaterUnit) : (s.onHt f).air = s.air := rfl
@[simp] theorem State.onPort_air (p : Port) (f : PortRec → PortRec) : (s.onPort p f).air = s.air := rfl
@[simp] theorem notify_air (p : Port) (k : Kind) (s : State) : (notify p k s).air = s.air := rfl

/-- A fold of operations that the air does not see. -/
theorem foldl_air {α : Type} {f : State → α → State} (same : ∀ x a, (f x a).air = x.air) (l : List α) (s : State) :
    (l.foldl f s).air = s.air := by
  induction l generalizing s with
  | nil => rfl
  | cons a l ih => rw [List.foldl_cons, ih, same]

/-- A choice between two states whose air is in order. -/
theorem ite_ok {c : Prop} [Decidable c] {x y : State} (hx : x.air.Ok) (hy : y.air.Ok) :
    (if c then x else y).air.Ok := by split <;> assumption

/-- A free slot takes a state but PREEMPTED. -/
theorem onSlot_loose {f : Slot → Slot} (state : (f (slotAt n s)).state = st) (quiet : st ≠ .preempted)
    (loose : s.air.Loose n) : (onSlot n f s).air.Loose n := by
  rw [onSlot_air, state]; exact loose.set quiet

/-! ### The end of a notice (R144 to R147) -/

/-- An entry whose preempting slot ends stays on the stack, or is popped with its slot WAITING. -/
theorem endEntry_air (n i : Nat) (s : State) : (endEntry n i s).air = s.air ∨
    ∃ e : StackEntry, s.air.stack[i]? = some (e.slot, e.cls) ∧ (endEntry n i s).air = (s.air.drop i).set e.slot .waiting := by
  unfold endEntry
  cases found : s.nt.stack[i]? with
  | none => exact .inl rfl
  | some e =>
    dsimp only
    repeat' split
    · exact .inl (setPreempting_air ..)
    · exact .inl (setPreempting_air ..)
    · exact .inr ⟨e, by simp [State.air, found], by simp⟩
    · exact .inl rfl

theorem endEntry_loose {i : Nat} (loose : s.air.Loose m) : (endEntry n i s).air.Loose m := by
  rcases endEntry_air n i s with same | ⟨e, found, popped⟩
  · rw [same]; exact loose
  · rw [popped]; exact ⟨(loose.ok.pop found (by decide)).ok, loose.free.drop.set (by decide)⟩

theorem endPreempting_loose (loose : s.air.Loose m) : (endPreempting n s).air.Loose m := by
  unfold endPreempting
  generalize (List.range s.nt.stack.length).reverse = l
  induction l generalizing s with
  | nil => exact loose
  | cons i l ih => exact ih (endEntry_loose loose)

@[simp] theorem emptySlot_air (n : Nat) (s : State) : (emptySlot n s).air = s.air.set n .empty := by
  unfold emptySlot; dsimp only
  split
  · exact onSlot_air ..
  · exact onSlot_air ..

theorem serveOrigin_loose (loose : s.air.Loose n) : (serveOrigin n s).air.Loose n := by
  have emptied {x : State} (same : x.air = s.air) : (emptySlot n x).air.Loose n := by
    rw [emptySlot_air, same]; exact loose.set (by decide)
  unfold serveOrigin; dsimp only
  cases (slotAt n s).origin with
  | port p => cases (slotAt n s).outcome <;> first | exact loose | exact emptied rfl
  | detector => cases (slotAt n s).event <;> exact emptied rfl
  | power => exact emptied rfl
  | timebase => exact emptied rfl
  | link => exact emptied rfl

/-- A notice ends whose slot is free once it has its final state. -/
theorem finishSlot_loose {st : SlotState} {out : SlotOutcome} (loose : (s.air.set n st).Loose n) :
    (finishSlot n st out s).air.Loose n := by
  unfold finishSlot
  exact serveOrigin_loose (endPreempting_loose (by rw [onSlot_air]; exact loose))

theorem abortSlot_loose (loose : s.air.Loose n) : (abortSlot n s).air.Loose n :=
  finishSlot_loose (loose.set (by decide))

theorem completeResponder_loose {out : SlotOutcome} (loose : s.air.Loose n) : (completeResponder n out s).air.Loose n := by
  have armed {f : Slot → Slot} (state : (f (slotAt n s)).state = .armed) : (onSlot n f s).air.Loose n :=
    onSlot_loose state (by decide) loose
  unfold completeResponder; dsimp only
  refine endPreempting_loose ?_
  split
  · rw [notify_air]; exact armed rfl
  all_goals exact armed rfl

theorem endNotice_loose {delivered : Bool} (loose : s.air.Loose n) : (endNotice n delivered s).air.Loose n := by
  unfold endNotice; dsimp only
  split
  · exact completeResponder_loose loose
  · cases delivered <;> exact finishSlot_loose (loose.set (by decide))

/-! ### The outcomes of an attempt, polls and expiries (R141 to R143, R149) -/

theorem waitAgain_ok (loose : s.air.Loose n) : (waitAgain n s).air.Ok := by
  rw [waitAgain_air]; exact (loose.set (by decide)).ok

theorem waitWithTag_ok (loose : s.air.Loose n) : (waitWithTag n s).air.Ok := by
  rw [waitWithTag_air]; exact (loose.set (by decide)).ok

theorem slotAcked_ok (loose : s.air.Loose n) : (slotAcked n s).air.Ok := by
  unfold slotAcked; dsimp only
  split
  · exact waitAgain_ok (by rw [onSlot_air_same (by intro; rfl)]; exact loose)
  · exact (endNotice_loose (by rw [onSlot_air_same (by intro; rfl)]; exact loose)).ok

theorem slotFailed_ok (loose : s.air.Loose n) : (slotFailed n s).air.Ok := by
  unfold slotFailed; dsimp only
  split
  · exact (endNotice_loose (by rw [onSlot_air_same (by intro; rfl)]; exact loose)).ok
  · refine (onSlot_loose (st := .backoff) rfl (by decide) ?_).ok
    rw [onSlot_air_same (by intro; rfl)]; exact loose

theorem slotPowerCut_ok (loose : s.air.Loose n) : (slotPowerCut n s).air.Ok := by
  unfold slotPowerCut
  split
  · exact (abortSlot_loose loose).ok
  · exact waitAgain_ok loose

/-- A slot in a state of its own but PREEMPTED, SENDING and AWAIT_ACK is free. -/
theorem loose_of_state (ok : s.air.Ok) (state : (slotAt n s).state = st)
    (quiet : st ≠ .preempted ∧ st ≠ .sending ∧ st ≠ .awaitAck) : s.air.Loose n := by
  obtain ⟨kept, unsent, unawaited⟩ := quiet
  rw [← air_state] at state
  subst state
  exact ⟨ok, ok.free kept unsent unawaited⟩

theorem pollSlots_ok {topic : Nat} (ok : s.air.Ok) : (pollSlots topic s).air.Ok := by
  unfold pollSlots; dsimp only
  repeat' split
  · exact ok
  next n _ armed => exact waitWithTag_ok (loose_of_state ok armed (by decide))
  · exact ok

/-! ### Requests (R133, R134, R151) -/

/-- The victim is the first of the oldest queued time among those that may be displaced. -/
theorem displaceVictim_eq (s : State) : displaceVictim s =
    firstBest (fun n => -((slotAt n s).queued : Int)) (slotNumbers.filter fun n => (slotAt n s).displaceable) := by
  simp only [displaceVictim, firstBest, List.foldl_filter, Int.neg_lt_neg_iff, Int.ofNat_lt]

theorem displaceVictim_displaceable {v : Nat} (found : displaceVictim s = some v) :
    v < 12 ∧ (slotAt v s).responder = false ∧ (slotAt v s).state = .waiting ∧ (slotAt v s).cls = .routine := by
  rw [displaceVictim_eq, firstBest_eq_some (slotNumbers_sorted _)] at found
  simpa [Slot.displaceable, slotNumbers, and_assoc] using found.1

theorem emptySlotNumber_empty (found : emptySlotNumber s = some n) : (slotAt n s).state = .empty := by
  simpa using List.find?_some found

/-- A slot given to a request is free. -/
theorem obtainSlot_loose {c : NoticeClass} (ok : s.air.Ok) :
    (obtainSlot c s).1.air.Ok ∧ ∀ n, (obtainSlot c s).2 = some n → (obtainSlot c s).1.air.Loose n := by
  unfold obtainSlot
  cases found : emptySlotNumber s with
  | some n =>
    have empty := emptySlotNumber_empty found
    refine ⟨ok, fun m same => ?_⟩
    cases same
    exact loose_of_state ok empty (by decide)
  | none =>
    dsimp only
    split
    next =>
      cases victim : displaceVictim s with
      | none => exact ⟨ok, by simp⟩
      | some v =>
        obtain ⟨-, -, waits, -⟩ := displaceVictim_displaceable victim
        have loose : (finishSlot v .displaced .displaced s).air.Loose v := finishSlot_loose
          ((loose_of_state ok waits (by decide)).set (by decide))
        exact ⟨loose.ok, fun m same => by cases same; exact loose⟩
    next => exact ⟨ok, by simp⟩

theorem requestNotice_ok {a : NoticeAsk} (ok : s.air.Ok) : (requestNotice a s).1.air.Ok := by
  have obtained := obtainSlot_loose (c := a.cls) ok
  unfold requestNotice
  revert obtained
  generalize obtainSlot a.cls s = o
  obtain ⟨x, slot⟩ := o
  rintro ⟨ok, loose⟩
  cases slot with
  | none => cases a.event <;> exact ok
  | some n =>
    have filled {f : Slot → Slot} (state : (f (slotAt n x)).state = .empty) : (onSlot n f x).air.Loose n :=
      onSlot_loose state (by decide) (loose n rfl)
    cases a.event <;> exact waitWithTag_ok (filled rfl)

theorem quakeNotice_ok {k : NoticeKind} {c : NoticeClass} {event : Nat} (ok : s.air.Ok) :
    (quakeNotice k c event s).air.Ok := requestNotice_ok ok

theorem escalate_ok {event : Nat} (ok : s.air.Ok) : (escalate event s).air.Ok := by
  cases found : declaredSlot event s with
  | none => rw [escalate_unnamed found]; exact quakeNotice_ok ok
  | some n =>
    by_cases ready : (slotAt n s).state = .waiting ∨ (slotAt n s).state = .backoff
    · rw [escalate_raises found ready]
      refine waitAgain_ok ?_
      rw [onSlot_air_same (by intro; rfl)]
      rcases ready with state | state <;>
        exact loose_of_state ok state (by decide)
    · rw [escalate_gone found (fun h => ready (.inl h)) fun h => ready (.inr h)]
      exact quakeNotice_ok ok

theorem timeNotice_ok {urgent : Bool} (ok : s.air.Ok) : (timeNotice urgent s).air.Ok := by
  unfold timeNotice
  exact ite_ok ok (requestNotice_ok ok)

theorem powerNotice_ok {c : PowerCause} (ok : s.air.Ok) : (powerNotice c s).air.Ok := by
  unfold powerNotice; dsimp only
  split
  · exact ok
  · exact requestNotice_ok ok

/-! ### The start of an attempt (R139, R140, R144) -/

@[simp] theorem startSlot_air (n : Nat) (s : State) : (startSlot n s).air = s.air.set n .sending := by
  unfold startSlot; dsimp only
  rw [onSlot_air]
  split <;> rfl

@[simp] theorem pushNotice_air (o n : Nat) (s : State) : (pushNotice o n s).air =
    { s.air.set o .preempted with stack := s.air.stack ++ [(o, (slotAt o s).cls)] } := by
  rw [pushNotice, onSlot_air]
  simp [State.air, Air.set]

theorem lookAt_air (s : State) (n : Nat) : (lookAt s n).air = s.air :=
  show (onSlot n (fun sl => { sl with view := (viewNow n s).1 }) s).air = s.air from onSlot_air_same (by intro; rfl) s

@[simp] theorem countEnergyHolds_air (s : State) : (countEnergyHolds s).air = s.air :=
  foldl_air lookAt_air _ _

end Sys2Proof.Machine
end

section
/-! Operations that the notices on air do not see: they leave every slot's state, the preemption stack, what is being sent and
what is waited for. -/

namespace Sys2Proof.Machine

variable {s t x : State} {n : Nat}

/-- What leaves all but the parts that a realignment works on leaves the air. -/
theorem air_of_beside (same : t.beside = s.beside) : t.air = s.air :=
  show t.beside.air = s.beside.air by rw [same]

theorem OnlyChanges.air {a : Part} (only : OnlyChanges a s t) : t.air = s.air := air_of_beside only.beside

/-- An air that stays stays in order. -/
theorem ok_of (same : t.air = s.air) (ok : s.air.Ok) : t.air.Ok := same ▸ ok

/-- A choice between two states of one air. -/
theorem ite_air {c : Prop} [Decidable c] {x y : State} (hx : x.air = s.air) (hy : y.air = s.air) :
    (if c then x else y).air = s.air := by split <;> assumption

/-- What moves the link but not what it sends and waits for. -/
theorem onLink_air {f : Link → Link} (tx : (f s.link).tx = s.link.tx) (window : (f s.link).window = s.link.window) :
    (s.onLink f).air = s.air := by
  simp only [State.air, State.onLink_link, State.onLink_nt, tx, window]

/-! ### The Event Table and the Acquisition Unit -/

@[simp] theorem storeFrame_air (fl : InFlight) (data : Option Samples) (s : State) : (storeFrame fl data s).air = s.air :=
  (storeFrame_counts fl data s).only.air

@[simp] theorem strobeByCounting_air (s : State) : (strobeByCounting s).air = s.air :=
  (convertStrobe_strobed ..).only.air

@[simp] theorem holdRequest_air (event onset : Nat) (s : State) : (holdRequest event onset s).air = s.air := by
  unfold holdRequest; dsimp only
  repeat' split
  all_goals rfl

/-! ### The heaters -/

@[simp] theorem onPaired_air (h : Heater) (f : Paired → Paired) (s : State) : (onPaired h f s).air = s.air := rfl

@[simp] theorem driveOutput_air (h : Heater) (level : Bool) (x : Time) (switched : Bool) (s : State) :
    (driveOutput h level x switched s).air = s.air := (driveOutput_only ..).air

@[simp] theorem releaseAtLimit_air (h : Heater) (s : State) : (releaseAtLimit h s).air = s.air :=
  (releaseAtLimit_only ..).air

@[simp] theorem firingCallsFor_air (h : Heater) (level : Bool) (x : Time) (s : State) :
    (firingCallsFor h level x s).air = s.air := (firingCallsFor_only ..).air

@[simp] theorem boundaryFires_air (h : Heater) (s : State) : (boundaryFires h s).air = s.air := by
  rw [boundaryFires, firingCallsFor_air, onPaired_air]

@[simp] theorem cutHeater_air (h : Heater) (v : Nat) (s : State) : (cutHeater h v s).air = s.air := (cutHeater_only ..).air

@[simp] theorem quietHeater_air (h : Heater) (quiet : Bool) (s : State) : (quietHeater h quiet s).air = s.air := by
  unfold quietHeater; dsimp only
  split
  · exact ite_air rfl rfl
  · exact ite_air (driveOutput_air ..) rfl

@[simp] theorem reportQuiet_air (quiet : Bool) (s : State) : (reportQuiet quiet s).air = s.air := by
  rw [reportQuiet, quietHeater_air, quietHeater_air, State.onHt_air]

@[simp] theorem formCap_air (h : Heater) (s : State) : (formCap h s).air = s.air := by
  unfold formCap; dsimp only
  exact ite_air (cutHeater_air ..) rfl

@[simp] theorem formCaps_air (s : State) : (formCaps s).air = s.air := by rw [formCaps, formCap_air, formCap_air]

@[simp] theorem computeHeater_air (h : Heater) (s : State) : (computeHeater h s).air = s.air := (computeHeater_only ..).air

@[simp] theorem testVault_air (s : State) : (testVault s).air = s.air :=
  air_of_beside (s := judged s) (testVault_beside s)

@[simp] theorem applyLimit_air (h : Heater) (s : State) : (applyLimit h s).air = s.air := by
  unfold applyLimit
  split
  · exact ite_air (releaseAtLimit_air ..) rfl
  all_goals rfl

@[simp] theorem tellHeater_air (s : State) : (tellHeater s).air = s.air := by
  unfold tellHeater; dsimp only
  split
  · rfl
  · rw [formCaps_air, State.onHt_air, State.onHt_air]

/-! ### The Detector -/

@[simp] theorem handUpdate_air (s : State) : (handUpdate s).air = s.air := by
  unfold handUpdate
  repeat' split
  all_goals rfl

@[simp] theorem strongRequests_air (s : State) : (strongRequests s).air = s.air := by
  unfold strongRequests; dsimp only
  split
  · rfl
  · rfl
  · exact holdRequest_air ..

@[simp] theorem formQuiet_air (s : State) : (formQuiet s).air = s.air := by
  unfold formQuiet; dsimp only
  exact ite_air rfl (reportQuiet_air ..)

@[simp] theorem startStream_air (s : State) : (startStream s).air = s.air := rfl

@[simp] theorem sensorOn_air (s : State) : (sensorOn s).air = s.air := by
  unfold sensorOn; dsimp only
  exact ite_air (startStream_air ..) rfl

/-! ### The alert link -/

@[simp] theorem setLinkState_air (new : LinkState) (s : State) : (setLinkState new s).air = s.air := by
  unfold setLinkState; exact ite_air rfl rfl

@[simp] theorem setHealth_air (new : LinkState) (s : State) : (setHealth new s).air = s.air := by
  unfold setHealth; dsimp only
  repeat' split
  · rfl
  · exact setLinkState_air ..
  · exact setLinkState_air ..

@[simp] theorem evaluateHealth_air (s : State) : (evaluateHealth s).air = s.air := by
  unfold evaluateHealth
  repeat' split
  all_goals simp only [setHealth_air]

@[simp] theorem countSendFailure_air (s : State) : (countSendFailure s).air = s.air := evaluateHealth_air _

@[simp] theorem countSendSuccess_air (s : State) : (countSendSuccess s).air = s.air := evaluateHealth_air _

@[simp] theorem probeAcked_air (s : State) : (probeAcked s).air = s.air := setHealth_air ..

@[simp] theorem probeFailed_air (s : State) : (probeFailed s).air = s.air := rfl

@[simp] theorem listenFired_air (s : State) : (listenFired s).air = s.air := (listenFired_only s).air

@[simp] theorem listenLevel_air (l : Option Level) (s : State) : (listenLevel l s).air = s.air := by
  unfold listenLevel; dsimp only
  split
  case h_4 => exact (listenPoint_only s).air
  all_goals rfl

@[simp] theorem linkLevel_air (s : State) : (linkLevel s).air = s.air := by
  rw [linkLevel, listenLevel_air, formLinkState, setLinkState_air]

@[simp] theorem closeReception_air (s : State) : (closeReception s).air = s.air := rfl

@[simp] theorem queueReply_air (f : HeardFrame) (r : Nat) (s : State) : (queueReply f r s).air = s.air := by
  unfold queueReply
  repeat' split
  all_goals rfl

@[simp] theorem disabledCommand_air (f : HeardFrame) (s : State) : (disabledCommand f s).air = s.air := queueReply_air ..

/-! ### Time and discipline -/

@[simp] theorem disciplineLevel_air (l : Option Level) (s : State) : (disciplineLevel l s).air = s.air := by
  unfold disciplineLevel; dsimp only
  split <;> rfl

@[simp] theorem setUncertainty_air (n : Nat) (s : State) : (setUncertainty n s).air = s.air := by
  unfold setUncertainty; dsimp only
  exact ite_air rfl rfl

/-- A set moves the end of the ack window, not what is waited for. -/
theorem shiftWindow_air {g : AckWindow → AckWindow} (nt : t.nt = s.nt) (tx : t.link.tx = s.link.tx)
    (window : t.link.window = s.link.window.map g) (same : ∀ w, (g w).origin = w.origin) : t.air = s.air := by
  simp only [State.air, nt, tx, window, Option.map_map, Function.comp_def, same]

@[simp] theorem forwardStep_air (n : Nat) (s : State) : (forwardStep n s).air = s.air := by
  by_cases zero : n = 0
  · rw [zero, forwardStep_zero]
  · exact (air_of_beside (forwardStep_parts zero s).1).trans (shiftWindow_air rfl rfl rfl fun _ => rfl)

@[simp] theorem backwardSet_air (new : Time) (s : State) : (backwardSet new s).air = s.air :=
  (air_of_beside (backwardSet_parts new s).1).trans (shiftWindow_air rfl rfl rfl fun _ => rfl)

@[simp] theorem learnBin_air (s : State) : (learnBin s).air = s.air := by unfold learnBin; exact ite_air rfl rfl

@[simp] theorem steer_air (p : Int) (s : State) : (steer p s).air = s.air := by
  unfold steer
  exact ite_air (forwardStep_air ..) rfl

@[simp] theorem steerAndJudge_air (p : Int) (s : State) : (steerAndJudge p s).air = s.air := by
  rw [steerAndJudge, setUncertainty_air, steer_air]

/-! ### Power and the Settings Store -/

@[simp] theorem formStanding_air (s : State) : (formStanding s).air = s.air := foldl_air (by intros; rfl) _ _

@[simp] theorem automaticSave_air (s : State) : (automaticSave s).air = s.air := by
  unfold automaticSave
  split <;> rfl

@[simp] theorem endSave_air (saved : Save) (s : State) : (endSave saved s).air = s.air := by
  have replied (p : Port) (x : State) : (replySaved p x).air = x.air := by
    unfold replySaved
    split <;> rfl
  unfold endSave
  cases saved.replyTo with
  | none => exact ite_air rfl rfl
  | some p => exact ite_air (replied p _) (replied p _)

@[simp] theorem tellOn_air (l : Load) (s : State) : (tellOn l s).air = s.air := by
  cases l <;> first | rfl | exact sensorOn_air s

end Sys2Proof.Machine
end

section
/-! The transmitter and the ack window keep the air in order (R116, R117, R121, R122, R140, R145). -/

namespace Sys2Proof.Machine

namespace Air

variable {a b : Air} {n : Nat} {o : AirOrigin}

/-- Less on the link. -/
theorem Ok.less (ok : a.Ok) (slots : b.slots = a.slots) (stack : b.stack = a.stack)
    (sent : b.sent = a.sent ∨ b.sent = none) (awaited : b.awaited = a.awaited ∨ b.awaited = none) : b.Ok := by
  have state (n : Nat) : b.state n = a.state n := by rw [state, state, slots]
  refine ⟨slots ▸ ok.twelve, stack ▸ ok.rising, stack ▸ ok.noAlarm, fun n => ?_, fun n on => ?_, fun n on => ?_, fun on => ?_⟩
  · rw [state, stack]; exact ok.preempted n
  · rcases sent with same | gone
    · rw [state]; exact ok.sending n (same ▸ on)
    · rw [gone] at on; cases on
  · rcases awaited with same | gone
    · rw [state]; exact ok.awaiting n (same ▸ on)
    · rw [gone] at on; cases on
  · rcases awaited with same | gone
    · rw [same]; exact ok.apart fun none => on (by rcases sent with h | h <;> simp [h, none])
    · exact gone

/-- A key-up beside no window. -/
theorem Ok.send (ok : a.Ok) (closed : a.awaited = none) (state : ∀ n, o = .segment n → a.state n = .sending) :
    ({ a with sent := some o } : Air).Ok :=
  ⟨ok.twelve, ok.rising, ok.noAlarm, ok.preempted, fun n sent => state n (Option.some_inj.1 sent), ok.awaiting,
    fun _ => closed⟩

/-- A window opens beside no transmission. -/
theorem Ok.await (ok : a.Ok) (idle : a.sent = none) (state : ∀ n, o = .segment n → a.state n = .awaitAck) :
    ({ a with awaited := some o } : Air).Ok :=
  ⟨ok.twelve, ok.rising, ok.noAlarm, ok.preempted, ok.sending, fun n awaited => state n (Option.some_inj.1 awaited),
    fun sent => absurd idle sent⟩

end Air

variable {s t x : State} {n : Nat}

/-! ### Cuts and windows -/

theorem cutOrigin_ok {o : AirOrigin} (ok : s.air.Ok) (loose : ∀ n, o = .segment n → s.air.Free n) : (cutOrigin o s).air.Ok := by
  cases o with
  | segment n => exact slotPowerCut_ok ⟨ok, loose n rfl⟩
  | probe => exact ok
  | reply r => exact ok

theorem radioCut_ok (ok : s.air.Ok) : (radioCut s).air.Ok := by
  have cut : radioCut s =
      let s1 := s.onLink fun l => { l with warm := false, tx := .idle, window := none, reception := none }
      let s2 := match s.link.tx.carries with
        | none => s1
        | some o => cutOrigin o s1
      match s.link.window.map fun w => w.origin with
      | none => s2
      | some o => cutOrigin o s2 := by
    unfold radioCut
    cases s.link.tx <;> rfl
  rw [cut]
  have silent : (s.onLink fun l => { l with warm := false, tx := .idle, window := none, reception := none }).air.Ok :=
    ok.less rfl rfl (.inr rfl) (.inr rfl)
  have free (n : Nat) (st : SlotState) (quiet : st ≠ .preempted) (state : s.air.state n = st) :
      (s.onLink fun l => { l with warm := false, tx := .idle, window := none, reception := none }).air.Free n :=
    ⟨fun kept => quiet (state.symm.trans kept), nofun, nofun⟩
  have sending := ok.sending
  have awaiting := ok.awaiting
  have apart := ok.apart
  change ∀ n, s.link.tx.carries = some (.segment n) → _ at sending
  change ∀ n, (s.link.window.map fun w => w.origin) = some (.segment n) → _ at awaiting
  change s.link.tx.carries ≠ none → (s.link.window.map fun w => w.origin) = none at apart
  cases carried : s.link.tx.carries with
  | some o =>
    rw [carried] at sending apart
    rw [apart (by simp)]
    exact cutOrigin_ok silent fun n same => free n _ (by decide) (sending n (same ▸ rfl))
  | none =>
    cases waited : s.link.window.map fun w => w.origin with
    | none => exact silent
    | some o =>
      rw [waited] at awaiting
      exact cutOrigin_ok silent fun n same => free n _ (by decide) (awaiting n (same ▸ rfl))

/-- The slot that a window waits for is free once the window has closed. -/
theorem loose_of_window {w : AckWindow} {f : Link → Link} (ok : s.air.Ok) (window : s.link.window = some w)
    (origin : w.origin = .segment n) (tx : (f s.link).tx = s.link.tx) (closed : (f s.link).window = none) :
    (s.onLink f).air.Loose n := by
  have state : s.air.state n = .awaitAck := ok.awaiting n (by simp [State.air, window, origin])
  have same : (s.onLink f).air = { s.air with awaited := none } := by simp [State.air, tx, closed]
  rw [same]
  refine ⟨ok.less rfl rfl (.inl rfl) (.inr rfl), fun kept => ?_, fun sent => ?_, nofun⟩
  · exact absurd (state.symm.trans kept) (by decide)
  · exact absurd (state.symm.trans (ok.sending n sent)) (by decide)

theorem decideWindow_ok {w : AckWindow} {acked : Bool} (ok : s.air.Ok) (window : s.link.window = some w) :
    (decideWindow w acked s).air.Ok := by
  have closed : (s.onLink fun l => { l with window := none }).air.Ok := ok.less rfl rfl (.inl rfl) (.inr rfl)
  unfold decideWindow; dsimp only
  split
  next n origin =>
    have loose := loose_of_window (f := fun l => { l with window := none }) ok window origin rfl rfl
    split
    · exact ok_of (countSendSuccess_air _) (slotAcked_ok loose)
    · exact ok_of (countSendFailure_air _) (slotFailed_ok loose)
  · split
    · exact ok_of (probeAcked_air _) closed
    · exact ok_of (probeFailed_air _) closed
  · exact closed

theorem settleWindow_ok (ok : s.air.Ok) : (settleWindow s).air.Ok := by
  unfold settleWindow
  split
  · exact ok
  next w window => exact ite_ok (decideWindow_ok ok window) ok

theorem windowEnds_ok {w : AckWindow} (ok : s.air.Ok) (window : s.link.window = some w) : (windowEnds w s).air.Ok := by
  unfold windowEnds; dsimp only
  refine ite_ok ?_ (decideWindow_ok ok window)
  refine ok_of (s := s) ?_ ok
  simp [State.air, window]

/-! ### Receptions -/

theorem countBadFrame_air (s : State) : (countBadFrame s).air = s.air := evaluateHealth_air _

theorem countGoodFrame_air (s : State) : (countGoodFrame s).air = s.air := evaluateHealth_air _

theorem badFrame_ok (ok : s.air.Ok) : (badFrame s).air.Ok :=
  settleWindow_ok (ok_of (countBadFrame_air (closeReception s)) ok)

theorem goodFrame_ok {effect : State → State} (acts : ∀ {x : State}, x.air.Ok → (effect x).air.Ok) (ok : s.air.Ok) :
    (goodFrame effect s).air.Ok :=
  settleWindow_ok (acts (ok_of (countGoodFrame_air (closeReception s)) ok))

theorem answerFrame_ok {f : HeardFrame} {inWindow acked : Bool} (ok : s.air.Ok) :
    (answerFrame f inWindow acked s).air.Ok := by
  unfold answerFrame; dsimp only
  split
  · exact ok
  next w window => exact ite_ok (decideWindow_ok ok window) ok

theorem startOfFrame_ok (ok : s.air.Ok) : (startOfFrame s).air.Ok := by
  have captured : (s.onCcu fun c => { c with ch2 := (c.ch2.edge s.tb.now).read }).air.Ok := ok
  have ended := badFrame_ok captured
  unfold startOfFrame; dsimp only
  split
  · refine ok_of (onLink_air rfl rfl) (ite_ok ended captured)
  · exact captured

/-! ### Transmissions -/

/-- What a transmit opportunity pushes, and for whom (R139, R144). -/
theorem selectNotice_pushed {o : Nat} (selected : selectNotice s = some (n, some o)) :
    MayPush o s ∧ (slotAt o s).cls.code < (slotAt n s).cls.code := by
  cases opened : openNotice s with
  | none => simpa using (selectNotice_closed_some (openNotice_eq_none.1 opened) selected).1
  | some m =>
    classical
    rw [selectNotice_open opened] at selected
    have stays : (if GoesOn m s then some (m, (none : Option Nat)) else none) ≠ some (n, some o) := by split <;> simp
    split at selected
    next k found =>
      have higher := mem_higherSlots.1 ((firstBest_eq_some (higherSlots_sorted m s)).1 found).1
      split at selected
      next may =>
        obtain ⟨rfl, same⟩ := Prod.mk.inj (Option.some_inj.1 selected)
        obtain rfl := Option.some_inj.1 same
        exact ⟨may, higher.2⟩
      next => exact absurd selected stays
    next => exact absurd selected stays

theorem pushNotice_ok {o : Nat} (ok : s.air.Ok) (may : MayPush o s) (below : (slotAt o s).cls.code < (slotAt n s).cls.code) :
    (pushNotice o n s).air.Ok := by
  obtain ⟨above, boundary, -⟩ := may
  have free : s.air.Free o := by
    rcases boundary with state | state <;> exact (loose_of_state ok state (by decide)).free
  rw [pushNotice_air]
  refine ok.push free ?_ ?_ ?_
  · refine Air.inside_of_state ?_
    rw [air_state]
    rcases boundary with state | state <;> simp [state]
  · intro e top
    simp only [State.air, List.getLast?_map, Option.map_eq_some_iff] at top
    obtain ⟨top, last, rfl⟩ := top
    exact above top last
  · intro alarm
    rw [alarm] at below
    revert below
    cases (slotAt n s).cls <;> simp [NoticeClass.code]

theorem sendSegment_ok {pushed : Option Nat} (ok : s.air.Ok) (closed : s.link.window = none)
    (selected : selectNotice s = some (n, pushed)) : (sendSegment n pushed s).air.Ok := by
  obtain ⟨waits, other⟩ := selectNotice_inside selected
  have pushedOk : (pushedFor n pushed s).air.Ok := by
    cases pushed with
    | none => exact ok
    | some o =>
      obtain ⟨may, below⟩ := selectNotice_pushed selected
      exact pushNotice_ok ok may below
  have state : (slotAt n (pushedFor n pushed s)).state = .waiting := by rw [pushedFor_slot other]; exact waits
  have loose := loose_of_state pushedOk state (by decide)
  have link : (pushedFor n pushed s).link = s.link := by cases pushed <;> rfl
  have started : (startSlot n (pushedFor n pushed s)).air.Ok := by
    rw [startSlot_air]; exact (loose.set (by decide)).ok
  have inside : n < (pushedFor n pushed s).air.slots.length :=
    Air.inside_of_state (by rw [air_state, state]; decide)
  show ({ (startSlot n (pushedFor n pushed s)).air with sent := some (.segment n) } : Air).Ok
  refine started.send ?_ fun m same => ?_
  · rw [startSlot_air]
    show (pushedFor n pushed s).link.window.map _ = none
    rw [link, closed]; rfl
  · cases same
    rw [startSlot_air, Air.state_set, if_pos ⟨rfl, inside⟩]

theorem takeOpportunity_ok (ok : s.air.Ok) (stands : opportunity s = true) : (takeOpportunity s).air.Ok := by
  simp only [opportunity, Bool.and_eq_true, beq_iff_eq, Option.isNone_iff_eq_none, and_assoc] at stands
  obtain ⟨-, -, -, -, closed, -⟩ := stands
  have window : s.air.awaited = none := by simp [State.air, closed]
  unfold takeOpportunity
  split
  · refine ite_ok ?_ ok
    show ({ s.air with sent := some .probe } : Air).Ok
    exact ok.send window nofun
  · split
    next r _ _ =>
      show ({ s.air with sent := some (.reply r) } : Air).Ok
      exact ok.send window nofun
    · split
      · exact ok
      next n pushed selected => exact sendSegment_ok ok closed selected

theorem openWindow_ok {o : AirOrigin} {tag index : Nat} (ok : s.air.Ok) (idle : s.link.tx = .idle)
    (state : ∀ n, o = .segment n → (slotAt n s).state = .awaitAck) : (openWindow o tag index s).air.Ok := by
  show ({ s.air with awaited := some o } : Air).Ok
  exact ok.await (by simp [State.air, idle, Transmitter.carries]) fun n same => by rw [air_state]; exact state n same

theorem endOfAir_ok {o : AirOrigin} (ok : s.air.Ok) (carried : s.link.tx.carries = some o) : (endOfAir o s).air.Ok := by
  have idle : (s.onLink fun l => { l with tx := .idle }).air.Ok := ok.less rfl rfl (.inr rfl) (.inl rfl)
  unfold endOfAir; dsimp only
  cases o with
  | segment n =>
    have state : s.air.state n = .sending := ok.sending n carried
    have loose : (s.onLink fun l => { l with tx := .idle }).air.Loose n := by
      refine ⟨idle, fun kept => absurd (state.symm.trans kept) (by decide), nofun, fun awaited => ?_⟩
      exact absurd (state.symm.trans (ok.awaiting n awaited)) (by decide)
    dsimp only
    refine ite_ok (abortSlot_loose loose).ok (openWindow_ok (onSlot_loose (st := .awaitAck) rfl (by decide) loose).ok rfl ?_)
    intro m same
    cases same
    rw [slotAt_onSlot]
    rw [air_state] at state
    exact slot_inside (s := s) (by rw [state]; decide)
  | probe => exact openWindow_ok idle rfl nofun
  | reply r => exact ok_of (onLink_air rfl rfl) idle

/-! ### Aborts (R145) -/

/-- A PREEMPTED slot that has left the stack. -/
theorem removeEntryOf_loose {st : SlotState} (ok : s.air.Ok) (state : (slotAt n s).state = .preempted) (quiet : st ≠ .preempted) :
    ((removeEntryOf n s).air.set n st).Loose n := by
  obtain ⟨e, mem, slot⟩ := (ok.preempted n).1 ((air_state n s).trans state)
  obtain ⟨entry, member, rfl⟩ := List.mem_map.1 mem
  cases place : s.nt.stack.findIdx? fun e => e.slot == n with
  | none => exact absurd slot (by simpa using List.findIdx?_eq_none_iff.1 place entry member)
  | some i =>
    obtain ⟨inside, named, -⟩ := List.findIdx?_eq_some_iff_getElem.1 place
    have named : (s.nt.stack[i]).slot = n := by simpa using named
    have dropped : (removeEntryOf n s).air = s.air.drop i := by
      unfold removeEntryOf
      rw [place]
      dsimp only
      rw [List.getElem?_eq_getElem inside]
      cases i with
      | zero => exact dropEntry_air ..
      | succ j => exact (setPreempting_air ..).trans (dropEntry_air ..)
    rw [dropped]
    refine ok.pop (c := (s.nt.stack[i]).cls) ?_ quiet
    simp [State.air, inside, named]

theorem closeWindowOf_loose (ok : s.air.Ok) (state : (slotAt n s).state = .awaitAck) : (closeWindowOf n s).air.Loose n := by
  rw [← air_state] at state
  have awaited : (closeWindowOf n s).air.awaited = s.air.awaited ∨ (closeWindowOf n s).air.awaited = none := by
    simp only [State.air, closeWindowOf, State.onLink_link]
    cases s.link.window with
    | none => exact .inl rfl
    | some w => by_cases same : w.origin = .segment n <;> simp [same]
  refine ⟨ok.less rfl rfl (.inl rfl) awaited, fun kept => absurd (state.symm.trans kept) (by decide), fun sent => ?_, ?_⟩
  · exact absurd (state.symm.trans (ok.sending n sent)) (by decide)
  · simp only [State.air, closeWindowOf, State.onLink_link]
    cases s.link.window with
    | none => simp
    | some w => by_cases same : w.origin = .segment n <;> simp [same]

theorem abortEffect_ok (ok : s.air.Ok) : (abortEffect n s).air.Ok := by
  unfold abortEffect
  split
  next state => exact (abortSlot_loose (loose_of_state ok state (by decide))).ok
  next state => exact (abortSlot_loose (loose_of_state ok state (by decide))).ok
  next state => exact (abortSlot_loose (loose_of_state ok state (by decide))).ok
  next state => exact (abortSlot_loose (loose_of_state ok state (by decide))).ok
  next state => exact (finishSlot_loose (removeEntryOf_loose ok state (by decide))).ok
  next => exact ok_of (onSlot_air_same (by intro; rfl) s) ok
  next state => exact (abortSlot_loose (closeWindowOf_loose ok state)).ok
  all_goals exact ok

end Sys2Proof.Machine
end

section
/-! The Detector, the Discipline Unit and the Power Controller keep the air in order: they ask for notices, and turn RADIO off. -/

namespace Sys2Proof.Machine

variable {s : State}

/-! ### The Detector -/

theorem closeIfDone_ok {x : Time} {frame : Nat} (ok : s.air.Ok) : (closeIfDone x frame s).air.Ok := by
  unfold closeIfDone
  repeat' split
  · exact ok
  · exact ok
  · exact quakeNotice_ok ok
  · exact ok

theorem afterChannelChange_ok (ok : s.air.Ok) : (afterChannelChange s).air.Ok :=
  ok_of (formQuiet_air _) (closeIfDone_ok (ok_of (handUpdate_air s) ok))

theorem declareEvent_ok {f : Frame} {first : Nat} (ok : s.air.Ok) : (declareEvent f first s).air.Ok := by
  cases room : roomForRecord s with
  | none =>
    rw [declareEvent_lost room]
    exact ite_ok ok ok
  | some left =>
    rw [declareEvent_placed room]
    have asked : (requestNotice (declareAsk f first s) (placedIn left f first s)).1.air.Ok := requestNotice_ok ok
    unfold requestsOf
    exact ite_ok (ok_of (holdRequest_air ..) asked) asked

theorem classRise_ok {old : Nat} (ok : s.air.Ok) : (classRise old s).air.Ok := by
  have strong : (if 2 ≤ s.det.cls then strongRequests s else s).air.Ok := ite_ok (ok_of (strongRequests_air s) ok) ok
  unfold classRise; dsimp only
  refine ite_ok ?_ ok
  split
  · exact strong
  · exact strong
  · exact ite_ok (escalate_ok strong) strong

theorem voteAndUpdate_ok {f : Frame} {joiners : List Nat} (ok : s.air.Ok) : (voteAndUpdate f joiners s).air.Ok := by
  unfold voteAndUpdate; dsimp only
  split
  · split
    · exact ok
    · exact ite_ok (declareEvent_ok ok) ok
  · exact classRise_ok (ok_of (handUpdate_air _) ok)
  · exact classRise_ok ok

theorem workFrame_ok {f : Frame} (ok : s.air.Ok) : (workFrame f s).air.Ok := by
  unfold workFrame; dsimp only
  refine ok_of (formQuiet_air _) (closeIfDone_ok (voteAndUpdate_ok ?_))
  split <;> exact ok

theorem takeFrame_ok (ok : s.air.Ok) : (takeFrame s).air.Ok := by
  unfold takeFrame
  split
  · exact ok
  · exact workFrame_ok ok

theorem detectorLevel_ok {old new : Option Level} (ok : s.air.Ok) : (detectorLevel old new s).air.Ok := by
  unfold detectorLevel
  exact ite_ok (afterChannelChange_ok ok) (ite_ok ok ok)

theorem sensorOff_ok (ok : s.air.Ok) : (sensorOff s).air.Ok := by
  unfold sensorOff detectorSensorOff
  exact afterChannelChange_ok ok

theorem changeRate_ok {rate : SampleRate} (ok : s.air.Ok) : (changeRate rate s).air.Ok := by
  unfold changeRate detectorRateChange; dsimp only
  refine afterChannelChange_ok ?_
  rw [State.onDet_air]
  exact ite_ok ok ok

/-! ### Time and discipline -/

theorem changeTimeState_ok {new : TimeState} {conflict : Bool} (ok : s.air.Ok) :
    (changeTimeState new conflict s).air.Ok := by
  by_cases same : s.tb.state = new
  · rw [changeTimeState_same same]; exact ok
  · rw [changeTimeState_changes same]
    exact ite_ok (timeNotice_ok ok) ok

theorem moveLockRun_ok {p : Int} (ok : s.air.Ok) : (moveLockRun p s).air.Ok := by
  unfold moveLockRun
  exact ite_ok (changeTimeState_ok ok) ok

theorem moveUnlockRun_ok {p : Int} (ok : s.air.Ok) : (moveUnlockRun p s).air.Ok := by
  unfold moveUnlockRun
  exact ite_ok (changeTimeState_ok ok) ok

theorem validPps_ok {x : Time} (ok : s.air.Ok) : (validPps x s).air.Ok := by
  have judged {p : Int} : (steerAndJudge p (recordPps x s)).air.Ok := ok_of (steerAndJudge_air ..) ok
  unfold validPps; dsimp only
  split
  · exact ok
  · exact moveLockRun_ok judged
  · exact ok_of (learnBin_air _) (moveUnlockRun_ok judged)
  · exact ok
  · exact ok

theorem qualifyPps_ok {x : Time} (ok : s.air.Ok) : (qualifyPps x s).air.Ok := by
  unfold qualifyPps
  repeat' split
  · exact ok
  · exact validPps_ok ok
  · exact ok

theorem loseState_ok (ok : s.air.Ok) : (loseState s).air.Ok := by
  unfold loseState; dsimp only
  split
  · exact changeTimeState_ok (ok_of (setUncertainty_air ..) ok)
  · exact changeTimeState_ok ok
  all_goals exact ok

theorem becomeAbsent_ok (ok : s.air.Ok) : (becomeAbsent s).air.Ok := loseState_ok ok

theorem gnssOff_ok (ok : s.air.Ok) : (gnssOff s).air.Ok := by
  unfold gnssOff; dsimp only
  exact ite_ok (becomeAbsent_ok ok) ok

theorem returnToAcquiring_ok (ok : s.air.Ok) : (returnToAcquiring s).air.Ok := by
  unfold returnToAcquiring; dsimp only
  split
  · exact changeTimeState_ok ok
  · exact ok_of (steerAndJudge_air ..) (changeTimeState_ok ok)

theorem labelAgrees_ok (ok : s.air.Ok) : (labelAgrees s).air.Ok := by
  unfold labelAgrees; dsimp only
  split
  · exact returnToAcquiring_ok ok
  · exact returnToAcquiring_ok ok
  all_goals exact ok

@[simp] theorem conflictStep_air (n : Nat) (s : State) : (conflictStep n s).air = s.air := forwardStep_air n s

theorem labelConflict_ok {label r : Nat} (ok : s.air.Ok) : (labelConflict label r s).air.Ok := by
  have asked : (timeNotice true (s.onDisc fun d => { d with conflicts := 0 })).air.Ok := timeNotice_ok ok
  by_cases ahead : r < label
  · rw [labelConflict_ahead ahead]
    have agreed := labelAgrees_ok (ok_of (conflictStep_air ((label - r) * perSecond) _) asked)
    exact ite_ok (changeTimeState_ok agreed) agreed
  · rw [labelConflict_behind ahead]
    exact changeTimeState_ok (conflict := true) asked

theorem compareLabel_ok {label : Nat} {m : MatchedPps} (ok : s.air.Ok) : (compareLabel label m s).air.Ok := by
  unfold compareLabel; dsimp only
  repeat' split
  · exact labelAgrees_ok ok
  · exact ok
  · exact labelConflict_ok ok
  · exact ok

theorem setFromLabel_ok {label : Nat} {m : MatchedPps} (ok : s.air.Ok) : (setFromLabel label m s).air.Ok := by
  unfold setFromLabel; dsimp only
  refine changeTimeState_ok ?_
  rw [setUncertainty_air, State.onTb_air, State.onDisc_air]
  exact ok_of (ite_air (forwardStep_air ..) (backwardSet_air ..)) ok

theorem completeLabel_ok {label : List Byte} (ok : s.air.Ok) : (completeLabel label s).air.Ok := by
  unfold completeLabel matchLabel; dsimp only
  repeat' split
  all_goals first
    | exact ok
    | exact setFromLabel_ok ok
    | exact compareLabel_ok ok

theorem labelByte_ok {b : Byte} (ok : s.air.Ok) : (labelByte b s).air.Ok := by
  unfold labelByte
  exact ite_ok (ite_ok ok ok) (ite_ok ok (completeLabel_ok ok))

theorem holdoverSecond_ok (ok : s.air.Ok) : (holdoverSecond s).air.Ok := by
  have grown (n : Nat) : (setUncertainty n s).air.Ok := ok_of (setUncertainty_air ..) ok
  unfold holdoverSecond
  exact ite_ok (changeTimeState_ok (grown _)) (grown _)

theorem disciplineSecondWork_ok (ok : s.air.Ok) : (disciplineSecondWork s).air.Ok := by
  unfold disciplineSecondWork
  exact ite_ok (holdoverSecond_ok ok) ok

/-! ### Power and loads -/

theorem reportToWatchers_ok {old : Option Level} {new : Level} (ok : s.air.Ok) : (reportToWatchers old new s).air.Ok := by
  unfold reportToWatchers; dsimp only
  split
  · exact ok_of (formCaps_air _) (detectorLevel_ok (s := s) ok)
  · exact detectorLevel_ok (ok_of (formCaps_air _) ok)

theorem reportLevel_ok {old : Option Level} {new : Level} (ok : s.air.Ok) : (reportLevel old new s).air.Ok := by
  have told : (linkLevel (disciplineLevel (some new) s)).air = s.air := (linkLevel_air _).trans (disciplineLevel_air ..)
  have begun : (if old.isNone then startHeaters (linkLevel (disciplineLevel (some new) s)) else
      linkLevel (disciplineLevel (some new) s)).air.Ok := ok_of (ite_air told told) ok
  unfold reportLevel
  exact ite_ok (reportToWatchers_ok begun) (reportToWatchers_ok begun)

theorem entryNotice_ok {new : Level} (ok : s.air.Ok) : (entryNotice new s).air.Ok := by
  unfold entryNotice
  split
  · exact powerNotice_ok ok
  · exact powerNotice_ok ok
  all_goals exact ok

theorem changeLevel_ok {new : Level} {begun : Bool} (ok : s.air.Ok) : (changeLevel new begun s).air.Ok := by
  have told {f : Power → Power} {old : Option Level} :
      (notifyAll .levelChanged (reportLevel old new (if old.isNone then formStanding (s.onPw f) else s.onPw f))).air.Ok :=
    reportLevel_ok (ok_of (ite_air (formStanding_air _) rfl) ok)
  unfold changeLevel
  exact ite_ok ok (ite_ok (entryNotice_ok told) told)

theorem enterDormant_ok (ok : s.air.Ok) : (enterDormant s).air.Ok :=
  ok_of (automaticSave_air _) (changeLevel_ok ok)

theorem startLastGasp_ok (ok : s.air.Ok) : (startLastGasp s).air.Ok := by
  have begins {x : State} {n : Nat} (ok : x.air.Ok) : (beginGasp n x).air.Ok := changeLevel_ok ok
  unfold startLastGasp; dsimp only
  repeat' split
  · exact begins ok
  · exact enterDormant_ok (requestNotice_ok ok)
  · exact begins (requestNotice_ok ok)

theorem tellOff_ok {l : Load} (ok : s.air.Ok) : (tellOff l s).air.Ok := by
  cases l with
  | sensor => exact sensorOff_ok ok
  | gnss => exact gnssOff_ok ok
  | recorder => exact ok
  | telemetry => exact ok
  | radio => exact radioCut_ok ok
  | aux => exact ok

theorem formLoad_ok {l : Load} (ok : s.air.Ok) : (formLoad l s).air.Ok := by
  have on : (turnOn l s).air.Ok := ok_of (tellOn_air ..) ok
  have off : (turnOff l s).air.Ok := tellOff_ok ok
  unfold formLoad; dsimp only
  repeat' split
  all_goals first | exact ok | exact on | exact off

theorem settleRound_ok (ok : s.air.Ok) : (settleRound s).air.Ok := by
  have gasped : (endGasp s).air.Ok := by
    unfold endGasp
    exact ite_ok (enterDormant_ok ok) ok
  rw [settleRound_eq]
  exact formLoad_ok (formLoad_ok (formLoad_ok (formLoad_ok (formLoad_ok (formLoad_ok gasped)))))

theorem settle_ok (ok : s.air.Ok) : (settle s).air.Ok :=
  ok_of (countEnergyHolds_air _) (settleRound_ok (settleRound_ok (settleRound_ok (settleRound_ok ok))))

theorem levelSecond_ok (ok : s.air.Ok) : (levelSecond s).air.Ok := by
  unfold levelSecond
  repeat' split
  all_goals first | exact ok | exact changeLevel_ok ok

theorem accountingWork_ok {r : Readings} (ok : s.air.Ok) : (accountingWork r s).air.Ok := by
  unfold accountingWork; dsimp only
  refine settle_ok (levelSecond_ok (ok_of (tellHeater_air _) ?_))
  exact ite_ok (powerNotice_ok ok) ok

theorem setCeilingTo_ok {l : Level} (ok : s.air.Ok) : (setCeilingTo l s).air.Ok := by
  unfold setCeilingTo; dsimp only
  repeat' split
  all_goals first | exact ok | exact changeLevel_ok ok

end Sys2Proof.Machine
end

section
/-! How events and requests keep the air in order, and what each command's effect makes of it (R187). -/

namespace Sys2Proof.Machine

variable {s t x : State}

/-! ### Events and requests -/

theorem event_ok {due : State → Bool} {effect : State → State} (h : takeEvent due effect s = .next t) (ok : s.air.Ok)
    (acts : due s = true → (effect s).air.Ok) : t.air.Ok := by
  rw [takeEvent_next] at h
  cases h
  split
  next taken => exact acts (Bool.and_eq_true_iff.1 taken).2
  next => exact ok

@[simp] theorem finishReply_air (p : Port) (tag : Byte) (a : Answer) : (finishReply p tag a).air = a.after.air := by
  unfold finishReply
  split
  · rfl
  · split <;> rfl

theorem request_ok {p : Port} {tag : Byte} {right : Right} {run : State → Answer} (h : request p tag right run s = .next t)
    (ok : s.air.Ok) (acts : ∀ x : State, x.air.Ok → (run x).after.air.Ok) : t.air.Ok := by
  obtain ⟨u, e, rfl | ⟨f, rfl⟩ | rfl⟩ := request_next p tag right run s <;> cases e.symm.trans h
  · exact ok
  · exact ok
  · rw [finishReply_air]; exact acts _ ok

theorem frameEvent_ok {bytes : List Byte} {found : State → Option HeardFrame} {effect : HeardFrame → State → State}
    (h : frameEvent bytes found effect s = .next t) (ok : s.air.Ok)
    (acts : ∀ f {x : State}, x.air.Ok → (effect f x).air.Ok) : t.air.Ok := by
  refine event_ok h ok fun _ => ?_
  split
  · exact ok
  · exact settle_ok (goodFrame_ok (acts _) ok)

/-! ### The answers of the commands -/

theorem taken_ok {data : List Byte} (ok : x.air.Ok) : (taken data x).after.air.Ok := ok

theorem answer_ok {c : Prop} [Decidable c] {a b : Answer} (ha : a.after.air.Ok) (hb : b.after.air.Ok) :
    (if c then a else b).after.air.Ok := by split <;> assumption

theorem withoutArgs_ok {args : List Byte} {run : State → Answer} (acts : x.air.Ok → (run x).after.air.Ok) (ok : x.air.Ok) :
    (withoutArgs args run x).after.air.Ok := answer_ok (acts ok) ok

theorem readBack_ok (data : Option (List Byte)) (ok : x.air.Ok) : (readBack data x).after.air.Ok := by
  unfold readBack
  split <;> exact ok

section
variable {p : Port} {args : List Byte}

theorem runSetRights_ok (ok : x.air.Ok) : (runSetRights args x).after.air.Ok := by
  unfold runSetRights; dsimp only
  repeat' split
  all_goals exact ok

theorem runSetTime_ok (ok : x.air.Ok) : (runSetTime args x).after.air.Ok := by
  unfold runSetTime; dsimp only
  repeat' split
  · exact ok
  · exact ok
  · exact ok
  · exact taken_ok (settle_ok (changeTimeState_ok (ok_of ((setUncertainty_air ..).trans (forwardStep_air ..)) ok)))

theorem runResetTime_ok (ok : x.air.Ok) : (runResetTime x).after.air.Ok :=
  taken_ok (settle_ok (changeTimeState_ok (ok_of (setUncertainty_air ..) ok)))

theorem runGetDetectorChannel_ok (ok : x.air.Ok) : (runGetDetectorChannel args x).after.air.Ok := answer_ok ok ok

theorem runGetMarker_ok (ok : x.air.Ok) : (runGetMarker x).after.air.Ok := by
  unfold runGetMarker
  split <;> exact ok

theorem runSetDiscipline_ok (ok : x.air.Ok) : (runSetDiscipline args x).after.air.Ok := by
  unfold runSetDiscipline
  exact answer_ok (taken_ok (settle_ok ok)) ok

theorem runSetDetectorChannel_ok (ok : x.air.Ok) : (runSetDetectorChannel args x).after.air.Ok := by
  unfold runSetDetectorChannel
  exact answer_ok (taken_ok (settle_ok (afterChannelChange_ok ok))) ok

theorem runSetDetector_ok (ok : x.air.Ok) : (runSetDetector args x).after.air.Ok := by
  unfold runSetDetector
  split
  · exact ok
  · exact taken_ok (settle_ok (ite_ok ok (changeRate_ok ok)))

theorem runGetEvent_ok (ok : x.air.Ok) : (runGetEvent args x).after.air.Ok := by
  unfold runGetEvent
  repeat' split
  all_goals exact ok

theorem runSetLink_ok (ok : x.air.Ok) : (runSetLink args x).after.air.Ok := by
  have written : (x.onLink fun l => { l with cfg := linkCfgOf args }).air.Ok := ok
  have closed {c : Prop} [Decidable c] := ite_ok (c := c) (settleWindow_ok (ok_of (closeReception_air _) written)) written
  unfold runSetLink; dsimp only
  exact answer_ok (taken_ok (settle_ok (ite_ok (ok_of (listenFired_air _) closed) closed))) ok

/-- A slot given to QUEUE_NOTICE is free. -/
theorem slotForQueue_loose {named : Nat} {cls : NoticeClass} (ok : x.air.Ok) :
    (slotForQueue named cls x).1.air.Ok ∧
      ∀ n, (slotForQueue named cls x).2.1 = some n → (slotForQueue named cls x).1.air.Loose n := by
  unfold slotForQueue
  split
  · exact obtainSlot_loose ok
  · split
    next empty => exact ⟨ok, fun n same => by cases same; exact loose_of_state ok empty (by decide)⟩
    next => exact ⟨ok, nofun⟩

theorem runQueueNotice_ok (ok : x.air.Ok) : (runQueueNotice p args x).after.air.Ok := by
  unfold runQueueNotice; dsimp only
  split
  · exact ok
  next cls _ =>
    refine answer_ok ok ?_
    obtain ⟨-, given⟩ := slotForQueue_loose (named := natAt args 0 1) (cls := cls) ok
    split
    · exact ok
    next n got =>
      have filled := onSlot_loose (st := .held) (f := fun _ => { Slot.clear with
        state := .held, kind := .text, cls := cls, origin := .port p, preemptible := (natAt args 2 1).testBit 0,
        payload := some (args.drop 3) }) rfl (by decide) (given n got)
      exact taken_ok (settle_ok (ite_ok filled.ok (waitWithTag_ok filled)))

theorem heldSlot_ok {n : Nat} (held : heldSlot p n x = .ok) : (slotAt n x).state = .held := by
  unfold heldSlot at held
  dsimp only at held
  by_contra other
  simp only [other, ne_eq, not_false_eq_true, if_true] at held
  repeat' split at held
  all_goals cases held

theorem runAppendNotice_ok (ok : x.air.Ok) : (runAppendNotice p args x).after.air.Ok := by
  unfold runAppendNotice; dsimp only
  exact answer_ok ok (answer_ok ok (answer_ok ok (ok_of (onSlot_air_same (by intro; rfl) x) ok)))

theorem runReleaseNotice_ok (ok : x.air.Ok) : (runReleaseNotice p args x).after.air.Ok := by
  unfold runReleaseNotice; dsimp only
  refine answer_ok ok ?_
  split
  · exact ok
  next held => exact taken_ok (settle_ok (waitWithTag_ok (loose_of_state ok (heldSlot_ok (not_not.1 held)) (by decide))))

theorem runAbortNotice_ok (ok : x.air.Ok) : (runAbortNotice p args x).after.air.Ok := by
  unfold runAbortNotice; dsimp only
  exact answer_ok ok (answer_ok ok (answer_ok ok (taken_ok (settle_ok (abortEffect_ok ok)))))

theorem runFreeSlot_ok (ok : x.air.Ok) : (runFreeSlot p args x).after.air.Ok := by
  unfold runFreeSlot; dsimp only
  refine answer_ok ok (answer_ok ok (answer_ok ok ?_))
  split
  next state =>
    have loose : x.air.Loose (natOf args) := by
      refine loose_of_state ok rfl ?_
      rcases state with held | final
      · rw [held]; decide
      · revert final
        cases (slotAt (natOf args) x).state <;> decide
    have emptied : (emptySlot (natOf args) x).air.Ok := by rw [emptySlot_air]; exact (loose.set (by decide)).ok
    exact taken_ok (settle_ok emptied)
  next => exact ok

theorem runSetResponder_ok (ok : x.air.Ok) : (runSetResponder p args x).after.air.Ok := by
  have armed {kind : NoticeKind} {payload : Option (List Byte)} {cls : NoticeClass}
      (loose : x.air.Loose (natAt args 0 1)) :
      (settle (onSlot (natAt args 0 1) (armSlot p kind payload cls args) x)).air.Ok :=
    settle_ok (onSlot_loose (st := .armed) rfl (by decide) loose).ok
  unfold runSetResponder; dsimp only
  repeat' split
  · exact ok
  next empty => exact taken_ok (armed (loose_of_state ok empty (by decide)))
  · exact ok
  next state => exact taken_ok (armed (loose_of_state ok state (by decide)))
  all_goals exact ok

theorem runSetCeiling_ok (ok : x.air.Ok) : (runSetCeiling args x).after.air.Ok := by
  unfold runSetCeiling
  split
  · exact ok
  · exact taken_ok (settle_ok (setCeilingTo_ok ok))

theorem runRequestLoad_ok (ok : x.air.Ok) : (runRequestLoad p args x).after.air.Ok := by
  unfold runRequestLoad; dsimp only
  split
  · exact ok
  · exact taken_ok (settle_ok ok)

theorem runReleaseLoad_ok (ok : x.air.Ok) : (runReleaseLoad p args x).after.air.Ok := by
  unfold runReleaseLoad
  split
  · exact ok
  · exact taken_ok (settle_ok ok)

theorem runSetPower_ok (ok : x.air.Ok) : (runSetPower args x).after.air.Ok := by
  unfold runSetPower; dsimp only
  exact answer_ok (taken_ok (settle_ok (ite_ok (ok_of (formStanding_air _) ok) ok))) ok

theorem runSetHeater_ok (ok : x.air.Ok) : (runSetHeater args x).after.air.Ok := by
  unfold runSetHeater; dsimp only
  split
  · exact ok
  · exact ok_of (applyLimit_air ..) ok

end

/-! ### Remote commands, missed seconds and resets -/

@[simp] theorem missSecond_air (s : State) : (missSecond s).air = s.air := State.onDisc_air ..

theorem remoteStatusEffect_ok (f : HeardFrame) (ok : s.air.Ok) : (remoteStatusEffect f s).air.Ok := by
  unfold remoteStatusEffect
  exact ite_ok (ok_of (disabledCommand_air ..) ok) (ok_of (queueReply_air ..) (requestNotice_ok ok))

theorem remoteCeilingEffect_ok (f : HeardFrame) (ok : s.air.Ok) : (remoteCeilingEffect f s).air.Ok := by
  unfold remoteCeilingEffect
  refine ite_ok (ok_of (disabledCommand_air ..) ok) ?_
  split
  · exact ok_of (queueReply_air ..) ok
  · exact ok_of (queueReply_air ..) (setCeilingTo_ok ok)

theorem remoteWakeEffect_air (f : HeardFrame) (s : State) : (remoteWakeEffect f s).air = s.air := by
  unfold remoteWakeEffect
  refine ite_air (disabledCommand_air ..) ?_
  split <;> exact queueReply_air ..

theorem remoteQuietEffect_air (f : HeardFrame) (s : State) : (remoteQuietEffect f s).air = s.air := by
  unfold remoteQuietEffect
  exact ite_air (disabledCommand_air ..) (queueReply_air ..)

/-- Twelve EMPTY slots with nothing on air. -/
def Air.clear : Air := ⟨List.replicate 12 .empty, [], none, none⟩

theorem Air.clear_ok : Air.clear.Ok := by
  have empty (n : Nat) : Air.clear.state n = .empty := by
    simp only [Air.state, Air.clear, List.getD_eq_getElem?_getD, List.getElem?_replicate]
    split <;> rfl
  refine ⟨rfl, .nil, nofun, fun n => ?_, nofun, nofun, fun _ => rfl⟩
  rw [empty]
  exact iff_of_false (by decide) (by simp [Air.clear])

theorem coldReset_ok (cause : ColdCause) (s : State) : (coldReset cause s).air.Ok := Air.clear_ok

theorem restoreImage_air (im : Image) (s : State) : (restoreImage im s).air = s.air := by
  unfold State.air restoreImage; rfl

theorem releaseReset_air (s : State) : (releaseReset s).air = s.air := by
  unfold releaseReset
  rw [State.onPace_air]
  split
  · rfl
  · exact restoreImage_air ..

theorem warmBlocks_air (s : State) : (warmBlocks s).air = Air.clear := rfl

theorem warmReset_ok (s : State) : (warmReset s).air.Ok :=
  settle_ok (ok_of (reportQuiet_air ..) (warmBlocks_air s ▸ Air.clear_ok))

theorem runResetPart_ok (p : Port) (tag : Byte) (s : State) : (runResetPart p tag s).after.air.Ok :=
  ok_of (State.onPort_air ..) (warmReset_ok s)

end Sys2Proof.Machine
end

section
/-! The preemption stack, the transmitter and the window at every step (R139, R140, R144). -/

namespace Sys2Proof.Machine

variable {s t : State}

/-! ### What ends by itself -/

theorem leadOver_carries {frame : List Byte} {o : AirOrigin} {rate : Nat} (ended : leadOver s = some (frame, o, rate)) :
    s.link.tx.carries = some o := by
  unfold leadOver at ended
  split at ended
  next tx =>
    rw [tx]
    split at ended <;> cases ended
    rfl
  all_goals cases ended

theorem airOver_carries {o : AirOrigin} (ended : airOver s = some o) : s.link.tx.carries = some o := by
  unfold airOver at ended
  split at ended
  next tx =>
    rw [tx]
    split at ended <;> cases ended
    rfl
  all_goals cases ended

theorem windowDueNow_window {w : AckWindow} (due : windowDueNow s = some w) : s.link.window = some w := by
  unfold windowDueNow at due
  split at due
  · cases due
  next window =>
    rw [window]
    split at due <;> cases due
    rfl

/-! ### Every command -/

/-- Every command keeps the air in order. -/
theorem exec_air {c : Instr} (ok : s.air.Ok) (h : exec c s = .next t) : t.air.Ok := by
  cases c
  all_goals dsimp only [exec] at h
  case coldReset cause => cases h; exact coldReset_ok cause s
  case resetRelease =>
    have released : (if s.pace.held then .next (releaseReset s) else .next s) = Host.Outcome.next t := h
    split at released <;> cases released
    · exact ok_of (releaseReset_air s) ok
    · exact ok
  case accountingSecond => exact event_ok h ok fun _ => accountingWork_ok ok
  case fullRecalibration => exact event_ok h ok fun _ => accountingWork_ok ok
  case emptyRecalibration => exact event_ok h ok fun _ => accountingWork_ok ok
  case lastGaspStart => exact event_ok h ok fun _ => settle_ok (startLastGasp_ok ok)
  case lastGaspTimeout => exact event_ok h ok fun _ => settle_ok (enterDormant_ok ok)
  case dormantRestart => exact event_ok h ok fun _ => settle_ok (changeLevel_ok ok)
  case loadRequestExpiry => exact event_ok h ok fun _ => settle_ok (ite_ok ok ok)
  case minOffReached => exact event_ok h ok fun _ => settle_ok ok
  case disciplineSecond => exact event_ok h ok fun _ => settle_ok (disciplineSecondWork_ok ok)
  case refreshRepeat => exact event_ok h ok fun _ => settle_ok ok
  case gnssWindowOpen => exact event_ok h ok fun _ => settle_ok ok
  case ppsCapture => exact event_ok h ok fun _ => settle_ok (qualifyPps_ok ok)
  case ppsLoss => exact event_ok h ok fun _ => settle_ok (becomeAbsent_ok ok)
  case labelReceived => exact event_ok h ok fun _ => settle_ok (labelByte_ok ok)
  case labelByteReceived => exact event_ok h ok fun _ => settle_ok (labelByte_ok ok)
  case compareMatch channel =>
    cases channel <;> dsimp only [execCompareMatch] at h
    · exact event_ok h ok fun _ => ok_of (strobeByCounting_air s) ok
    · exact event_ok h ok fun _ => settle_ok (ok_of (listenFired_air _) ok)
  case heaterBoundary => exact event_ok h ok fun _ => ok_of (boundaryFires_air ..) ok
  case heaterOffMatch =>
    refine event_ok h ok fun _ => ?_
    split
    · exact ok
    · exact ok_of (firingCallsFor_air ..) ok
  case heaterSecond =>
    refine event_ok h ok fun _ => ?_
    rw [computeHeater_air, computeHeater_air, testVault_air]
    exact ok
  case deferralLimitExpiry => exact event_ok h ok fun _ => ok_of (releaseAtLimit_air ..) ok
  case settleComplete => exact event_ok h ok fun _ => ok
  case frameReadComplete =>
    refine event_ok h ok fun _ => ?_
    split
    · exact ok
    · exact ok_of (storeFrame_air ..) ok
  case dataReadyDeadline =>
    refine event_ok h ok fun _ => ?_
    split
    · exact ok
    · exact ok_of (storeFrame_air ..) ok
  case detectorFrame => exact event_ok h ok fun _ => settle_ok (takeFrame_ok ok)
  case durationLimit => exact event_ok h ok fun _ => settle_ok (takeFrame_ok ok)
  case warmupEnd => exact event_ok h ok fun _ => settle_ok (takeFrame_ok ok)
  case holdoffEnd => exact event_ok h ok fun _ => settle_ok (takeFrame_ok ok)
  case radioWarm => exact event_ok h ok fun _ => settle_ok ok
  case transmitOpportunity => exact event_ok h ok fun stands => settle_ok (takeOpportunity_ok ok stands)
  case keyUpLeadEnd =>
    refine event_ok h ok fun _ => ?_
    split
    · exact ok
    next frame o rate ended => exact ok_of (s := s) (by rw [State.air, State.air, leadOver_carries ended]; rfl) ok
  case endOfAir =>
    refine event_ok h ok fun _ => ?_
    split
    · exact ok
    next o ended =>
      exact settle_ok (endOfAir_ok ok (airOver_carries ended))
  case ackWindowEnd =>
    refine event_ok h ok fun _ => ?_
    split
    · exact ok
    next w due =>
      exact settle_ok (windowEnds_ok ok (windowDueNow_window due))
  case startOfFrameCapture => exact event_ok h ok fun _ => settle_ok (startOfFrame_ok ok)
  case receptionTimeout => exact event_ok h ok fun _ => settle_ok (badFrame_ok ok)
  case badFrame => exact event_ok h ok fun _ => ite_ok (settle_ok (badFrame_ok ok)) ok
  case frameNotAccepted => exact frameEvent_ok h ok fun f _ ok => ok_of (onLink_air (by split <;> rfl) (by split <;> rfl)) ok
  case ackReceived => exact frameEvent_ok h ok fun _ _ => answerFrame_ok
  case nackReceived => exact frameEvent_ok h ok fun _ _ => answerFrame_ok
  case pollReceived => exact frameEvent_ok h ok fun _ _ => pollSlots_ok
  case pauseReceived => exact frameEvent_ok h ok fun _ _ ok => ok
  case remoteStatus => exact frameEvent_ok h ok fun f _ => remoteStatusEffect_ok f
  case remoteCeiling => exact frameEvent_ok h ok fun f _ => remoteCeilingEffect_ok f
  case remoteWake => exact frameEvent_ok h ok fun f _ => ok_of (remoteWakeEffect_air ..)
  case remoteQuiet => exact frameEvent_ok h ok fun f _ => ok_of (remoteQuietEffect_air ..)
  case remoteBadCommand => exact frameEvent_ok h ok fun _ _ => ok_of (queueReply_air ..)
  case restExpiry => exact event_ok h ok fun _ => settle_ok ok
  case pauseExpiry => exact event_ok h ok fun _ => settle_ok ok
  case quietExpiry => exact event_ok h ok fun _ => settle_ok ok
  case replyExpiry => exact event_ok h ok fun _ => settle_ok ok
  case backoffExpiry n =>
    refine event_ok h ok fun due => settle_ok (waitAgain_ok (loose_of_state (st := .backoff) ok ?_ (by decide)))
    simp only [backoffDue, Bool.and_eq_true, beq_iff_eq] at due
    exact due.1
  case saveComplete =>
    refine event_ok h ok fun _ => ?_
    split
    · exact ok
    · exact ok_of (endSave_air ..) ok
  case requestBadLengthOrCheck => exact event_ok h ok fun _ => ite_ok ok ok
  case setRights => exact request_ok h ok fun _ => runSetRights_ok
  case resetPart => exact request_ok h ok fun _ => withoutArgs_ok fun _ => runResetPart_ok ..
  case setTime => exact request_ok h ok fun _ => runSetTime_ok
  case resetTime => exact request_ok h ok fun _ => withoutArgs_ok runResetTime_ok
  case getChannel => exact request_ok h ok fun _ => readBack_ok _
  case getDetectorChannel => exact request_ok h ok fun _ => runGetDetectorChannel_ok
  case setDetector => exact request_ok h ok fun _ => runSetDetector_ok
  case setDetectorChannel => exact request_ok h ok fun _ => runSetDetectorChannel_ok
  case getEvent => exact request_ok h ok fun _ => runGetEvent_ok
  case setLink => exact request_ok h ok fun _ => runSetLink_ok
  case getSlot => exact request_ok h ok fun _ => readBack_ok _
  case queueNotice => exact request_ok h ok fun _ => runQueueNotice_ok
  case appendNotice => exact request_ok h ok fun _ => runAppendNotice_ok
  case releaseNotice => exact request_ok h ok fun _ => runReleaseNotice_ok
  case abortNotice => exact request_ok h ok fun _ => runAbortNotice_ok
  case freeSlot => exact request_ok h ok fun _ => runFreeSlot_ok
  case setResponder => exact request_ok h ok fun _ => runSetResponder_ok
  case getLoad => exact request_ok h ok fun _ => readBack_ok _
  case setCeiling => exact request_ok h ok fun _ => runSetCeiling_ok
  case requestLoad => exact request_ok h ok fun _ => runRequestLoad_ok
  case releaseLoad => exact request_ok h ok fun _ => runReleaseLoad_ok
  case setPower => exact request_ok h ok fun _ => runSetPower_ok
  case getHeater => exact request_ok h ok fun _ => readBack_ok _
  case setHeater => exact request_ok h ok fun _ => runSetHeater_ok
  case setDiscipline => exact request_ok h ok fun _ => runSetDiscipline_ok
  case setHeaterLimits => exact request_ok h ok fun _ ok => answer_ok (ok_of (formCaps_air _) ok) ok
  case oscillatorCycle => exact event_ok h ok fun _ => ok
  case missedSecond => exact event_ok h ok fun _ => ok_of (missSecond_air s) ok
  case dataReadyCapture => exact event_ok h ok fun _ => ok
  case markerCapture => exact event_ok h ok fun _ => ok
  case framingError => exact event_ok h ok fun _ => ok
  case replyRead => exact event_ok h ok fun _ => ok
  case unknownCommand => exact event_ok h ok fun _ => ok
  case setNotifyMask => exact request_ok h ok fun _ ok => answer_ok ok ok
  case getMarker => exact request_ok h ok fun _ => withoutArgs_ok runGetMarker_ok
  case readTempBins => exact request_ok h ok fun _ ok => answer_ok ok ok
  case loadTempBins => exact request_ok h ok fun _ ok => answer_ok ok ok
  case drainSamples => exact request_ok h ok fun _ ok => answer_ok ok ok
  case setAcquisition => exact request_ok h ok fun _ ok => answer_ok ok ok
  case ackEvents => exact request_ok h ok fun _ ok => answer_ok ok ok
  case setEventTable => exact request_ok h ok fun _ ok => answer_ok ok ok
  case setGroups => exact request_ok h ok fun _ ok => answer_ok ok ok
  case setNotices => exact request_ok h ok fun _ ok => answer_ok ok ok
  case saveSettings => exact request_ok h ok fun _ => withoutArgs_ok fun ok => answer_ok ok ok
  all_goals exact request_ok h ok fun _ => withoutArgs_ok fun ok => ok

/-- Settles O57: StackOk speaks of the air alone, and every command keeps that in order. -/
theorem stepsKeepTheStack : Obligations.StepsKeepTheStack := fun _ _ =>
  step_keeps (fun ok h => (stackOk_iff _).2 (exec_air ((stackOk_iff _).1 ok) h)) fun ok => ok

end Sys2Proof.Machine
end

section
/-! The outcome of an attempt at its slot and a POLL at the responders (R133, R141 to R143, R149). -/

namespace Sys2Proof.Machine

variable {s : State} {n : Nat}

/-! ### A slot that waits again (R138, R143) -/

theorem slotAt_waitAgain (inside : n < s.nt.slots.length) :
    slotAt n (waitAgain n s) = { slotAt n s with state := .waiting, view := .notWaiting } := by
  rw [slotAt_congr (waitAgain_nt ..), slotAt_onSlot inside]

/-! ### Outcomes (R141 to R143) -/

theorem slotAcked_next (inside : n < s.nt.slots.length) (more : (slotAt n s).nextSegment + 1 < (slotAt n s).segments) :
    slotAt n (slotAcked n s) = { slotAt n s with
      state := .waiting, view := .notWaiting, attempts := 0, nextSegment := (slotAt n s).nextSegment + 1 } := by
  rw [slotAcked, if_pos more, slotAt_waitAgain (by simpa [onSlot] using inside), slotAt_onSlot inside]

theorem slotAcked_last (last : (slotAt n s).segments ≤ (slotAt n s).nextSegment + 1) :
    slotAcked n s = endNotice n true (onSlot n (fun x => { x with attempts := 0 }) s) := by
  rw [slotAcked, if_neg (Nat.not_lt.2 last)]

theorem slotFailed_eq (n : Nat) (s : State) : slotFailed n s =
    let attempts := min 15 ((slotAt n s).attempts + 1)
    if s.nt.cfg.retryLimit (slotAt n s).cls ≤ attempts then endNotice n false (onSlot n (fun x => { x with attempts := attempts }) s)
    else onSlot n (fun x => { x with
      attempts := attempts, state := .backoff
      backoff := s.pace.cycles + min 64 (s.nt.cfg.base * 2 ^ (attempts - 1)) * 10000000 }) s := by
  simp only [slotFailed, satInc_eq, onSlot_onSlot]

/-! ### Polls (R149) -/

/-- A responder at work or armed whose masked topic is the poll's. -/
def MeetsPoll (topic n : Nat) (s : State) : Prop :=
  (slotAt n s).responder = true ∧ (slotAt n s).state ≠ .empty ∧ (slotAt n s).state.final = false ∧
    topic &&& (slotAt n s).mask = (slotAt n s).topic &&& (slotAt n s).mask

/-- The test of a poll at a slot. -/
def pollTest (topic : Nat) (s : State) (n : Nat) : Bool :=
  let sl := slotAt n s
  sl.responder && sl.state != .empty && !sl.state.final && (topic &&& sl.mask) == (sl.topic &&& sl.mask)

theorem pollTest_iff {topic : Nat} : pollTest topic s n = true ↔ MeetsPoll topic n s := by
  simp [pollTest, MeetsPoll, and_assoc]

/-- The responder that a poll finds. -/
def polledSlot (topic : Nat) (s : State) : Option Nat := slotNumbers.find? (pollTest topic s)

theorem pollSlots_unmatched {topic : Nat} (found : polledSlot topic s = none) :
    pollSlots topic s = s.onNt fun nt => { nt with unmatchedPolls := min 65535 (nt.unmatchedPolls + 1) } := by
  unfold polledSlot pollTest at found
  simp only [pollSlots, found, satInc_eq]

theorem pollSlots_matched {topic : Nat} (found : polledSlot topic s = some n) : pollSlots topic s =
    if (slotAt n s).state = .armed then waitWithTag n s
    else s.onNt fun nt => { nt with mergedPolls := min 65535 (nt.mergedPolls + 1) } := by
  unfold polledSlot pollTest at found
  simp only [pollSlots, found, satInc_eq]

theorem polledSlot_none {topic : Nat} (unmatched : ∀ m, m < 12 → ¬MeetsPoll topic m s) : polledSlot topic s = none := by
  simp only [polledSlot, slotNumbers, List.find?_eq_none, List.mem_range, pollTest_iff]
  exact unmatched

theorem polledSlot_first {topic : Nat} (inside : n < 12) (answers : MeetsPoll topic n s)
    (first : ∀ m, m < n → ¬MeetsPoll topic m s) : polledSlot topic s = some n := by
  simp only [polledSlot, slotNumbers, List.find?_range_eq_some, List.mem_range, Bool.not_eq_true', ← Bool.not_eq_true,
    pollTest_iff]
  exact ⟨answers, inside, first⟩

/-- Settles O36: each outcome and each poll by its case. -/
theorem attemptsAndPollsMoveTheirSlot : Obligations.AttemptsAndPollsMoveTheirSlot := by
  refine ⟨fun n s inside => ?outcomes, fun topic n s inside low => ?polls⟩
  case outcomes =>
    intro sl limit attempts
    have shown : s.nt.cfg.retryLimit sl.cls = limit := by
      show s.nt.cfg.retryLimit sl.cls = match sl.cls with
        | .alarm => s.nt.cfg.retryAlarm | .urgent => s.nt.cfg.retryUrgent | .routine => s.nt.cfg.retryRoutine
      cases sl.cls <;> rfl
    have failed := slotFailed_eq n s
    refine ⟨slotAcked_next inside, slotAcked_last, fun below => ?_, fun reached => ?_, fun clear => ?_, fun waits => ?_⟩
    · exact failed.trans (if_neg (by rw [shown]; exact Nat.not_le.2 below))
    · exact failed.trans (if_pos (by rw [shown]; exact reached))
    · rw [slotPowerCut, if_neg (by simp [show (slotAt n s).abortPending = false from clear]), slotAt_waitAgain inside]
    · exact if_pos waits
  case polls =>
    intro answers
    have found (named : answers n) (first : ∀ m, m < n → ¬answers m) :=
      pollSlots_matched (polledSlot_first low named first)
    refine ⟨fun none => pollSlots_unmatched (polledSlot_none none), fun named first busy => ?_,
      fun named first armed => ?_⟩
    · exact (found named first).trans (if_neg busy)
    · rw [found named first, if_pos armed]
      exact waitWithTag_nt inside

end Sys2Proof.Machine
end

section
/-! Responders, the settings of the notices and GET_SLOT (R148, R152, R153). -/

namespace Sys2Proof.Machine

variable {s : State} {n : Nat} {p : Port}

/-! ### Bytes of a request -/

/-- The class that a byte up to 2 names. -/
def NoticeClass.named (b : Byte) : NoticeClass := if b = 0 then .routine else if b = 1 then .urgent else .alarm

theorem NoticeClass.ofCode_byte (b : Byte) :
    NoticeClass.ofCode b.toNat = if b.toNat ≤ 2 then some (named b) else none := by
  have zero : b = 0 ↔ b.toNat = 0 := BitVec.toNat_inj (y := 0).symm
  have one : b = 1 ↔ b.toNat = 1 := BitVec.toNat_inj (y := 1).symm
  unfold named
  simp only [zero, one]
  generalize b.toNat = n
  match n with
  | 0 | 1 | 2 => rfl
  | n + 3 => exact (if_neg (by omega)).symm

theorem natOf_two (hi lo : Byte) : natOf [hi, lo] = hi.toNat * 256 + lo.toNat := by simp [natOf]

/-! ### SET_RESPONDER (R148) -/

/-- The request as SET_RESPONDER spells it. -/
def responderArgs (slot topicHi topicLo maskHi maskLo kind code flags : Byte) (text : List Byte) : List Byte :=
  [slot, topicHi, topicLo, maskHi, maskLo, kind, code, flags] ++ text

section
variable {slot topicHi topicLo maskHi maskLo kind code flags : Byte} {text : List Byte}

theorem responderArgs_byte (k : Nat) :
    natAt (responderArgs slot topicHi topicLo maskHi maskLo kind code flags text) k 1 =
      (([slot, topicHi, topicLo, maskHi, maskLo, kind, code, flags] ++ text).getD k 0).toNat := natAt_one ..

/-- What the kind byte names: 6 a STATUS answer, 7 the text that follows. -/
theorem responderKind_spelled (fits : text.length ≤ 55) :
    responderKind (responderArgs slot topicHi topicLo maskHi maskLo kind code flags text) =
      if (kind = 6 ∧ text = []) ∨ kind = 7 then
        some (if kind = 6 then .status else .text, if kind = 6 then none else some text)
      else none := by
  have six : kind = 6 ↔ kind.toNat = 6 := BitVec.toNat_inj (y := 6).symm
  have seven : kind = 7 ↔ kind.toNat = 7 := BitVec.toNat_inj (y := 7).symm
  have length : (responderArgs slot topicHi topicLo maskHi maskLo kind code flags text).length = 8 + text.length := by
    rw [responderArgs, List.length_append]; rfl
  have alone : 8 + text.length = 8 ↔ text = [] := by rw [← List.length_eq_zero_iff]; omega
  have within : 8 ≤ 8 + text.length ∧ 8 + text.length ≤ 63 := by omega
  have byte : natAt (responderArgs slot topicHi topicLo maskHi maskLo kind code flags text) 5 1 = kind.toNat :=
    responderArgs_byte 5
  unfold responderKind
  rw [byte, length, if_pos within]
  simp only [six, seven, alone]
  split
  next is => simp [is]
  next is => simp [is, responderArgs]
  next notSix notSeven =>
    have neither : ¬((kind.toNat = 6 ∧ text = []) ∨ kind.toNat = 7) := fun either => either.elim (fun h => notSix h.1) notSeven
    rw [if_neg neither]

/-- The slot that SET_RESPONDER arms (R148). -/
def armedSlot (p : Port) (topicHi topicLo maskHi maskLo kind code flags : Byte) (text : List Byte) (sl : Slot) : Slot :=
  { Slot.clear with
    responder := true, state := .armed, kind := if kind = 6 then .status else .text, cls := .named code
    origin := .port p, topic := topicHi.toNat * 256 + topicLo.toNat, mask := maskHi.toNat * 256 + maskLo.toNat
    preemptible := flags == 1, payload := if kind = 6 then none else some text, queued := sl.queued
    completed := sl.completed, outcome := sl.outcome }

theorem armSlot_spelled (low : flags.toNat ≤ 1) (p : Port) (sl : Slot) :
    armSlot p (if kind = 6 then .status else .text) (if kind = 6 then none else some text) (.named code)
      (responderArgs slot topicHi topicLo maskHi maskLo kind code flags text) sl =
      armedSlot p topicHi topicLo maskHi maskLo kind code flags text sl := by
  have topic : natAt (responderArgs slot topicHi topicLo maskHi maskLo kind code flags text) 1 2 =
      topicHi.toNat * 256 + topicLo.toNat := natOf_two ..
  have mask : natAt (responderArgs slot topicHi topicLo maskHi maskLo kind code flags text) 3 2 =
      maskHi.toNat * 256 + maskLo.toNat := natOf_two ..
  have byte : natAt (responderArgs slot topicHi topicLo maskHi maskLo kind code flags text) 7 1 = flags.toNat :=
    responderArgs_byte 7
  have bit : flags.toNat.testBit 0 = (flags == 1) := by
    rw [← toNat_beq_one]
    generalize flags.toNat = v at low
    match v with
    | 0 | 1 => rfl
  rw [armSlot, topic, mask, byte, bit, armedSlot]

/-- SET_RESPONDER by its bytes: the origin is judged before the state (R148). -/
theorem runSetResponder_spelled (fits : text.length ≤ 55) (p : Port) (s : State) :
    let n := slot.toNat
    let armed := settle (onSlot n (armedSlot p topicHi topicLo maskHi maskLo kind code flags text) s)
    runSetResponder p (responderArgs slot topicHi topicLo maskHi maskLo kind code flags text) s =
      if n ≤ 11 ∧ ((kind = 6 ∧ text = []) ∨ kind = 7) ∧ code.toNat ≤ 2 ∧ flags.toNat ≤ 1 then
        if (slotAt n s).state = .empty then taken [] armed
        else if (slotAt n s).origin ≠ .port p then refuse .denied s
        else if (slotAt n s).state = .armed then taken [] armed
        else refuse .busy s
      else refuse .outOfRange s := by
  have byte (k : Nat) := responderArgs_byte (slot := slot) (topicHi := topicHi) (topicLo := topicLo) (maskHi := maskHi)
    (maskLo := maskLo) (kind := kind) (code := code) (flags := flags) (text := text) k
  have zero := byte 0
  have six := byte 6
  have seven := byte 7
  simp only [List.cons_append, List.getD_cons_succ, List.getD_cons_zero] at zero six seven
  simp only [runSetResponder, responderKind_spelled fits, zero, six, seven, NoticeClass.ofCode_byte]
  by_cases named : (kind = 6 ∧ text = []) ∨ kind = 7
  · by_cases low : code.toNat ≤ 2
    · by_cases flag : flags.toNat ≤ 1
      · have arms := funext (armSlot_spelled (slot := slot) (topicHi := topicHi) (topicLo := topicLo) (maskHi := maskHi)
          (maskLo := maskLo) (kind := kind) (code := code) (text := text) flag p)
        by_cases inside : slot.toNat ≤ 11
        · have inRange : ¬(11 < slot.toNat ∨ 1 < flags.toNat) := by omega
          have good : slot.toNat ≤ 11 ∧ ((kind = 6 ∧ text = []) ∨ kind = 7) ∧ code.toNat ≤ 2 ∧ flags.toNat ≤ 1 :=
            ⟨inside, named, low, flag⟩
          simp only [if_pos named, if_pos low, if_neg inRange, if_pos good, arms]
        · simp only [if_pos named, if_pos low, if_pos (Or.inl (Nat.not_le.1 inside)), inside, false_and, if_false]
      · simp only [if_pos named, if_pos low, if_pos (Or.inr (Nat.not_le.1 flag)), flag, and_false, if_false]
    · simp only [if_pos named, low, false_and, and_false, if_false]
  · simp only [named, false_and, and_false, if_false]

end

/-! ### SET_NOTICES (R153) -/

/-- The ranges of the four bytes of SET_NOTICES. -/
theorem runSetNotices_spelled (base a u r : Byte) (s : State) : runSetNotices [base, a, u, r] s =
    if (1 ≤ base.toNat ∧ base.toNat ≤ 64) ∧ (1 ≤ a.toNat ∧ a.toNat ≤ 15) ∧ (1 ≤ u.toNat ∧ u.toNat ≤ 15) ∧
        (1 ≤ r.toNat ∧ r.toNat ≤ 15) then
      taken [] (s.onNt fun nt => { nt with cfg := ⟨base.toNat, a.toNat, u.toNat, r.toNat⟩ })
    else refuse .outOfRange s := by
  have cfg : noticeCfgOf [base, a, u, r] = ⟨base.toNat, a.toNat, u.toNat, r.toNat⟩ := by
    simp only [noticeCfgOf, natAt_one]
    rfl
  rw [runSetNotices, cfg]
  exact if_congr (by simp [NoticeCfg.ok, and_assoc]) rfl rfl

/-! ### GET_SLOT (R152) -/

theorem slotData_empty {sl : Slot} (empty : sl.state = .empty) (slot : Byte) :
    slotData slot.toNat sl = slot :: zeros 36 := by
  rw [slotData, if_pos empty, empty, be_one_toNat]
  rfl

/-- Settles O45: SET_RESPONDER by its bytes and the slot's origin and state, SET_NOTICES by its ranges, and GET_SLOT field
by field. -/
theorem respondersAndNoticeSettings : Obligations.RespondersAndNoticeSettings := by
  refine ⟨fun p tag slot topicHi topicLo maskHi maskLo kind code flags text s adm twelve fits => ?responders,
    fun p tag base a u r s adm => ⟨fun ok => ?notices, fun bad => ?badNotices⟩, fun p tag slot s adm => ?slot⟩
  case responders =>
    intro n sl args ok armed
    have run := runSetResponder_spelled (slot := slot) (topicHi := topicHi) (topicLo := topicLo) (maskHi := maskHi)
      (maskLo := maskLo) (kind := kind) (code := code) (flags := flags) fits p (s.taking p tag)
    have arms (inside : n ≤ 11) : onSlot n (armedSlot p topicHi topicLo maskHi maskLo kind code flags text) (s.taking p tag) =
        (s.taking p tag).onNt fun nt => { nt with slots := nt.slots.set n armed } :=
      onSlot_eq_set (s := s.taking p tag) (show n < s.nt.slots.length by omega) _
    refine ⟨fun bad => request_answers adm (run.trans (if_neg bad)), fun good state => ?_, fun good used foreign => ?_,
      fun good used busy mine => ?_⟩
    · have run := run.trans (if_pos good)
      rw [arms good.1] at run
      rcases state with empty | ⟨isArmed, mine⟩
      · exact request_takes adm (run.trans (if_pos empty))
      · have used : sl.state ≠ .empty := by rw [isArmed]; decide
        exact request_takes adm (run.trans ((if_neg used).trans ((if_neg (not_not.2 mine)).trans (if_pos isArmed))))
    · exact request_answers adm (run.trans ((if_pos good).trans ((if_neg used).trans (if_pos foreign))))
    · exact request_answers adm
        (run.trans ((if_pos good).trans ((if_neg used).trans ((if_neg (not_not.2 mine)).trans (if_neg busy)))))
  case notices => exact request_leaves adm ((runSetNotices_spelled ..).trans (if_pos ok))
  case badNotices => exact request_answers adm ((runSetNotices_spelled ..).trans (if_neg bad))
  case slot =>
    intro sl
    by_cases beyond : 11 < slot.toNat
    · rw [if_pos beyond]
      refine request_answers adm ?_
      rw [natOf_single, if_neg (by omega)]
      rfl
    · have sent (data : List Byte) (same : slotData slot.toNat sl = data) :
          exec (.getSlot p tag [slot]) s = .next (s.answered p tag .ok data) := by
        refine request_answers adm ?_
        rw [natOf_single, if_pos ⟨rfl, by omega⟩]
        exact congrArg (fun d => taken d (s.taking p tag)) same
      rw [if_neg beyond]
      by_cases empty : sl.state = .empty
      · rw [if_pos empty]
        exact sent _ (slotData_empty empty slot)
      · rw [if_neg empty]
        refine sent _ ?_
        rw [slotData, if_neg empty, boolByte_eq, be_one_toNat]
        cases sl.origin with
        | port q => cases q <;> rfl
        | _ => rfl

end Sys2Proof.Machine
end

section
/-! ABORT_NOTICE by the slot's state, and FREE_SLOT (R144, R145, R147). -/

namespace Sys2Proof.Machine

variable {s : State} {n : Nat} {p : Port}

/-! ### What an abort does to the stack and the window (R144, R145) -/

theorem removeEntryOf_absent (absent : ∀ e ∈ s.nt.stack, e.slot ≠ n) : removeEntryOf n s = s := by
  have none : (s.nt.stack.findIdx? fun e => e.slot == n) = none :=
    List.findIdx?_eq_none_iff.2 fun e mem => beq_eq_false_iff_ne.2 (absent e mem)
  rw [removeEntryOf, none]

/-- The bottom entry is removed. -/
theorem removeEntryOf_bottom {e : StackEntry} {above : List StackEntry} (stack : s.nt.stack = e :: above) (names : e.slot = n) :
    removeEntryOf n s = withStack above s := by
  have first : (s.nt.stack.findIdx? fun e => e.slot == n) = some 0 := by
    rw [stack, List.findIdx?_cons, if_pos (beq_iff_eq.2 names)]
  rw [removeEntryOf, first]
  dsimp only
  rw [stack, List.getElem?_cons_zero]
  simp only [dropEntry, withStack, State.onNt, stack, List.eraseIdx_cons_zero]

/-- The entry above another is removed, and that one takes over its preempting slot. -/
theorem removeEntryOf_top {below e : StackEntry} (stack : s.nt.stack = [below, e]) (other : below.slot ≠ n)
    (names : e.slot = n) : removeEntryOf n s = withStack [{ below with by' := e.by' }] s := by
  have second : (s.nt.stack.findIdx? fun e => e.slot == n) = some 1 := by
    rw [stack]; simp [List.findIdx?_cons, other, names]
  rw [removeEntryOf, second]
  dsimp only
  rw [stack, List.getElem?_cons_succ, List.getElem?_cons_zero]
  simp only [dropEntry, setPreempting, withStack, State.onNt, stack]
  rfl

theorem closeWindowOf_eq (n : Nat) (s : State) : closeWindowOf n s = s.onLink fun l =>
    { l with window := if (l.window.map fun w => w.origin) = some (.segment n) then none else l.window } := by
  have closed (window : Option AckWindow) : (window.bind fun w => if w.origin = .segment n then none else some w) =
      if (window.map fun w => w.origin) = some (.segment n) then none else window := by
    cases window with
    | none => rfl
    | some w => simp only [Option.bind_some, Option.map_some, Option.some_inj]
  simp only [closeWindowOf, closed]

/-! ### The commands by the slot (R145, R147) -/

theorem foreignPort_iff {o : NoticeOrigin} : foreignPort p o = true ↔ ¬∀ q, o = .port q → q = p := by
  cases o <;> simp [foreignPort]

theorem runAbortNotice_single (p : Port) (slot : Byte) (s : State) : runAbortNotice p [slot] s =
    let n := slot.toNat
    if 11 < n then refuse .outOfRange s
    else if (slotAt n s).state = .empty then refuse .notFound s
    else if foreignPort p (slotAt n s).origin then refuse .denied s
    else taken (be 1 (slotAt n (abortEffect n s)).state.code) (settle (abortEffect n s)) := by
  simp only [runAbortNotice, natOf_single, List.length_singleton, ne_eq, not_true_eq_false, false_or]

theorem SlotState.final_iff (st : SlotState) :
    st.final = true ↔ st = .delivered ∨ st = .failed ∨ st = .aborted ∨ st = .displaced := by
  cases st <;> simp [SlotState.final]

theorem runFreeSlot_single (p : Port) (slot : Byte) (s : State) : runFreeSlot p [slot] s =
    let n := slot.toNat
    if 11 < n then refuse .outOfRange s
    else if (slotAt n s).state = .empty then refuse .notFound s
    else if (slotAt n s).origin ≠ .port p then refuse .denied s
    else if (slotAt n s).state = .held ∨ (slotAt n s).state.final = true then taken [] (settle (emptySlot n s))
    else refuse .busy s := by
  simp only [runFreeSlot, natOf_single, List.length_singleton, ne_eq, not_true_eq_false, false_or]

theorem emptySlot_unpinned (inside : n < s.nt.slots.length) (event : (slotAt n s).event = none) :
    emptySlot n s = s.onNt fun nt => { nt with slots := nt.slots.set n Slot.clear } := by
  simp only [emptySlot, event]
  exact onSlot_eq_set inside _

/-- An abort that the port may ask for answers the slot's state after its effect. -/
theorem exec_abortNotice {tag slot : Byte} (adm : Admits p .control s) (inside : slot.toNat ≤ 11)
    (used : (slotAt slot.toNat s).state ≠ .empty) (mine : ∀ q, (slotAt slot.toNat s).origin = .port q → q = p)
    {x : State} (effect : abortEffect slot.toNat (s.taking p tag) = x) : exec (.abortNotice p tag [slot]) s =
      .next ((settle x).replied p tag (be 1 (slotAt slot.toNat x).state.code)) := by
  subst effect
  refine request_takes adm ((runAbortNotice_single ..).trans ?_)
  have mine : ¬foreignPort p (slotAt slot.toNat (s.taking p tag)).origin = true := fun foreign => foreignPort_iff.1 foreign mine
  exact (if_neg (Nat.not_lt.2 inside)).trans ((if_neg used).trans (if_neg mine))

/-- Settles O44: the refusals of both commands, then the abort's effect state by state. -/
theorem slotsAreAbortedAndFreed : Obligations.SlotsAreAbortedAndFreed := by
  intro p tag slot s adm twelve n sl s0 mine final
  have abort := runAbortNotice_single p slot s0
  have free := runFreeSlot_single p slot s0
  have aborts (inside : n ≤ 11) {st : SlotState} (state : sl.state = st) (used : st ≠ .empty) (own : mine) {x : State}
      (effect : abortEffect n s0 = x) :
      exec (.abortNotice p tag [slot]) s = .next ((settle x).replied p tag (be 1 (slotAt n x).state.code)) :=
    exec_abortNotice adm inside (by rw [show (slotAt n s).state = st from state]; exact used) own effect
  have preempted (state : sl.state = .preempted) {x : State} (removed : removeEntryOf n s0 = x) :
      abortEffect n s0 = finishSlot n .aborted .aborted x := by
    rw [abortEffect, show (slotAt n s0).state = .preempted from state]
    exact congrArg (finishSlot n .aborted .aborted) removed
  have length (inside : n ≤ 11) : n < s0.nt.slots.length := show n < s.nt.slots.length by omega
  refine ⟨fun beyond => ⟨?_, ?_⟩, fun inside empty => ⟨?_, ?_⟩, fun inside used foreign => ?_, fun inside own state => ?_,
    fun inside own state => ?_, fun inside own state => ?_, fun inside own state absent => ?_,
    fun e inside own state stack names => ?_, fun e above inside own state stack names => ?_,
    fun below e inside own state stack other names => ?_, fun inside own ends => ?_, fun inside used foreign => ?_,
    fun inside used own unheld running => ?_, fun inside own state event => ?_⟩
  · exact request_answers adm (abort.trans (if_pos beyond))
  · exact request_answers adm (free.trans (if_pos beyond))
  · exact request_answers adm (abort.trans ((if_neg (Nat.not_lt.2 inside)).trans (if_pos empty)))
  · exact request_answers adm (free.trans ((if_neg (Nat.not_lt.2 inside)).trans (if_pos empty)))
  · exact request_answers adm (abort.trans ((if_neg (Nat.not_lt.2 inside)).trans ((if_neg used).trans
      (if_pos (foreignPort_iff.2 foreign)))))
  · have effect : abortEffect n s0 = finishSlot n .aborted .aborted s0 := by
      unfold abortEffect
      rcases state with h | h | h | h <;> rw [show (slotAt n s0).state = _ from h] <;> rfl
    have used : sl.state ≠ .empty := by rcases state with h | h | h | h <;> rw [h] <;> decide
    exact aborts inside rfl used own effect
  · have effect : abortEffect n s0 = onSlot n (fun sl => { sl with abortPending := true }) s0 := by
      rw [abortEffect, show (slotAt n s0).state = .sending from state]
    have code : be 1 sl.state.code = [4] := by rw [state]; rfl
    rw [aborts inside state (by decide) own effect, slotAt_onSlot (length inside), onSlot_eq_set (length inside)]
    exact congrArg (fun data => Host.Outcome.next (State.replied p tag data _)) code
  · have effect : abortEffect n s0 = finishSlot n .aborted .aborted (closeWindowOf n s0) := by
      rw [abortEffect, show (slotAt n s0).state = .awaitAck from state]
      rfl
    rw [aborts inside state (by decide) own effect, closeWindowOf_eq]
  · exact aborts inside state (by decide) own (preempted state (removeEntryOf_absent (s := s0) absent))
  · exact aborts inside state (by decide) own (preempted state (removeEntryOf_bottom (s := s0) stack names))
  · exact aborts inside state (by decide) own (preempted state (removeEntryOf_bottom (s := s0) stack names))
  · exact aborts inside state (by decide) own (preempted state (removeEntryOf_top (s := s0) stack other names))
  · have effect : abortEffect n s0 = s0 := by
      unfold abortEffect
      rcases ends with h | h | h | h <;> rw [show (slotAt n s0).state = _ from h]
    have used : sl.state ≠ .empty := by rcases ends with h | h | h | h <;> rw [h] <;> decide
    have sent := aborts inside rfl used own effect
    exact sent
  · exact request_answers adm (free.trans ((if_neg (Nat.not_lt.2 inside)).trans ((if_neg used).trans (if_pos foreign))))
  · have busy : ¬(sl.state = .held ∨ sl.state.final = true) := fun h =>
      h.elim unheld fun ends => running ((SlotState.final_iff _).1 ends)
    exact request_answers adm (free.trans ((if_neg (Nat.not_lt.2 inside)).trans ((if_neg used).trans
      ((if_neg (not_not.2 own)).trans (if_neg busy)))))
  · have freed : sl.state = .held ∨ sl.state.final = true := state.imp_right (SlotState.final_iff _).2
    have used : sl.state ≠ .empty := by rcases state with h | h | h | h | h <;> rw [h] <;> decide
    have cleared : taken [] (settle (emptySlot n s0)) =
        taken [] (settle (s0.onNt fun nt => { nt with slots := nt.slots.set n Slot.clear })) :=
      congrArg (fun x => taken [] (settle x)) (emptySlot_unpinned (length inside) event)
    exact request_takes adm (free.trans ((if_neg (Nat.not_lt.2 inside)).trans ((if_neg used).trans
      ((if_neg (not_not.2 own)).trans ((if_pos freed).trans cleared)))))

end Sys2Proof.Machine
end

section
/-! What the record of an event shows of its notices (R104, R107, R108). -/

namespace Sys2Proof.Machine

variable {s : State} {k : NoticeKind} {o : AlertOutcome} {r : Record} {event : Nat}

/-- A record with an outcome written and a pin count: only an OPEN record's revision moves, and only by the outcome. -/
def Record.told (k : NoticeKind) (o : AlertOutcome) (pins : Nat) (r : Record) : Record :=
  let x := { r.withOutcome k o with pins := pins }
  if r.closed ∨ { x with pins := r.pins } = r then x else { x with revision := (r.revision + 1) % 256 }

theorem Record.withOutcome_pins (k : NoticeKind) (o : AlertOutcome) (r : Record) : (r.withOutcome k o).pins = r.pins := by
  cases k <;> rfl

theorem Record.withOutcome_pinned (k : NoticeKind) (o : AlertOutcome) (pins : Nat) (r : Record) :
    ({ r with pins := pins } : Record).withOutcome k o = { r.withOutcome k o with pins := pins } := by cases k <;> rfl

theorem Record.told_pins (k : NoticeKind) (o : AlertOutcome) (r : Record) : r.told k o r.pins =
    if r.closed then r.withOutcome k o else revised r (r.withOutcome k o) := by
  have same : ({ r.withOutcome k o with pins := r.pins } : Record) = r.withOutcome k o := by
    rw [← r.withOutcome_pins k o]
  rw [Record.told, revised_of_pins (r.withOutcome_pins k o)]
  simp only [same]
  by_cases closed : r.closed = true
  · rw [if_pos (.inl closed), if_pos closed]
  · rw [if_neg closed]
    by_cases kept : r.withOutcome k o = r
    · rw [if_pos (.inr kept), if_pos kept, kept]
    · rw [if_neg (not_or.2 ⟨closed, kept⟩), if_neg kept, r.withOutcome_pins k o]

/-- The pin count stands beside what an outcome changes. -/
theorem Record.told_pinned (k : NoticeKind) (o : AlertOutcome) (pins : Nat) (r : Record) :
    ({ r with pins := pins } : Record).told k o pins = r.told k o pins := by
  have same : ({ r.withOutcome k o with pins := pins } : Record) = { r with pins := pins } ↔
      ({ r.withOutcome k o with pins := r.pins } : Record) = r := by
    constructor <;> intro h
    · exact congrArg (fun x : Record => { x with pins := r.pins }) h
    · exact congrArg (fun x : Record => { x with pins := pins }) h
  simp only [Record.told, withOutcome_pinned]
  exact if_congr (or_congr .rfl same) rfl rfl

theorem Record.told_set (k : NoticeKind) (o : AlertOutcome) (old new : Nat) (r : Record) :
    ({ r.told k o old with pins := new } : Record) = r.told k o new := by
  unfold Record.told
  dsimp only
  split <;> rfl

theorem Record.told_seq (k : NoticeKind) (o : AlertOutcome) (pins : Nat) (r : Record) : (r.told k o pins).seq = r.seq := by
  have kept : (r.withOutcome k o).seq = r.seq := by cases k <;> rfl
  unfold Record.told
  dsimp only
  split <;> exact kept

/-- The records with those of an event changed. -/
def recordsWith (event : Nat) (f : Record → Record) (l : List Record) : List Record :=
  l.map fun r => if r.seq = event then f r else r

theorem recordsWith_recordsWith {f : Record → Record} (seq : ∀ r, (f r).seq = r.seq) (g : Record → Record)
    (l : List Record) : recordsWith event g (recordsWith event f l) = recordsWith event (fun r => g (f r)) l := by
  simp only [recordsWith, List.map_map]
  refine List.map_congr_left fun r _ => ?_
  by_cases own : r.seq = event
  · simp only [Function.comp, if_pos own, if_pos ((seq r).trans own)]
  · simp only [Function.comp, if_neg own]

theorem writeOutcome_eq (event : Nat) (k : NoticeKind) (o : AlertOutcome) (s : State) : writeOutcome event k o s =
    s.onEv fun ev => { ev with records := recordsWith event (fun r => r.told k o r.pins) ev.records } := by
  simp only [writeOutcome, updateRecord, recordsWith, Record.told_pins]

theorem updateRecord_pins (event : Nat) (g : Nat → Nat) (s : State) :
    updateRecord event (fun r => { r with pins := g r.pins }) s =
      s.onEv fun ev => { ev with records := recordsWith event (fun r => { r with pins := g r.pins }) ev.records } := by
  have pinned (r : Record) : revised r { r with pins := g r.pins } = { r with pins := g r.pins } := if_pos rfl
  simp only [updateRecord, recordsWith, pinned, ite_self]

/-- A slot takes a reference: the record is pinned, and an outcome is written (R107, R108). -/
theorem writeOutcome_pinRecord (event : Nat) (k : NoticeKind) (o : AlertOutcome) (s : State) :
    writeOutcome event k o (pinRecord event s) =
      s.onEv fun ev => { ev with records := recordsWith event (fun r => r.told k o (r.pins + 1)) ev.records } := by
  have told (r : Record) : ({ r with pins := r.pins + 1 } : Record).told k o (r.pins + 1) = r.told k o (r.pins + 1) :=
    r.told_pinned k o _
  simp only [writeOutcome_eq, pinRecord, updateRecord_pins event (· + 1), State.onEv,
    recordsWith_recordsWith (f := fun r => { r with pins := r.pins + 1 }) (fun _ => rfl), told]

/-- A slot gives its reference up: an outcome is written, and the record is unpinned (R107, R108). -/
theorem unpinRecord_writeOutcome (event : Nat) (k : NoticeKind) (o : AlertOutcome) (s : State) :
    unpinRecord event (writeOutcome event k o s) =
      s.onEv fun ev => { ev with records := recordsWith event (fun r => r.told k o (r.pins - 1)) ev.records } := by
  have told (r : Record) : ({ r.told k o r.pins with pins := (r.told k o r.pins).pins - 1 } : Record) =
      r.told k o (r.pins - 1) := by
    have pins : (r.told k o r.pins).pins = r.pins := by unfold Record.told; dsimp only; split <;> rfl
    rw [pins, Record.told_set]
  simp only [writeOutcome_eq, unpinRecord, updateRecord_pins event (· - 1), State.onEv,
    recordsWith_recordsWith fun r => r.told_seq k o r.pins, told]

end Sys2Proof.Machine
end

section
/-! The end of a notice, operation by operation: the stack entries that name the slot, then the slot's origin (R108, R144 to
R146, R165, R171). -/

namespace Sys2Proof.Machine

variable {s t u x : State} {n m : Nat}

/-! ### What the end of a preemption leaves (R144) -/

/-- The table with other slots and another stack, and the link: a slot of the stack may wait again. -/
structure Popped (s t : State) : Prop where
  rest : ∃ slots stack link, t = { s with nt := { s.nt with slots := slots, stack := stack }, link := link }
  length : t.nt.slots.length = s.nt.slots.length
  stacked : ∀ e ∈ t.nt.stack, ∃ b ∈ s.nt.stack, b.slot = e.slot
  slot : ∀ n, slotAt n t = slotAt n s ∨
    ((∃ e ∈ s.nt.stack, e.slot = n) ∧ slotAt n t = { slotAt n s with state := .waiting, view := .notWaiting })

theorem Popped.refl (s : State) : Popped s s :=
  ⟨⟨s.nt.slots, s.nt.stack, s.link, rfl⟩, rfl, fun e mem => ⟨e, mem, rfl⟩, fun _ => .inl rfl⟩

theorem Popped.trans (p : Popped s t) (q : Popped t u) : Popped s u := by
  refine ⟨?_, q.length.trans p.length, fun e mem => ?_, fun n => ?_⟩
  · obtain ⟨slots, stack, link, rfl⟩ := p.rest
    obtain ⟨slots, stack, link, rfl⟩ := q.rest
    exact ⟨slots, stack, link, rfl⟩
  · obtain ⟨b, mem, same⟩ := q.stacked e mem
    obtain ⟨a, mem, first⟩ := p.stacked b mem
    exact ⟨a, mem, first.trans same⟩
  · have stacked (on : ∃ e ∈ t.nt.stack, e.slot = n) : ∃ e ∈ s.nt.stack, e.slot = n := by
      obtain ⟨e, mem, names⟩ := on
      obtain ⟨b, mem, same⟩ := p.stacked e mem
      exact ⟨b, mem, same.trans names⟩
    rcases p.slot n with first | ⟨on, first⟩
    · rw [← first]
      exact (q.slot n).imp_right fun later => ⟨stacked later.1, later.2⟩
    · refine .inr ⟨on, ?_⟩
      rcases q.slot n with later | ⟨-, later⟩ <;> rw [later, first]

theorem setPreempting_popped (i m : Nat) (s : State) : Popped s (setPreempting i m s) := by
  refine ⟨⟨_, _, _, rfl⟩, rfl, fun e mem => ?_, fun _ => .inl rfl⟩
  have slots : (setPreempting i m s).nt.stack.map (·.slot) = s.nt.stack.map (·.slot) :=
    map_modify_same (f := fun e : StackEntry => { e with by' := m }) (fun _ => rfl) _ _
  have mem : e.slot ∈ s.nt.stack.map (·.slot) := slots ▸ List.mem_map_of_mem mem
  exact List.mem_map.1 mem

theorem dropEntry_popped (i : Nat) (s : State) : Popped s (dropEntry i s) :=
  ⟨⟨_, _, _, rfl⟩, rfl, fun e mem => ⟨e, List.mem_of_mem_eraseIdx mem, rfl⟩, fun _ => .inl rfl⟩

theorem waitAgain_rest (n : Nat) (s : State) : ∃ slots link,
    waitAgain n s = { s with nt := { s.nt with slots := slots }, link := link } := by
  rw [waitAgain_eq]
  dsimp only
  split
  · exact ⟨_, _, rfl⟩
  · exact ⟨_, s.link, rfl⟩

theorem waitAgain_length (n : Nat) (s : State) : (waitAgain n s).nt.slots.length = s.nt.slots.length := by
  rw [waitAgain_nt]; exact List.length_modify ..

theorem slotAt_waitAgain_ne (other : m ≠ n) (s : State) : slotAt n (waitAgain m s) = slotAt n s := by
  rw [slotAt_congr (waitAgain_nt ..), slotAt_onSlot_ne other]

/-- A slot beyond the table is not there to wait again. -/
theorem waitAgain_slot (n : Nat) (s : State) : slotAt n (waitAgain n s) = slotAt n s ∨
    slotAt n (waitAgain n s) = { slotAt n s with state := .waiting, view := .notWaiting } := by
  by_cases inside : n < s.nt.slots.length
  · exact .inr (slotAt_waitAgain inside)
  · rw [slotAt_beyond (Nat.le_of_not_lt inside), slotAt_beyond (by rw [waitAgain_length]; exact Nat.le_of_not_lt inside)]
    exact .inl rfl

theorem endEntry_popped (n i : Nat) (s : State) : Popped s (endEntry n i s) := by
  unfold endEntry
  cases found : s.nt.stack[i]? with
  | none => exact .refl s
  | some e =>
    have waits : Popped s (waitAgain e.slot (dropEntry i s)) := by
      obtain ⟨slots, link, rest⟩ := waitAgain_rest e.slot (dropEntry i s)
      refine ⟨⟨slots, _, link, rest⟩, waitAgain_length .., fun b mem => ?_, fun k => ?_⟩
      · rw [waitAgain_stack] at mem
        exact (dropEntry_popped i s).stacked b mem
      · by_cases own : e.slot = k
        · subst own
          exact (waitAgain_slot e.slot (dropEntry i s)).imp_right fun slot => ⟨⟨e, List.mem_of_getElem? found, rfl⟩, slot⟩
        · exact .inl (slotAt_waitAgain_ne own _)
    dsimp only
    repeat' split
    · exact setPreempting_popped ..
    · exact setPreempting_popped ..
    · exact waits
    · exact .refl s

theorem endPreempting_popped (n : Nat) (s : State) : Popped s (endPreempting n s) := by
  unfold endPreempting
  generalize (List.range s.nt.stack.length).reverse = l
  induction l generalizing s with
  | nil => exact .refl s
  | cons i l ih => exact (endEntry_popped n i s).trans (ih _)

/-! ### What its origin makes of the slot (R108, R146) -/

/-- A slot emptied, and the record that it references unpinned. -/
theorem emptySlot_some {e : Nat} (event : (slotAt n s).event = some e) :
    emptySlot n s = unpinRecord e (onSlot n (fun _ => .clear) s) := by simp only [emptySlot, event]

theorem emptySlot_nt (n : Nat) (s : State) : (emptySlot n s).nt = (onSlot n (fun _ => .clear) s).nt := by
  unfold emptySlot
  split <;> rfl

/-- All but the table and the event records stay. -/
theorem emptySlot_rest (n : Nat) (s : State) : ∃ nt ev, emptySlot n s = { s with nt := nt, ev := ev } := by
  unfold emptySlot
  split
  · exact ⟨_, s.ev, rfl⟩
  · exact ⟨_, _, rfl⟩

/-- A port's notice keeps its slot, unless it was displaced. -/
theorem serveOrigin_port {p : Port} (origin : (slotAt n s).origin = .port p) (kept : (slotAt n s).outcome ≠ .displaced) :
    serveOrigin n s = notify p .slotFinished s := by
  simp only [serveOrigin, origin]
  cases outcome : (slotAt n s).outcome <;> first | rfl | exact absurd outcome kept

theorem serveOrigin_displaced {p : Port} (origin : (slotAt n s).origin = .port p)
    (displaced : (slotAt n s).outcome = .displaced) : serveOrigin n s = emptySlot n (notify p .slotDisplaced s) := by
  simp only [serveOrigin, origin, displaced]

theorem serveOrigin_quake {e : Nat} (origin : (slotAt n s).origin = .detector) (event : (slotAt n s).event = some e) :
    serveOrigin n s = emptySlot n (writeOutcome e (slotAt n s).kind (slotAt n s).outcome.alert s) := by
  simp only [serveOrigin, origin, event]

theorem serveOrigin_told (origin : (slotAt n s).origin = .power ∨ (slotAt n s).origin = .timebase ∨
    (slotAt n s).origin = .link) : serveOrigin n s = emptySlot n (tellOrigin n (slotAt n s).origin s) := by
  rcases origin with origin | origin | origin <;> simp only [serveOrigin, origin]

/-- Serving its origin changes no slot but the notice's own, and neither the rest of the table nor the link. -/
theorem serveOrigin_table (n : Nat) (s : State) : (serveOrigin n s).link = s.link ∧
    (serveOrigin n s).tb.now = s.tb.now ∧
    ((serveOrigin n s).nt = s.nt ∨ (serveOrigin n s).nt = (onSlot n (fun _ => .clear) s).nt) := by
  have emptied {x : State} (link : x.link = s.link) (now : x.tb.now = s.tb.now) (nt : x.nt = s.nt) :
      (emptySlot n x).link = s.link ∧ (emptySlot n x).tb.now = s.tb.now ∧
        ((emptySlot n x).nt = s.nt ∨ (emptySlot n x).nt = (onSlot n (fun _ => .clear) s).nt) := by
    obtain ⟨nt', ev, rest⟩ := emptySlot_rest n x
    refine ⟨(congrArg (·.link) rest).trans link, (congrArg (·.tb.now) rest).trans now, .inr ?_⟩
    rw [emptySlot_nt, onSlot, onSlot, State.onNt_nt, State.onNt_nt, nt]
  unfold serveOrigin; dsimp only
  cases (slotAt n s).origin with
  | port p => cases (slotAt n s).outcome <;> first | exact emptied rfl rfl rfl | exact ⟨rfl, rfl, .inl rfl⟩
  | detector => cases (slotAt n s).event <;> exact emptied rfl rfl rfl
  | power => exact emptied rfl rfl rfl
  | timebase => exact emptied rfl rfl rfl
  | link => exact emptied rfl rfl rfl

/-- An internal notice leaves its slot EMPTY and the ports as they are. -/
theorem serveOrigin_internal (internal : ∀ p, (slotAt n s).origin ≠ .port p) :
    (serveOrigin n s).nt = (onSlot n (fun _ => .clear) s).nt ∧ (serveOrigin n s).ports = s.ports := by
  have emptied {x : State} (ports : x.ports = s.ports) (nt : x.nt = s.nt) :
      (emptySlot n x).nt = (onSlot n (fun _ => .clear) s).nt ∧ (emptySlot n x).ports = s.ports := by
    obtain ⟨nt', ev, rest⟩ := emptySlot_rest n x
    refine ⟨?_, (congrArg (·.ports) rest).trans ports⟩
    rw [emptySlot_nt, onSlot, onSlot, State.onNt_nt, State.onNt_nt, nt]
  unfold serveOrigin; dsimp only
  cases origin : (slotAt n s).origin with
  | port p => exact absurd origin (internal p)
  | detector => cases (slotAt n s).event <;> exact emptied rfl rfl
  | power => exact emptied rfl rfl
  | timebase => exact emptied rfl rfl
  | link => exact emptied rfl rfl

end Sys2Proof.Machine
end

section
/-! The end of a notice as a whole (R108, R144 to R146, R165, R171). -/

namespace Sys2Proof.Machine

variable {s t : State} {n : Nat} {st : SlotState} {out : SlotOutcome}

/-- A slot with its final state, outcome and time. -/
def Slot.ended (st : SlotState) (out : SlotOutcome) (now : Time) (sl : Slot) : Slot :=
  { sl with state := st, outcome := out, completed := now, abortPending := false }

/-- The state in which the preemptions of an ended notice end. -/
def endedIn (n : Nat) (st : SlotState) (out : SlotOutcome) (s : State) : State :=
  s.onNt fun nt => { nt with slots := nt.slots.set n ((slotAt n s).ended st out s.tb.now) }

theorem finishSlot_eq (inside : n < s.nt.slots.length) (st : SlotState) (out : SlotOutcome) :
    finishSlot n st out s = serveOrigin n (endPreempting n (endedIn n st out s)) := by
  rw [finishSlot, onSlot_eq_set inside]
  rfl

theorem slotAt_set {f : NoticeTable → List StackEntry} (inside : n < s.nt.slots.length) (sl : Slot) :
    slotAt n (s.onNt fun nt => { nt with slots := nt.slots.set n sl, stack := f nt }) = sl := by
  simp [slotAt, inside]

theorem slotAt_endedIn (inside : n < s.nt.slots.length) :
    slotAt n (endedIn n st out s) = (slotAt n s).ended st out s.tb.now := slotAt_set (f := (·.stack)) inside _

theorem slotAt_endedIn_ne {m : Nat} (other : m ≠ n) : slotAt m (endedIn n st out s) = slotAt m s := by
  simp [slotAt, endedIn, List.getD_eq_getElem?_getD, List.getElem?_set_ne (Ne.symm other)]

/-- What of the ended slot its origin reads: whatever the stack does to it, these stay. -/
theorem Popped.reads (p : Popped s t) (n : Nat) : (slotAt n t).origin = (slotAt n s).origin ∧
    (slotAt n t).outcome = (slotAt n s).outcome ∧ (slotAt n t).kind = (slotAt n s).kind ∧
    (slotAt n t).event = (slotAt n s).event := by
  rcases p.slot n with same | ⟨-, waits⟩
  · rw [same]; exact ⟨rfl, rfl, rfl, rfl⟩
  · rw [waits]; exact ⟨rfl, rfl, rfl, rfl⟩

/-- The end of a notice leaves the counters, the settings and the length of the table, and station time. -/
theorem finishSlot_table (inside : n < s.nt.slots.length) (st : SlotState) (out : SlotOutcome) :
    (∃ slots stack, (finishSlot n st out s).nt = { s.nt with slots := slots, stack := stack } ∧
      slots.length = s.nt.slots.length) ∧ (finishSlot n st out s).tb.now = s.tb.now := by
  have popped := endPreempting_popped n (endedIn n st out s)
  have length : (endPreempting n (endedIn n st out s)).nt.slots.length = s.nt.slots.length :=
    popped.length.trans (List.length_set ..)
  rw [finishSlot_eq inside]
  generalize endPreempting n (endedIn n st out s) = x at popped length
  obtain ⟨slots, stack, link, rest⟩ := popped.rest
  have nt : x.nt = { s.nt with slots := slots, stack := stack } := by rw [rest]; rfl
  have fits : slots.length = s.nt.slots.length := by rw [nt] at length; exact length
  obtain ⟨-, now, same | cleared⟩ := serveOrigin_table n x
  · exact ⟨⟨slots, stack, same.trans nt, fits⟩, now.trans (by rw [rest]; rfl)⟩
  · refine ⟨⟨slots.modify n fun _ => .clear, stack, cleared.trans ?_, ?_⟩, now.trans (by rw [rest]; rfl)⟩
    · rw [onSlot, State.onNt_nt, nt]
    · exact (List.length_modify ..).trans fits

/-- A port's notice that is displaced leaves its slot EMPTY, and the port is told. -/
theorem finishSlot_displaced {p : Port} (inside : n < s.nt.slots.length) (origin : (slotAt n s).origin = .port p) :
    ((finishSlot n st .displaced s).ports.get p) = { s.ports.get p with notices := (s.ports.get p).notices ||| 0x040 } ∧
      slotAt n (finishSlot n st .displaced s) = .clear := by
  have popped := endPreempting_popped n (endedIn n st .displaced s)
  obtain ⟨origin', outcome, -, -⟩ := popped.reads n
  rw [slotAt_endedIn inside] at origin' outcome
  rw [finishSlot_eq inside, serveOrigin_displaced (origin'.trans origin) outcome]
  obtain ⟨slots, stack, link, rest⟩ := popped.rest
  have length := popped.length.trans (List.length_set ..)
  generalize endPreempting n (endedIn n st .displaced s) = x at rest length
  obtain ⟨nt, ev, emptied⟩ := emptySlot_rest n (notify p .slotDisplaced x)
  refine ⟨?_, ?_⟩
  · rw [emptied]
    show (x.ports.update p _).get p = _
    rw [PerPort.get_update_self, rest]
    rfl
  · rw [slotAt_congr (emptySlot_nt ..)]
    exact slotAt_onSlot (s := notify p .slotDisplaced x) (by rw [← length] at inside; exact inside) _

/-! ### Requests for a slot (R133, R134) -/

/-- A slot that becomes WAITING, with the early probe for an ALARM notice in SILENT (R133, R138). -/
theorem waitWithTag_eq (inside : n < s.nt.slots.length) : waitWithTag n s =
    let tag := (s.nt.tagCounter + 1) % 256
    { s with
      nt := { s.nt with
        slots := s.nt.slots.set n { slotAt n s with tag := tag, queued := s.tb.now, state := .waiting, view := .notWaiting }
        tagCounter := tag }
      link := if (slotAt n s).cls = .alarm ∧ s.link.health = .silent ∧ s.link.earlyUsed = false then
          { s.link with probeDue := true, probeAlarm := true, earlyUsed := true }
        else s.link } := by
  let tag := (s.nt.tagCounter + 1) % 256
  have tagged := slotAt_onSlot (s := s.onNt fun nt => { nt with tagCounter := tag }) inside
    (fun sl => { sl with tag := tag, queued := s.tb.now })
  have waits : waitWithTag n s = waitAgain n (onSlot n (fun sl => { sl with tag := tag, queued := s.tb.now })
    (s.onNt fun nt => { nt with tagCounter := tag })) := rfl
  rw [waits, waitAgain_eq, tagged, onSlot_onSlot, onSlot_eq_set (s := s.onNt _) inside]
  by_cases early : (slotAt n s).cls = .alarm ∧ s.link.health = .silent ∧ s.link.earlyUsed = false
  · refine (if_pos early).trans ?_
    rw [if_pos early]
    rfl
  · refine (if_neg early).trans ?_
    rw [if_neg early]
    rfl

/-- A slot that has been filled waits. -/
theorem waitWithTag_filled {x y : State} {sl : Slot} (table : y.nt = (onSlot n (fun _ => sl) x).nt)
    (inside : n < x.nt.slots.length) : waitWithTag n y =
      let tag := (x.nt.tagCounter + 1) % 256
      { y with
        nt := { x.nt with
          slots := x.nt.slots.set n { sl with tag := tag, queued := y.tb.now, state := .waiting, view := .notWaiting }
          tagCounter := tag }
        link := if sl.cls = .alarm ∧ y.link.health = .silent ∧ y.link.earlyUsed = false then
            { y.link with probeDue := true, probeAlarm := true, earlyUsed := true }
          else y.link } := by
  have nt : y.nt = { x.nt with slots := x.nt.slots.set n sl } := by rw [table, onSlot_eq_set inside]; rfl
  have slot : slotAt n y = sl := (slotAt_congr table n).trans (slotAt_onSlot inside _)
  rw [waitWithTag_eq (by rw [nt]; exact (List.length_set ..).symm ▸ inside), slot, nt]
  simp only [List.set_set]

theorem displaceVictim_of {v : Nat} (low : v < 12) (given : (slotAt v s).displaceable = true)
    (oldest : ∀ m, m < 12 → (slotAt m s).displaceable = true → (slotAt v s).queued < (slotAt m s).queued ∨
      ((slotAt v s).queued = (slotAt m s).queued ∧ v ≤ m)) : displaceVictim s = some v := by
  rw [displaceVictim_eq, firstBest_eq_some (slotNumbers_sorted _)]
  have member (m : Nat) : m ∈ slotNumbers.filter (fun n => (slotAt n s).displaceable) ↔
      m < 12 ∧ (slotAt m s).displaceable = true := by rw [List.mem_filter, slotNumbers, List.mem_range]
  refine ⟨(member v).2 ⟨low, given⟩, fun m mem => ?_⟩
  obtain ⟨inside, able⟩ := (member m).1 mem
  rcases oldest m inside able with older | ⟨same, low⟩
  · exact .inl (Int.neg_lt_neg (Int.ofNat_lt.2 older))
  · exact .inr ⟨congrArg (fun q : Nat => -(q : Int)) same.symm, low⟩

/-- Without an EMPTY slot an ALARM request takes the victim's (R134). -/
theorem obtainSlot_displaces {v : Nat} (full : emptySlotNumber s = none) (victim : displaceVictim s = some v) :
    obtainSlot .alarm s = ((finishSlot v .displaced .displaced s).onNt fun nt =>
      { nt with displacements := min 65535 (nt.displacements + 1) }, some v) := by
  simp only [obtainSlot, full, if_true, victim, satInc_eq]

end Sys2Proof.Machine
end

section
/-! Internal requests for a notice and its end (R108, R133, R134, R144 to R146, R165, R171). -/

namespace Sys2Proof.Machine

variable {s x : State} {a : NoticeAsk} {n : Nat}

/-! ### A request (R108, R133, R134) -/

/-- The records with an outcome written into the one that a request is about, and its pins moved. -/
def NoticeAsk.tells (a : NoticeAsk) (o : AlertOutcome) (more : Nat) (l : List Record) : List Record :=
  l.map fun r => if some r.seq = a.event then r.told a.kind o (r.pins + more) else r

theorem NoticeAsk.tells_none (about : a.event = none) (o : AlertOutcome) (more : Nat) (l : List Record) :
    a.tells o more l = l := by simp [tells, about]

theorem NoticeAsk.tells_some {event : Nat} (about : a.event = some event) (o : AlertOutcome) (more : Nat)
    (l : List Record) : a.tells o more l = recordsWith event (fun r => r.told a.kind o (r.pins + more)) l := by
  simp only [tells, recordsWith, about, Option.some_inj]

/-- The slot of a request as it waits. -/
def NoticeAsk.waiting (a : NoticeAsk) (tag : Nat) (now : Time) : Slot :=
  { a.slot with tag := tag, queued := now, state := .waiting }

/-- A request that is given a slot fills it, and pins the record that it is about. -/
theorem requestNotice_given (obtained : obtainSlot a.cls s = (x, some n)) (inside : n < x.nt.slots.length) :
    let tag := (x.nt.tagCounter + 1) % 256
    requestNotice a s = ({ x with
      nt := { x.nt with slots := x.nt.slots.set n (a.waiting tag x.tb.now), tagCounter := tag }
      ev := { x.ev with records := a.tells .pending 1 x.ev.records }
      link := if a.cls = .alarm ∧ x.link.health = .silent ∧ x.link.earlyUsed = false then
          { x.link with probeDue := true, probeAlarm := true, earlyUsed := true }
        else x.link }, some n) := by
  cases about : a.event with
  | none =>
    have runs : requestNotice a s = (waitWithTag n (onSlot n (fun _ => a.slot) x), some n) := by
      simp only [requestNotice, obtained, about, NoticeAsk.slot]
    rw [runs, waitWithTag_filled rfl inside, NoticeAsk.tells_none about]
    rfl
  | some event =>
    have runs : requestNotice a s =
        (waitWithTag n (writeOutcome event a.kind .pending (pinRecord event (onSlot n (fun _ => a.slot) x))), some n) := by
      simp only [requestNotice, obtained, about, NoticeAsk.slot]
    rw [runs, writeOutcome_pinRecord, waitWithTag_filled (x := x) (sl := a.slot) (State.onEv_nt ..) inside, NoticeAsk.tells_some about]
    rfl

/-- A request that meets NO_SLOT is counted, and written as NOT_QUEUED. -/
theorem requestNotice_noSlot (obtained : obtainSlot a.cls s = (s, none)) : requestNotice a s =
    ({ s with
      nt := { s.nt with unqueued := min 65535 (s.nt.unqueued + 1) }
      ev := { s.ev with records := a.tells .notQueued 0 s.ev.records } }, none) := by
  cases about : a.event with
  | none =>
    rw [NoticeAsk.tells_none about]
    simp only [requestNotice, obtained, about, satInc_eq]
    rfl
  | some event =>
    rw [NoticeAsk.tells_some about]
    simp only [requestNotice, obtained, about, satInc_eq, writeOutcome_eq]
    rfl

theorem Slot.displaceable_iff {sl : Slot} : sl.displaceable = true ↔
    sl.responder = false ∧ sl.state = .waiting ∧ sl.cls = .routine := by simp [Slot.displaceable, and_assoc]

/-! ### The end of a notice (R108, R144 to R146, R165, R171) -/

/-- What the end of a notice leaves, from what its origin makes of the slot once the preemptions by it have ended. -/
theorem finishSlot_served {st : SlotState} {out : SlotOutcome} (inside : n < s.nt.slots.length)
    (unstacked : ∀ e ∈ s.nt.stack, e.slot ≠ n) :
    let popped := endPreempting n (endedIn n st out s)
    finishSlot n st out s = serveOrigin n popped ∧ slotAt n popped = (slotAt n s).ended st out s.tb.now ∧
      n < popped.nt.slots.length ∧ popped.nt.tagCounter = s.nt.tagCounter ∧ popped.ports = s.ports ∧ popped.ev = s.ev ∧
      popped.tb = s.tb ∧ popped.pw = s.pw := by
  have popped := endPreempting_popped n (endedIn n st out s)
  obtain ⟨slots, stack, link, rest⟩ := popped.rest
  refine ⟨finishSlot_eq inside st out, ?_, ?_, congrArg (·.nt.tagCounter) rest, congrArg (·.ports) rest,
    congrArg (·.ev) rest, congrArg (·.tb) rest, congrArg (·.pw) rest⟩
  · rcases popped.slot n with same | ⟨⟨e, mem, names⟩, -⟩
    · rw [same, slotAt_endedIn inside]
    · exact absurd names (unstacked e mem)
  · exact (popped.length.trans (List.length_set ..)).symm ▸ inside

/-! ### The statement -/

/-- Settles O40: a request by the slot that it obtains, and the end of a notice by its origin. -/
theorem internalNoticesBeginAndEnd : Obligations.InternalNoticesBeginAndEnd := by
  refine ⟨fun a s twelve => ?requests, fun n st out s inside unstacked => ?ends⟩
  case requests =>
    intro t tag filled withOutcome early displaceable
    refine ⟨fun n low empty lowest => ?_, fun full noVictim => ?_, fun v full alarm given oldest => ?_⟩
    · have begun := requestNotice_given (obtainSlot_empty (emptySlotNumber_of low empty lowest) a.cls)
        (show n < s.nt.slots.length by omega)
      exact ⟨congrArg Prod.snd begun, congrArg Prod.fst begun⟩
    · have kept (m : Nat) (low : m < 12) (alarm : a.cls = .alarm) : (slotAt m s).displaceable = false :=
        Bool.eq_false_iff.2 fun able => noVictim alarm m ⟨low, Slot.displaceable_iff.1 able⟩
      have refused := requestNotice_noSlot (obtainSlot_full (c := a.cls) (emptySlotNumber_none full) fun alarm =>
        displaceVictim_none fun m low => kept m low alarm)
      exact ⟨congrArg Prod.snd refused, congrArg Prod.fst refused⟩
    · obtain ⟨low, able⟩ := given
      have inside : v < s.nt.slots.length := by omega
      have victim := displaceVictim_of low (Slot.displaceable_iff.2 able) fun m low able =>
        oldest m ⟨low, Slot.displaceable_iff.1 able⟩
      obtain ⟨⟨slots, stack, nt, length⟩, -⟩ := finishSlot_table inside .displaced .displaced
      have obtained := obtainSlot_displaces (emptySlotNumber_none full) victim
      rw [← alarm] at obtained
      have insideDisplaced : v < (finishSlot v .displaced .displaced s).nt.slots.length := by rw [nt]; exact length ▸ inside
      have begun := requestNotice_given obtained insideDisplaced
      have taken : t.1 = _ := congrArg Prod.fst begun
      have slot : ∃ tag now, slotAt v t.1 = a.waiting tag now := by
        rw [taken]
        exact ⟨_, _, slotAt_set (s := finishSlot v .displaced .displaced s) (f := (·.stack)) insideDisplaced _⟩
      obtain ⟨_, _, slot⟩ := slot
      refine ⟨congrArg Prod.snd begun, congrArg Slot.kind slot, congrArg Slot.event slot, congrArg Slot.state slot, ?_, ?_,
        fun p origin => ?_⟩
      · rw [taken]
        show min 65535 ((finishSlot v .displaced .displaced s).nt.displacements + 1) = _
        rw [nt]
      · rw [taken]
        show (finishSlot v .displaced .displaced s).nt.unqueued = _
        rw [nt]
      · rw [taken]
        show ((finishSlot v .displaced .displaced s).ports.get p).notices.getLsbD 6 = true
        rw [(finishSlot_displaced inside origin).1, BitVec.getLsbD_or]
        exact Bool.or_true _
  case ends =>
    intro sl t ended popped
    obtain ⟨served, slot, length, tag, ports, ev, tb, pw⟩ : t = serveOrigin n popped ∧ slotAt n popped = ended ∧
        n < popped.nt.slots.length ∧ popped.nt.tagCounter = s.nt.tagCounter ∧ popped.ports = s.ports ∧ popped.ev = s.ev ∧
        popped.tb = s.tb ∧ popped.pw = s.pw := finishSlot_served inside unstacked
    have origin : (slotAt n popped).origin = sl.origin := by rw [slot]
    have outcome : (slotAt n popped).outcome = out := by rw [slot]
    have event : (slotAt n popped).event = sl.event := by rw [slot]
    obtain ⟨link, -, table⟩ := serveOrigin_table n popped
    rw [← served] at link table
    have others (m : Nat) (other : m ≠ n) : slotAt m t = slotAt m popped := by
      rcases table with same | cleared
      · exact slotAt_congr same m
      · exact (slotAt_congr cleared m).trans (slotAt_onSlot_ne other.symm ..)
    have stack : t.nt.stack = popped.nt.stack := by
      rcases table with same | cleared
      · rw [same]
      · rw [cleared]; rfl
    have emptied (internal : ∀ p, sl.origin ≠ .port p) : slotAt n t = .clear ∧ t.ports = s.ports := by
      obtain ⟨cleared, same⟩ := serveOrigin_internal (s := popped) fun p => origin ▸ internal p
      rw [← served] at cleared same
      exact ⟨(slotAt_congr cleared n).trans (slotAt_onSlot length _), same.trans ports⟩
    have told (own : sl.origin = .power ∨ sl.origin = .timebase ∨ sl.origin = .link) :
        t = emptySlot n (tellOrigin n sl.origin popped) := by
      rw [served, serveOrigin_told (origin ▸ own), origin]
    refine ⟨fun unnamed => ?unnamed, stack, link, ?tag, others, fun p own kept => ?kept, fun p own displaced => ?displaced,
      emptied, fun e quake about => ?quake, fun own => ?timebase, fun own => ?power⟩
    case unnamed =>
      have same : popped = endedIn n st out s := endPreempting_other unnamed
      exact ⟨stack.trans (congrArg (·.nt.stack) same), link.trans (congrArg (·.link) same), fun m other =>
        (others m other).trans ((congrArg (slotAt m) same).trans (slotAt_endedIn_ne other))⟩
    case tag =>
      rw [← tag]
      rcases table with same | cleared
      · rw [same]
      · rw [cleared]; rfl
    case kept =>
      rw [serveOrigin_port (origin.trans own) (outcome ▸ kept)] at served
      rw [served]
      exact ⟨slot, (PerPort.get_update_self ..).trans (by rw [ports]; rfl)⟩
    case displaced =>
      subst displaced
      obtain ⟨told, cleared⟩ := finishSlot_displaced (st := st) inside own
      exact ⟨cleared, told⟩
    case quake =>
      have kind : (slotAt n popped).kind = sl.kind := by rw [slot]
      have told : t = unpinRecord e (writeOutcome e sl.kind out.alert (onSlot n (fun _ => .clear) popped)) := by
        rw [served, serveOrigin_quake (origin.trans quake) (event.trans about), kind, outcome]
        exact emptySlot_some (s := writeOutcome e sl.kind out.alert popped) (event.trans about)
      rw [told, unpinRecord_writeOutcome, ← ev]
      refine List.map_congr_left fun r _ => ?_
      by_cases own : r.seq = e
      · rw [if_pos own, if_neg (not_not.2 own)]
        cases out <;> rfl
      · rw [if_neg own, if_pos own]
    case timebase =>
      obtain ⟨nt, ev, rest⟩ := emptySlot_rest n (tellOrigin n sl.origin popped)
      rw [told (.inr (.inl own)), rest, own, ← tb]
      rfl
    case power =>
      obtain ⟨nt, ev, rest⟩ := emptySlot_rest n (tellOrigin n sl.origin popped)
      have gasp : (popped.pw.lastGasp.isSome && popped.pw.gaspRef == some n) =
          decide (popped.pw.lastGasp ≠ none ∧ popped.pw.gaspRef = some n) := by
        rw [Bool.eq_iff_iff]
        simp [Option.ne_none_iff_isSome]
      rw [told (.inl own), rest, own, ← pw, ← gasp]
      rfl

end Sys2Proof.Machine
end

section
/-! QUEUE_NOTICE, APPEND_NOTICE and RELEASE_NOTICE (R134 to R136). -/

namespace Sys2Proof.Machine

variable {s x : State} {n : Nat} {p : Port} {st : Status}

/-! ### QUEUE_NOTICE by its bytes (R135) -/

/-- The ranges of the first three bytes of QUEUE_NOTICE. -/
def QueueRanges (named code flags : Byte) : Prop :=
  code.toNat ≤ 2 ∧ (named.toNat ≤ 11 ∨ named = 255) ∧ flags.toNat ≤ 3

/-- The slot that QUEUE_NOTICE fills, as it is held. -/
def heldNotice (p : Port) (code flags : Byte) (payload : List Byte) : Slot :=
  { Slot.clear with
    state := .held, kind := .text, cls := .named code, origin := .port p, preemptible := flags.getLsbD 0
    payload := some payload }

/-- A state in which a slot has been filled and waits, with the next tag (R133, R138). -/
def queuedIn (n : Nat) (sl : Slot) (x : State) : State :=
  let tag := (x.nt.tagCounter + 1) % 256
  { x with
    nt := { x.nt with
      slots := x.nt.slots.set n { sl with tag := tag, queued := x.tb.now, state := .waiting, view := .notWaiting }
      tagCounter := tag }
    link := if sl.cls = .alarm ∧ x.link.health = .silent ∧ x.link.earlyUsed = false then
        { x.link with probeDue := true, probeAlarm := true, earlyUsed := true }
      else x.link }

theorem slotAt_queuedIn (inside : n < x.nt.slots.length) (sl : Slot) : slotAt n (queuedIn n sl x) =
    { sl with tag := (x.nt.tagCounter + 1) % 256, queued := x.tb.now, state := .waiting, view := .notWaiting } :=
  slotAt_set (f := (·.stack)) inside _

section
variable {named code flags : Byte} {payload : List Byte}

/-- With 255 the slot is that of any other request (R134). -/
theorem slotForQueue_any (all : named = 255) {c : NoticeClass} {got : Option Nat} (obtained : obtainSlot c s = (x, got)) :
    slotForQueue named.toNat c s = (x, got, .noSlot) := by
  subst all
  exact (if_pos rfl).trans (by rw [obtained])

theorem byte_eq_255 : named = 255 ↔ named.toNat = 255 := BitVec.toNat_inj (y := 255).symm

theorem runQueueNotice_outOfRange (bad : ¬QueueRanges named code flags) (p : Port) (s : State) :
    runQueueNotice p ([named, code, flags] ++ payload) s = refuse .outOfRange s := by
  simp only [runQueueNotice, natAt_one, List.cons_append, List.getD_cons_zero, List.getD_cons_succ, NoticeClass.ofCode_byte]
  by_cases low : code.toNat ≤ 2
  · have range : (11 < named.toNat ∧ named.toNat ≠ 255) ∨ 3 < flags.toNat := by
      simp only [QueueRanges, byte_eq_255, low, true_and] at bad
      omega
    simp only [if_pos low, range, or_true, if_true]
  · simp only [if_neg low]

theorem QueueRanges.admitted (ok : QueueRanges named code flags) (fits : payload.length ≤ 61) :
    ¬(payload.length + 1 + 1 + 1 < 3 ∨ 64 < payload.length + 1 + 1 + 1 ∨ (11 < named.toNat ∧ named.toNat ≠ 255) ∨
      3 < flags.toNat) := by
  obtain ⟨low, number, flag⟩ := ok
  rw [byte_eq_255] at number
  omega

theorem runQueueNotice_refuses (fits : payload.length ≤ 61) (ok : QueueRanges named code flags)
    (got : slotForQueue named.toNat (.named code) s = (x, none, st)) :
    runQueueNotice p ([named, code, flags] ++ payload) s = refuse st s := by
  simp only [runQueueNotice, natAt_one, List.cons_append, List.getD_cons_zero, List.getD_cons_succ, NoticeClass.ofCode_byte,
    if_pos ok.1, List.nil_append, List.length_cons, if_neg (ok.admitted fits), got]

/-- A slot that QUEUE_NOTICE takes is held or waits, by the second flag. -/
theorem runQueueNotice_fills (fits : payload.length ≤ 61) (ok : QueueRanges named code flags)
    (got : slotForQueue named.toNat (.named code) s = (x, some n, st)) (inside : n < x.nt.slots.length) :
    runQueueNotice p ([named, code, flags] ++ payload) s =
      if flags.getLsbD 1 then
        taken (be 1 n ++ [0])
          (settle (x.onNt fun nt => { nt with slots := nt.slots.set n (heldNotice p code flags payload) }))
      else
        taken (be 1 n ++ be 1 ((x.nt.tagCounter + 1) % 256)) (settle (queuedIn n (heldNotice p code flags payload) x)) := by
  have held : (onSlot n (fun _ => heldNotice p code flags payload) x) = x.onNt fun nt =>
    { nt with slots := nt.slots.set n (heldNotice p code flags payload) } := onSlot_eq_set inside _
  have waits : waitWithTag n (onSlot n (fun _ => heldNotice p code flags payload) x) =
    queuedIn n (heldNotice p code flags payload) x := waitWithTag_filled rfl inside
  have run : runQueueNotice p ([named, code, flags] ++ payload) s =
      let y := if flags.getLsbD 1 then onSlot n (fun _ => heldNotice p code flags payload) x
        else waitWithTag n (onSlot n (fun _ => heldNotice p code flags payload) x)
      taken (be 1 n ++ be 1 (slotAt n y).tag) (settle y) := by
    simp only [runQueueNotice, natAt_one, List.cons_append, List.getD_cons_zero, List.getD_cons_succ,
      NoticeClass.ofCode_byte, if_pos ok.1, List.nil_append, List.length_cons, if_neg (ok.admitted fits), got]
    rfl
  rw [run, waits, held]
  cases flags.getLsbD 1
  · simp only [Bool.false_eq_true, if_false, slotAt_queuedIn inside]
  · have untagged : be 1 (heldNotice p code flags payload).tag = [0] := be_one_toNat 0
    simp only [if_true, slotAt_set (f := (·.stack)) inside, untagged]

end

/-! ### APPEND_NOTICE and RELEASE_NOTICE (R136) -/

theorem heldSlot_held (inside : n ≤ 11) (state : (slotAt n s).state = .held) (own : (slotAt n s).origin = .port p) :
    heldSlot p n s = .ok := by
  simp only [heldSlot, if_neg (Nat.not_lt.2 inside), state, own, ne_eq, not_true_eq_false, if_false, reduceCtorEq]

/-- The refusals of both commands, in their order. -/
def HeldRefusal (p : Port) (n : Nat) (sl : Slot) (st : Status) : Prop :=
  (11 < n ∧ st = .outOfRange) ∨ (n ≤ 11 ∧ sl.state = .empty ∧ st = .notFound) ∨
  (n ≤ 11 ∧ sl.state ≠ .empty ∧ sl.origin ≠ .port p ∧ st = .denied) ∨
  (n ≤ 11 ∧ sl.state ≠ .empty ∧ sl.state ≠ .held ∧ sl.origin = .port p ∧ st = .busy)

theorem heldSlot_refuses (is : HeldRefusal p n (slotAt n s) st) : heldSlot p n s = st ∧ st ≠ .ok := by
  rcases is with ⟨beyond, rfl⟩ | ⟨inside, empty, rfl⟩ | ⟨inside, used, foreign, rfl⟩ | ⟨inside, used, unheld, own, rfl⟩
  · exact ⟨if_pos beyond, nofun⟩
  · exact ⟨(if_neg (Nat.not_lt.2 inside)).trans (if_pos empty), nofun⟩
  · exact ⟨(if_neg (Nat.not_lt.2 inside)).trans ((if_neg used).trans (if_pos foreign)), nofun⟩
  · exact ⟨(if_neg (Nat.not_lt.2 inside)).trans ((if_neg used).trans ((if_neg (not_not.2 own)).trans (if_pos unheld))),
      nofun⟩

section
variable {slot : Byte} {bytes : List Byte}

theorem appendNotice_range (fits : bytes ≠ [] ∧ bytes.length ≤ 63) : ¬(bytes.length + 1 < 2 ∨ 64 < bytes.length + 1) := by
  have positive : 0 < bytes.length := List.length_pos_of_ne_nil fits.1
  omega

theorem runAppendNotice_refuses (fits : bytes ≠ [] ∧ bytes.length ≤ 63)
    (is : HeldRefusal p slot.toNat (slotAt slot.toNat s) st) : runAppendNotice p (slot :: bytes) s = refuse st s := by
  obtain ⟨status, bad⟩ := heldSlot_refuses is
  simp only [runAppendNotice, natAt_one, List.getD_cons_zero, List.length_cons, if_neg (appendNotice_range fits), status,
    if_pos bad]

theorem runAppendNotice_held {old : List Byte} (fits : bytes ≠ [] ∧ bytes.length ≤ 63) (held : heldSlot p slot.toNat s = .ok)
    (payload : (slotAt slot.toNat s).payload = some old) : runAppendNotice p (slot :: bytes) s =
      if 128 < old.length + bytes.length then refuse .outOfRange s
      else taken (be 1 (old.length + bytes.length))
        (onSlot slot.toNat (fun sl => { sl with payload := some (old ++ bytes) }) s) := by
  simp only [runAppendNotice, natAt_one, List.getD_cons_zero, List.length_cons, if_neg (appendNotice_range fits), held,
    ne_eq, not_true_eq_false, if_false, payload, Option.getD_some, List.drop_succ_cons, List.drop_zero, List.length_append]

theorem runReleaseNotice_refuses (is : HeldRefusal p slot.toNat (slotAt slot.toNat s) st) :
    runReleaseNotice p [slot] s = refuse st s := by
  obtain ⟨status, bad⟩ := heldSlot_refuses is
  simp only [runReleaseNotice, natAt_last, List.length_singleton, ne_eq, not_true_eq_false, if_false, status, if_pos bad]

theorem runReleaseNotice_held (held : heldSlot p slot.toNat s = .ok) (inside : slot.toNat < s.nt.slots.length) :
    runReleaseNotice p [slot] s =
      taken (be 1 ((s.nt.tagCounter + 1) % 256)) (settle (queuedIn slot.toNat (slotAt slot.toNat s) s)) := by
  have waits : waitWithTag slot.toNat s = queuedIn slot.toNat (slotAt slot.toNat s) s := waitWithTag_eq inside
  simp only [runReleaseNotice, natAt_last, List.length_singleton, ne_eq, not_true_eq_false, if_false, held, waits,
    slotAt_queuedIn inside]

end

/-- Settles O43: QUEUE_NOTICE by the slot that it obtains, APPEND_NOTICE and RELEASE_NOTICE by the slot that they name. -/
theorem portNoticesAreComposed : Obligations.PortNoticesAreComposed := by
  refine ⟨fun p tag named code flags payload s adm fits twelve => ?queue, fun p tag slot s adm twelve => ?held⟩
  case queue =>
    intro args ok cls held next
    have other (low : named.toNat ≤ 11) : named.toNat ≠ 255 := by omega
    have full (used : ∀ m, m < 12 → (slotAt m s).state ≠ .empty) : emptySlotNumber (s.taking p tag) = none :=
      emptySlotNumber_none (s := s.taking p tag) used
    have fills {n : Nat} {x : State} {st : Status} (good : ok)
        (got : slotForQueue named.toNat cls (s.taking p tag) = (x, some n, st)) (inside : n < x.nt.slots.length) :
        (flags.getLsbD 1 = true → exec (.queueNotice p tag args) s =
          .next ((settle (x.onNt fun nt => { nt with slots := nt.slots.set n held })).replied p tag (be 1 n ++ [0]))) ∧
        (flags.getLsbD 1 = false → exec (.queueNotice p tag args) s =
          .next ((settle (queuedIn n held x)).replied p tag (be 1 n ++ be 1 ((x.nt.tagCounter + 1) % 256)))) := by
      have run := runQueueNotice_fills (p := p) fits good got inside
      exact ⟨fun hold => request_takes adm (run.trans (if_pos hold)),
        fun waits => request_takes adm (run.trans (if_neg (Bool.eq_false_iff.1 waits)))⟩
    refine ⟨fun bad => ?_, fun good low used => ?_, fun good any used kept => ?_, fun n good low empty which => ?_, ?_⟩
    · exact request_answers adm (runQueueNotice_outOfRange bad ..)
    · have got : slotForQueue named.toNat cls (s.taking p tag) = (s.taking p tag, none, .busy) :=
        (if_neg (other low)).trans (if_neg used)
      exact request_answers adm (runQueueNotice_refuses fits good got)
    · have obtained : obtainSlot cls (s.taking p tag) = (s.taking p tag, none) :=
        obtainSlot_full (full used) fun alarm => displaceVictim_none fun m low => Bool.eq_false_iff.2 fun able => by
          obtain ⟨oneShot, waits, routine⟩ := Slot.displaceable_iff.1 able
          exact absurd (kept alarm m low waits routine) (Bool.eq_false_iff.1 oneShot)
      exact request_answers adm (runQueueNotice_refuses fits good (slotForQueue_any any obtained))
    · have inside : n < (s.taking p tag).nt.slots.length := show n < s.nt.slots.length by omega
      rcases which with rfl | ⟨any, lowest⟩
      · have got : slotForQueue named.toNat cls (s.taking p tag) = (s.taking p tag, some named.toNat, .ok) :=
          (if_neg (other (by omega))).trans (if_pos empty)
        exact fills good got inside
      · have found := emptySlotNumber_of (s := s.taking p tag) low empty lowest
        exact fills good (slotForQueue_any any (obtainSlot_empty found cls)) inside
    · intro displaceable v good any alarm used given oldest out counted
      obtain ⟨low, able⟩ := given
      have victim : displaceVictim (s.taking p tag) = some v := displaceVictim_of low (Slot.displaceable_iff.2 able)
        fun m low able => oldest m ⟨low, Slot.displaceable_iff.1 able⟩
      obtain ⟨⟨slots, stack, nt, length⟩, now⟩ := finishSlot_table (s := s.taking p tag)
        (show v < s.nt.slots.length by omega) .displaced .displaced
      have displacements : out.nt.displacements = s.nt.displacements := by rw [nt]; rfl
      have tagCounter : out.nt.tagCounter = s.nt.tagCounter := by rw [nt]; rfl
      have inside : v < out.nt.slots.length := by rw [nt]; exact length ▸ show v < s.nt.slots.length by omega
      have obtained : obtainSlot cls (s.taking p tag) = ({ out with nt := counted }, some v) := by
        rw [alarm, obtainSlot_displaces (full used) victim]
        simp only [counted, ← displacements]
        rfl
      refine (fills good (slotForQueue_any any obtained) inside).imp_right fun waits held' => (waits held').trans ?_
      have mark : held.cls = .alarm := alarm
      have time : out.tb.now = s.tb.now := now
      simp only [queuedIn, counted, tagCounter, time, mark, true_and]
      rfl
  case held =>
    intro n sl refused next
    have held (inside : n ≤ 11) (state : sl.state = .held) (own : sl.origin = .port p) :
        heldSlot p n (s.taking p tag) = .ok := heldSlot_held (s := s.taking p tag) inside state own
    have length (inside : n ≤ 11) : n < (s.taking p tag).nt.slots.length := show n < s.nt.slots.length by omega
    refine ⟨fun st is => ?_, fun st bytes is nonempty fits => ?_, fun old bytes inside state own payload nonempty fits => ?_,
      fun inside state own => ?_⟩
    · exact request_answers adm (runReleaseNotice_refuses is)
    · exact request_answers adm (runAppendNotice_refuses ⟨nonempty, fits⟩ is)
    · have append := runAppendNotice_held (s := s.taking p tag) ⟨nonempty, fits⟩ (held inside state own) payload
      refine ⟨fun room => ?_, fun full => request_answers adm (append.trans (if_pos full))⟩
      rw [if_neg (Nat.not_lt.2 room), onSlot_eq_set (length inside)] at append
      exact request_leaves adm append
    · exact request_takes adm (runReleaseNotice_held (held inside state own) (length inside))

end Sys2Proof.Machine
end
